-- ==== Sys2Proof/Word.lean ====
section
/-! DEFINITION. The word types of the part: bytes of its messages, binary angles, frame numbers. -/

namespace Sys2Proof

/-- A byte of a bus message, a service block or a record. -/
abbrev Byte := BitVec 8

/-- A binary angle, 65,536 units to the turn (00, "Angles"): held modulo 65,536, read signed by `toInt`. -/
abbrev Angle := BitVec 16

/-- A pose frame number (R13): 32 bits, wrapping. -/
abbrev FrameNo := BitVec 32

end Sys2Proof
end

