-- ==== Sys2Proof/Syntax.lean ====
section
/-! DEFINITION. The records the blocks hand one another and the commands: one constructor of `Instr` for each
row of spec/opcode_table.json, in the table's order. -/

namespace Sys2Proof

/-! ## Ports, engines, sensor slots -/

/-- The two CAN ports (11). -/
inductive Port where
  | a | b
deriving DecidableEq, Repr

/-- The two engines (07, section 7.1): E1 served by GOV1, E2 by GOV2. -/
inductive Engine where
  | e1 | e2
deriving DecidableEq, Repr

/-- The state of a sensor slot (R3). -/
inductive SlotState where
  | unused | fresh | held | invalid
deriving DecidableEq, Repr

/-- One angle of a pose frame with the state of its slot (R14). -/
structure Reading where
  value : Angle
  state : SlotState
deriving DecidableEq, Repr

/-- Why a pose is invalid (R12); `none` for a valid pose. -/
inductive InvalidCause where
  | none | angleInvalid | disagree | both
deriving DecidableEq, Repr

/-- The pose frame the SPU hands the GEU (R14). -/
structure PoseFrame where
  frame : FrameNo
  periods : Nat
  late : Bool
  slew : Reading
  boom : Reading
  arm : Reading
  bucket : Reading
  pitch : Reading
  check : Option Reading
  short : Bool
  disagree : Bool
  valid : Bool
  cause : InvalidCause
deriving DecidableEq, Repr

/-- Which of reach and height were moved to a bound (R25). -/
inductive Limited where
  | no | reach | height | both
deriving DecidableEq, Repr

/-- The pose record of the GEU (R30): every field of the pose frame, and the geometry. -/
structure PoseRecord where
  pose : PoseFrame
  phi1 : Angle
  phi2 : Angle
  phi3 : Angle
  reach : Int
  height : Int
  limited : Limited
  rate : Int
  rateUnknown : Bool
  slewInc : Option Nat
deriving DecidableEq, Repr

/-! ## Cycle, guidance, zones -/

/-- The phases of a bucket cycle (03, section 3.1). -/
inductive Phase where
  | idle | dig | swingOut | dump | swingBack
deriving DecidableEq, Repr

/-- The cues of R62 and R61. -/
inductive Cue where
  | off | noTarget | noPose | aboveFar | aboveNear | onGrade | belowNear | belowFar
deriving DecidableEq, Repr

/-- A grade target (R49), each field as it was received. That `auto` is 1 for set and 0 for clear is a DESIGN CHOICE
(log 34): R49 gives no codes. -/
structure Target where
  id : Int
  r0 : Int
  z0 : Int
  slope : Int
  tol : Int
  near : Int
  guard : Int
  auto : Int
  passCycles : Int
  onGradeFrames : Int
deriving DecidableEq, Repr

/-- The kind of a zone (R69). -/
inductive ZoneKind where
  | slewWall | ceiling | floor
deriving DecidableEq, Repr

/-- The mode of a zone (R69). -/
inductive ZoneMode where
  | off | warn | enforce
deriving DecidableEq, Repr

/-- The definition fields of a zone entry (R69). -/
structure ZoneDef where
  kind : ZoneKind
  mode : ZoneMode
  s : Angle
  e : Angle
  reachMin : Nat
  reachMax : Nat
  limit : Int
  stop : Nat
  band : Nat
deriving DecidableEq, Repr

/-- A zone edit as it arrives, before the check of R72: kind and mode as their codes. -/
structure ZoneFields where
  kind : Nat
  mode : Nat
  s : Angle
  e : Angle
  reachMin : Int
  reachMax : Int
  limit : Int
  stop : Int
  band : Int
deriving DecidableEq, Repr

/-- The runtime states of a zone (05, section 5.5). -/
inductive ZoneState where
  | clear | approach | limiting | breached
deriving DecidableEq, Repr

/-- One entry of a frame zone set (R76); its index is its position. -/
structure FrameZone where
  zone : ZoneDef
  suspended : Bool
deriving DecidableEq, Repr

/-- One entry of a floor list, with the fields R60 names. -/
structure FloorZone where
  index : Nat
  s : Angle
  e : Angle
  reachMin : Nat
  reachMax : Nat
  floorZ : Int
  stop : Nat
deriving DecidableEq, Repr

/-! ## Faults, consequences, frames and requests -/

/-- The fault codes of R153, in the order of their code numbers. -/
inductive FaultCode where
  | frameOverrun | sensorMissing | sensorRange | sensorDisagree | geometryRange | poseLostMoving
  | zoneBreach | breachDeep | engineLost | startFailed | gov1Stale | gov2Stale | pcuStale | cabStale
  | busAOff | busBOff | nvWriteFail | nvRestoreBad | cfgInvalid
deriving DecidableEq, Repr

/-- A fault report (R152): `clearing` is set for the clearing of a recoverable fault. -/
structure FaultReport where
  code : FaultCode
  clearing : Bool
  detail : Int
  frame : Option FrameNo
deriving DecidableEq, Repr

/-- The consequence summary of the SMU (R142). -/
structure Consequences where
  capEconomy : Bool
  excludeE1 : Bool
  excludeE2 : Bool
deriving DecidableEq, Repr

/-- How a received frame is marked (R174). -/
inductive FrameFormat where
  | standard | extended | remote
deriving DecidableEq, Repr

/-- What R174 judges of a received frame. -/
structure RxFrame where
  port : Port
  format : FrameFormat
  id : Nat
  length : Nat
deriving DecidableEq, Repr

/-- A CAB_REQUEST as taken in (R183): request number, kind code, part number, and the operands of its kind in the
order of the table of R183. -/
structure CabFrame where
  number : Byte
  kind : Byte
  part : Byte
  ops : List Int
deriving DecidableEq, Repr

/-! ## The commands -/

/-- The commands: one constructor for each row of spec/opcode_table.json, in the table's order. A request routed to
its owner carries as `place` the number of the result place port A reserved for it (R183). -/
inductive Instr where
  | powerOn
  | supplyLoss
  | frameTimerExpiry
  | transferComplete (bits : List Bool)
  | geuPoseFrame (pose : PoseFrame)
  | cytPoseRecord (rec : PoseRecord)
  | cueResult (frame : FrameNo) (cue : Cue)
  | cytPumpStatus (travel : Bool)
  | cytPcuStaleness
  | cytPcuFreshness
  | gguPoseRecord (rec : PoseRecord)
  | floorList (frame : FrameNo) (floors : List FloorZone)
  | phaseReport (frame : FrameNo) (phase : Phase)
  | gguCycleEnd (onGrade : Nat)
  | envPoseRecord (rec : PoseRecord)
  | suspensionTimerExpiry
  | envCabStaleness
  | stateReport (frame : FrameNo) (states : List ZoneState)
  | levPoseRecord (rec : PoseRecord)
  | frameZoneSet (frame : FrameNo) (zones : List FrameZone)
  | assistRequest (frame : FrameNo) (percent : Nat)
  | levHoldEntry
  | levHoldClear
  | planIntervalExpiry
  | epcEngineStatus (engine : Engine) (code : Byte) (load speed fuel : Nat)
  | epcPumpStatus (demand : Nat) (neutral : Bool)
  | epcPcuStaleness
  | epcPcuFreshness
  | governorStaleness (engine : Engine)
  | governorFreshness (engine : Engine)
  | consequenceSummary (marks : Consequences)
  | epcHoldEntry
  | epcHoldClear
  | epcCycleEnd
  | tripFuelIncrement (units : Nat)
  | smuOneSecondStep
  | slewIncrement (bau : Nat)
  | smuCycleEnd
  | smuPumpStatus (travel : Bool)
  | smuPcuStaleness
  | smuPcuFreshness
  | faultReport (report : FaultReport)
  | nvWriteComplete (ok : Bool)
  | keyOff
  | keyOn
  | pwrfailAssert
  | pwrfailDeassert
  | supervisorRestart
  | stepTimerExpiry (port : Port)
  | ignoredFrame (rx : RxFrame)
  | pumpStatus (data : List Byte)
  | engineStatus (engine : Engine) (data : List Byte)
  | cabRequest (request : CabFrame)
  | transmissionEnd (port : Port) (ok : Bool)
  | busRejoin (port : Port)
  | statusTimerExpiry
  | presence (number : Byte)
  | unknownRequestKind (number kind : Byte)
  | requestPart0 (number kind : Byte) (ops : List Int)
  | unmatchedPart1 (number kind : Byte) (ops : List Int)
  | setMode (place : Nat) (mode : Int)
  | autoSingle (place : Nat) (on : Bool)
  | autoIdle (place : Nat) (on : Bool)
  | tripReset (place : Nat)
  | guidanceOn (place : Nat)
  | guidanceOff (place : Nat)
  | assistOn (place : Nat)
  | assistOff (place : Nat)
  | targetLoad (place : Nat) (target : Target)
  | targetAdvance (place : Nat)
  | targetClear (place : Nat)
  | zoneEdit (place : Nat) (index : Int) (fields : ZoneFields)
  | zoneSuspend (place : Nat) (index : Int) (seconds : Nat)
  | reminderAck (place : Nat) (item : Nat)
  | cabItemDone (place : Nat) (item : Nat)
  | requestBlock (block : List Byte)
  | shortBlock (block : List Byte)
  | linkBusyRefusal (block : List Byte)
  | answerRead
  | maintenanceEnableChange (high : Bool)
  | unknownOperation
  | levelRefusal
  | selectTable (table index : Nat)
  | readEntries (n : Nat)
  | writeEntries (n : Nat) (data : List Byte)
  | itemDone (item : Nat)
  | meterPreset (meter value : Nat)
  | suspendZone (index seconds : Nat)
  | clearHold
  | clearFailed (engine : Nat)
  | commitConfig
  | restart
  | takeNotice
  | envCabFreshness
deriving DecidableEq, Repr

end Sys2Proof
end

