-- ==== Sys2Proof/Config.lean ====
section
/-! DEFINITION. What the part fixes (R191, IDENT) and the free values: the values spec/ leaves open are constants
with no body, so that nothing can be proved of them. -/

namespace Sys2Proof

/-- The part code of IDENT (R191). -/
def Config.partCode : Nat := 7420

/-- The silicon revision of IDENT (R191). -/
def Config.siliconRevision : Nat := 1

/-- The configuration layout version of the part (R167, R191). -/
def Config.layoutVersion : Nat := 1

/-- The configuration field count of IDENT (R191, R194). -/
def Config.fieldCount : Nat := 136

/-- FREE VALUE (log 11): the byte at a position of a table entry to which no rule gives a value, by occurrence. -/
opaque Config.unstatedByte : Nat → Nat → Byte

/-- FREE VALUE (log 11): the detail of an answer to which no rule gives a detail, by occurrence. -/
opaque Config.unstatedDetail : Nat → BitVec 16

/-- FREE VALUE (log 11): the residue of an answer to which no rule gives a residue, by occurrence. -/
opaque Config.unstatedResidue : Nat → Byte

/-- FREE VALUE (log 6): whether the copy of a write cut by a loss of supply passes its check afterwards (R169). -/
opaque Config.cutWritePasses : Nat → Bool

/-- FREE VALUE (log 6): whether a copy that passes after a cut write holds the new content (R169). -/
opaque Config.cutWriteNew : Nat → Bool

end Sys2Proof
end

