-- ==== Sys2Proof/Machine/Settings.lean ====
section
/-! DEFINITION. The configuration the blocks work with: the 136 fields of R194, their validity conditions (R4, R19,
R35, R50, R89, R112, R175), the built-in defaults, and the settings each block takes from them. -/

namespace Sys2Proof.Machine

open Sys2Proof

/-- The roles of a sensor slot (R3). -/
inductive Role where
  | unused | slew | boom | arm | bucket | pitch | boomCheck
deriving DecidableEq, Repr

/-- The configured fields of one sensor slot (R3); `negate` is direction −1. -/
structure SlotCfg where
  role : Role
  wordSize : Nat
  lsbFirst : Bool
  pos : Nat
  width : Nat
  okPos : Nat
  zero : Angle
  negate : Bool
  pmin : Int
  pmax : Int
deriving DecidableEq, Repr

/-- The SPU parameters (R3). -/
structure SpuCfg where
  framePeriod : Nat
  holdFrames : Nat
  checkTol : Nat
  slots : List SlotCfg
deriving DecidableEq, Repr

/-- The GEU parameters (R19). -/
structure GeuCfg where
  footReach : Int
  footHeight : Int
  boomLen : Int
  armLen : Int
  bucketLen : Int
  reachMin : Int
  reachMax : Int
  zMin : Int
  zMax : Int
deriving DecidableEq, Repr

/-- The CYT parameters (R35). -/
structure CytCfg where
  digZ : Int
  digSlewMax : Nat
  swingMin : Nat
  swingFrames : Nat
  dumpOpen : Nat
  dumpHyst : Nat
  phaseMax : Nat
deriving DecidableEq, Repr

/-- The GGU parameters (R50). -/
structure GguCfg where
  guidanceDefault : Bool
  assistDefault : Bool
deriving DecidableEq, Repr

/-- The LEV parameters (R89). -/
structure LevCfg where
  slewDecel : Nat
  rateFull : Nat
  reactFrames : Nat
  exitCeiling : Nat
  fallback : Nat
  deepBau : Nat
  deepZ : Nat
  holdLower : Nat
deriving DecidableEq, Repr

/-- The power modes (R114), in their order. -/
inductive Mode where
  | economy | standard | power
deriving DecidableEq, Repr

/-- The EPC parameters (R112). -/
structure EpcCfg where
  ratedE1 : Nat
  ratedE2 : Nat
  reserve : Nat
  ecoSpeed : Nat
  stdSpeed : Nat
  powSpeed : Nat
  ecoRatio : Nat
  stdRatio : Nat
  powRatio : Nat
  modeDefault : Mode
  autoSingleDefault : Bool
  autoIdleDefault : Bool
  idleRpm : Nat
  idleDelay : Nat
  singleEnter : Nat
  twinEnter : Nat
  downIntervals : Nat
  cooldownIntervals : Nat
  startIntervals : Nat
  restartDwell : Nat
  balanceUnits : Nat
  holdKw : Nat
deriving DecidableEq, Repr

/-- The byte orders of a machine bus node (R175). -/
inductive ByteOrder where
  | highFirst | lowFirst
deriving DecidableEq, Repr

/-- The ports' parameters (R175). -/
structure PortCfg where
  rateA : Nat
  rateB : Nat
  pcuOrder : ByteOrder
  gov1Order : ByteOrder
  gov2Order : ByteOrder
deriving DecidableEq, Repr

/-- The configuration every block works with until the next power-on or restart. -/
structure Settings where
  spu : SpuCfg
  geu : GeuCfg
  cyt : CytCfg
  ggu : GguCfg
  lev : LevCfg
  epc : EpcCfg
  ports : PortCfg
deriving DecidableEq, Repr

/-! ## Reading the fields of R194 -/

/-- Field `k` (1..136) of a configuration. -/
def fieldAt (l : List Int) (k : Nat) : Int := l.getD (k - 1) 0

/-- Role codes in the order of R3's table (R194). -/
def roleOf (v : Int) : Role :=
  if v = 1 then .slew else if v = 2 then .boom else if v = 3 then .arm else if v = 4 then .bucket
  else if v = 5 then .pitch else if v = 6 then .boomCheck else .unused

/-- Mode codes (R194, R183). -/
def modeOf (v : Int) : Mode :=
  if v = 0 then .economy else if v = 1 then .standard else .power

/-- Byte order codes in the order of R175's table (R194). -/
def orderOf (v : Int) : ByteOrder := if v = 0 then .highFirst else .lowFirst

/-- Slot `k` of a configuration: its ten fields start at 4 + 10k (R194). -/
def slotOfFields (l : List Int) (k : Nat) : SlotCfg :=
  let f := fun i => fieldAt l (4 + 10 * k + i)
  { role := roleOf (f 0), wordSize := (f 1).toNat, lsbFirst := f 2 = 1, pos := (f 3).toNat,
    width := (f 4).toNat, okPos := (f 5).toNat, zero := BitVec.ofInt 16 (f 6), negate := f 7 = -1,
    pmin := f 8, pmax := f 9 }

/-- The settings the fields of a configuration stand for (R194). -/
def Settings.ofFields (l : List Int) : Settings :=
  let n := fun k => (fieldAt l k).toNat
  let z := fun k => fieldAt l k
  { spu := { framePeriod := n 1, holdFrames := n 2, checkTol := n 3,
             slots := (List.range 8).map (slotOfFields l) }
    geu := { footReach := z 84, footHeight := z 85, boomLen := z 86, armLen := z 87, bucketLen := z 88,
             reachMin := z 89, reachMax := z 90, zMin := z 91, zMax := z 92 }
    cyt := { digZ := z 93, digSlewMax := n 94, swingMin := n 95, swingFrames := n 96, dumpOpen := n 97,
             dumpHyst := n 98, phaseMax := n 99 }
    ggu := { guidanceDefault := z 100 = 1, assistDefault := z 101 = 1 }
    lev := { slewDecel := n 102, rateFull := n 103, reactFrames := n 104, exitCeiling := n 105,
             fallback := n 106, deepBau := n 107, deepZ := n 108, holdLower := n 109 }
    epc := { ratedE1 := n 110, ratedE2 := n 111, reserve := n 112, ecoSpeed := n 113, stdSpeed := n 114,
             powSpeed := n 115, ecoRatio := n 116, stdRatio := n 117, powRatio := n 118,
             modeDefault := modeOf (z 119), autoSingleDefault := z 120 = 1, autoIdleDefault := z 121 = 1,
             idleRpm := n 122, idleDelay := n 123, singleEnter := n 124, twinEnter := n 125,
             downIntervals := n 126, cooldownIntervals := n 127, startIntervals := n 128,
             restartDwell := n 129, balanceUnits := n 130, holdKw := n 131 }
    ports := { rateA := n 132, rateB := n 133, pcuOrder := orderOf (z 134), gov1Order := orderOf (z 135),
               gov2Order := orderOf (z 136) } }

/-! ## The built-in defaults -/

/-- The ten fields of a default slot (R4): a used slot, and (DESIGN CHOICE, log 8) an UNUSED one alike. -/
def defaultSlotFields (role : Int) : List Int := [role, 24, 0, 4, 16, 23, 0, 1, -32768, 32767]

/-- The built-in SPU defaults (R4). -/
def defaultSpuFields : List Int :=
  [10, 3, 182] ++ defaultSlotFields 1 ++ defaultSlotFields 2 ++ defaultSlotFields 3 ++ defaultSlotFields 4
    ++ defaultSlotFields 5 ++ defaultSlotFields 0 ++ defaultSlotFields 0 ++ defaultSlotFields 0

/-- The built-in defaults of GEU (R19), CYT (R35), GGU (R50) and LEV (R89). -/
def defaultFrontFields : List Int :=
  [1200, 3100, 9000, 4500, 2200, 0, 32767, -32768, 32767]
    ++ [1000, 4, 6, 3, 60000, 1820, 6000] ++ [1, 0] ++ [64, 44, 4, 25, 20, 1820, 500, 20]

/-- The built-in defaults of EPC (R112) and the ports (R175). -/
def defaultPlanFields : List Int :=
  [1250, 1250, 150, 1500, 1650, 1800, 80, 90, 100, 1, 1, 1, 900, 50, 700, 850, 600, 300, 200, 3000, 5000, 200]
    ++ [250, 250, 1, 1, 1]

/-- The built-in configuration, as fields 1..136. -/
def builtInFields : List Int := defaultSpuFields ++ defaultFrontFields ++ defaultPlanFields

/-- The settings of the built-in configuration. -/
def Settings.builtIn : Settings := Settings.ofFields builtInFields

/-! ## Validity -/

/-- `v` lies in `a..b`. -/
def within (a b v : Int) : Bool := decide (a ≤ v) && decide (v ≤ b)

/-- `v` is a 0 or a 1: a switch or a code of two values (R194). -/
def isBit (v : Int) : Bool := within 0 1 v

/-- No slot before slot `k` holds the role code `r`. -/
def roleUnheldBefore (l : List Int) (k : Nat) (r : Int) : Bool :=
  (List.range k).all fun j => fieldAt l (4 + 10 * j) != r

/-- Each of the roles SLEW, BOOM, ARM, BUCKET and PITCH is held by some slot (R4). -/
def requiredRolesHeld (l : List Int) : Bool :=
  [1, 2, 3, 4, 5].all fun r => (List.range 8).any fun j => fieldAt l (4 + 10 * j) == r

/-- Field `i` (0..9) of slot `k` meets the conditions that fail on it (R4, R194): a condition joining several fields
fails on the highest-numbered field it names (log 19). -/
def slotFieldOk (l : List Int) (k i : Nat) : Bool :=
  let f := fun i => fieldAt l (4 + 10 * k + i)
  let used := f 0 != 0
  match i with
  | 0 => within 0 6 (f 0) && (!used || roleUnheldBefore l k (f 0)) && (k != 7 || requiredRolesHeld l)
  | 1 => f 1 == 16 || f 1 == 24 || f 1 == 32
  | 2 => isBit (f 2)
  | 3 => within 0 31 (f 3)
  | 4 => within 12 20 (f 4) && (!used || decide (f 3 + f 4 ≤ f 1))
  | 5 => within 0 31 (f 5)
      && (!used || (decide (f 5 < f 1) && (decide (f 5 < f 3) || decide (f 3 + f 4 ≤ f 5))))
  | 6 => within 0 65535 (f 6)
  | 7 => f 7 == 1 || f 7 == -1
  | 8 => within (-32768) 32767 (f 8)
  | _ => within (-32768) 32767 (f 9) && (!used || decide (f 8 ≤ f 9))

/-- The conditions of GEU, CYT, GGU and LEV that fail on field `k` (R19, R35, R50, R89). -/
def frontFieldOk (l : List Int) (k : Nat) : Bool :=
  let z := fun k => fieldAt l k
  let v := z k
  if k = 84 then within 0 5000 v else if k = 85 then within 0 8000 v
  else if k ≤ 88 then within 500 20000 v
  else if k = 89 then within 0 32767 v else if k = 90 then within 0 32767 v && decide (z 89 ≤ v)
  else if k = 91 then within (-32768) 32767 v
  else if k = 92 then within (-32768) 32767 v && decide (z 91 ≤ v)
  else if k = 93 then within (-20000) 20000 v else if k = 94 then within 0 2047 v
  else if k = 95 then within 1 2047 v && decide (z 94 < v)
  else if k = 96 then within 1 255 v else if k = 97 then within 0 65535 v
  else if k = 98 then within 1 16383 v && decide (v ≤ z 97)
  else if k = 99 then within 100 65535 v
  else if k ≤ 101 then isBit v
  else if k = 102 then within 1 4095 v else if k = 103 then within 1 2047 v
  else if k = 104 then within 0 15 v else if k = 105 then within 0 100 v
  else if k = 106 then within 0 100 v else if k = 107 then within 0 32767 v
  else if k = 108 then within 0 10000 v else within 0 100 v

/-- The conditions of EPC and the ports that fail on field `k` (R112, R175). The lower bound idle_rpm + 1 of the three
rated speeds joins each of them with idle_rpm and fails there (log 19). -/
def planFieldOk (l : List Int) (k : Nat) : Bool :=
  let z := fun k => fieldAt l k
  let v := z k
  if k ≤ 111 then within 100 4000 v else if k = 112 then within 0 1000 v
  else if k ≤ 114 then decide (v ≤ 2200)
  else if k = 115 then decide (v ≤ 2200) && decide (z 113 ≤ z 114) && decide (z 114 ≤ v)
  else if k ≤ 117 then within 1 100 v
  else if k = 118 then within 1 100 v && decide (z 116 ≤ z 117) && decide (z 117 ≤ v)
  else if k = 119 then within 0 2 v else if k ≤ 121 then isBit v
  else if k = 122 then within 600 1200 v && decide (v < z 113) && decide (v < z 114) && decide (v < z 115)
  else if k = 123 then within 1 3000 v else if k = 124 then within 0 4000 v
  else if k = 125 then within (z 124 + 1) 4000 v
  else if k ≤ 128 then within 1 65535 v else if k = 129 then within 0 65535 v
  else if k = 130 then within 1 1000000 v else if k = 131 then within 0 4000 v
  else if k ≤ 133 then v == 250 || v == 500
  else isBit v

/-- Field `k` meets every condition that fails on it. -/
def fieldOk (l : List Int) (k : Nat) : Bool :=
  if k = 1 then within 5 40 (fieldAt l 1) else if k = 2 then within 0 7 (fieldAt l 2)
  else if k = 3 then within 0 16383 (fieldAt l 3)
  else if k ≤ 83 then slotFieldOk l ((k - 4) / 10) ((k - 4) % 10)
  else if k ≤ 109 then frontFieldOk l k
  else planFieldOk l k

/-- The first failing field of a configuration, in field-number order (R194), or none for a valid one. -/
def firstFailingField (l : List Int) : Option Nat :=
  ((List.range 136).map (· + 1)).find? fun k => !fieldOk l k

/-- Rated speed of a mode (R114, R117). -/
def EpcCfg.ratedSpeed (c : EpcCfg) : Mode → Nat
  | .economy => c.ecoSpeed
  | .standard => c.stdSpeed
  | .power => c.powSpeed

/-- Power ratio of a mode (R114, R128). -/
def EpcCfg.ratio (c : EpcCfg) : Mode → Nat
  | .economy => c.ecoRatio
  | .standard => c.stdRatio
  | .power => c.powRatio

/-- Rated power of an engine (R109). -/
def EpcCfg.rated (c : EpcCfg) : Engine → Nat
  | .e1 => c.ratedE1
  | .e2 => c.ratedE2

end Sys2Proof.Machine
end

