-- ==== Sys2Proof/Machine/State.lean ====
section
/-! DEFINITION. The state of the part: the state of each of its twelve blocks, the deliveries between them, the
queue of commands, the faults and refusals of the model, and the state right after reset. -/

namespace Sys2Proof.Machine

open Sys2Proof

/-! ## Sensor poll unit -/

/-- Why a slot's reply was not good (R7). -/
inductive Reason where
  | missing | outOfRange
deriving DecidableEq, Repr

/-- The running state of a sensor slot (R3): held value, held age, state, reason, and the raised flags of
SENSOR_MISSING and SENSOR_RANGE. -/
structure SlotRun where
  held : Angle
  age : Nat
  state : SlotState
  reason : Option Reason
  missing : Bool
  range : Bool
deriving DecidableEq, Repr

/-- The sensor poll unit (01). `poll` is absent while IDLE and otherwise lists the slots still to be transferred,
the one in flight first; `replies` is the reply area. -/
structure Spu where
  poll : Option (List Nat)
  periods : Nat
  replies : List (Nat × BitVec 32)
  slots : List SlotRun
  disagree : Bool
  overrun : Bool
  counter : FrameNo
deriving DecidableEq, Repr

/-! ## Geometry unit and cycle tracker -/

/-- What the GEU keeps of the previous pose frame (R27). -/
structure PrevPose where
  slew : Angle
  valid : Bool
deriving DecidableEq, Repr

/-- The geometry unit (02). -/
structure Geu where
  prev : Option PrevPose
  current : Option PoseRecord
  rangeFlag : Bool
deriving DecidableEq, Repr

/-- Whether a node is heard, as a port or an owner keeps it (R36, R113, R176). -/
inductive Heard where
  | unheard | fresh | stale
deriving DecidableEq, Repr

/-- The dig span (R36): its first frame, and its last frame or (none) the mark open. -/
structure DigSpan where
  first : FrameNo
  last : Option FrameNo
deriving DecidableEq, Repr

/-- The cycle tracker (R36). `lastFrame` is the frame number of the record taken last (log 14). -/
structure Cyt where
  phase : Phase
  timer : Nat
  swingRun : Nat
  onGrade : Nat
  span : Option DigSpan
  travel : Bool
  pcu : Heard
  lastFrame : FrameNo
deriving DecidableEq, Repr

/-! ## Grade guidance unit -/

/-- What the frame join keeps of a cue formed (R62, R63): D, the cue, the assist guard of the ACTIVE target, and
whether there was one. -/
structure KeptCue where
  d : Int
  cue : Cue
  guard : Int
  active : Bool
deriving DecidableEq, Repr

/-- The frame join of the GGU (R57); the mark cue formed is the presence of `cue`. -/
structure GguJoin where
  frame : FrameNo
  pose : Option PoseRecord
  floors : Option (List FloorZone)
  phase : Option Phase
  cue : Option KeptCue
  assistFormed : Bool
deriving DecidableEq, Repr

/-- The guidance record (R51). -/
structure GuidanceRecord where
  frame : FrameNo
  targetId : Int
  d : Int
  cue : Cue
  floorLimited : Bool
  depth : Nat
  passes : Nat
deriving DecidableEq, Repr

/-- The grade guidance unit (R51). The first target is ACTIVE, the second NEXT. -/
structure Ggu where
  targets : List Target
  passes : Nat
  guidance : Bool
  assist : Bool
  join : Option GguJoin
  record : GuidanceRecord
deriving DecidableEq, Repr

/-! ## Envelope table and limit evaluator -/

/-- One zone entry (R69, R71). -/
structure ZoneEntry where
  effective : ZoneDef
  pending : Option ZoneDef
  suspension : Option Nat
  recorded : ZoneState
  suspMark : Bool
deriving DecidableEq, Repr

/-- A frame zone set with its frame number (R76). -/
structure ZoneSet where
  frame : FrameNo
  zones : List FrameZone
deriving DecidableEq, Repr

/-- The envelope table (R71). -/
structure Env where
  entries : List ZoneEntry
  unstoredSite : Bool
  unstoredOper : Bool
  latest : Option ZoneSet
deriving DecidableEq, Repr

/-- The four ceilings, in percent (R90). -/
structure Ceilings where
  left : Nat
  right : Nat
  raise : Nat
  lower : Nat
deriving DecidableEq, Repr

/-- The frame join of the LEV (R91); the mark ceilings formed is the presence of `ceilings`. -/
structure LevJoin where
  frame : FrameNo
  pose : Option PoseRecord
  zones : Option (List FrameZone)
  assist : Option Nat
  ceilings : Option Ceilings
  built : Bool
deriving DecidableEq, Repr

/-- The LEV's own view of a zone (R90). -/
structure LevZone where
  state : ZoneState
  suspended : Bool
  deep : Bool
  breachRecorded : Bool
  copy : Option ZoneDef
deriving DecidableEq, Repr

/-- An ALLOTMENT (R104); `frame` is the low 16 bits of the frame number. -/
structure Allotment where
  frame : BitVec 16
  ceilings : Ceilings
  assist : Nat
  allowance : Nat
  hold : Bool
  poseValid : Bool
deriving DecidableEq, Repr

/-- None, VALID or INVALID, of a pose (R90, R155). -/
inductive PoseMark where
  | none | valid | invalid
deriving DecidableEq, Repr

/-- The limit evaluator (R90). -/
structure Lev where
  join : Option LevJoin
  lastCeil : Ceilings
  lastRate : Int
  prevEval : PoseMark
  zones : List LevZone
  latest : Option Allotment
deriving DecidableEq, Repr

/-! ## Engine plan controller -/

/-- The reported states of an engine (R109). -/
inductive EngState where
  | stopped | cranking | running | faulted | unknown
deriving DecidableEq, Repr

/-- The availability of an engine (R111). -/
inductive Availability where
  | available | excluded | failed
deriving DecidableEq, Repr

/-- The plan states (07, section 7.5). -/
inductive Plan where
  | none | twin | cooldown | single | starting
deriving DecidableEq, Repr

/-- One engine record (R109). Rated power is in the settings; availability is computed (R111). -/
structure EngineRec where
  reported : EngState
  speed : Nat
  load : Nat
  fuel : Nat
  failed : Bool
  excluded : Bool
  run : Bool
  cmdSpeed : Nat
  hasRun : Bool
deriving DecidableEq, Repr

/-- The engine plan controller (R113, R114, R116, R118, R128, R131). -/
structure Epc where
  e1 : EngineRec
  e2 : EngineRec
  capEconomy : Bool
  modeReq : Mode
  autoSingle : Bool
  autoIdle : Bool
  plan : Plan
  lead : Option Engine
  starting : Option Engine
  swap : Bool
  runSeen : Bool
  keyOff : Bool
  hold : Bool
  lowCount : Nat
  dwell : Nat
  cooldown : Nat
  startTimer : Nat
  idle : Bool
  neutralCount : Nat
  pcu : Heard
  demand : Nat
  neutral : Bool
  filter : Nat
  allowance : Nat
  tripFuel : Nat
  tripResidue : Nat
  tripCycles : Nat
deriving DecidableEq, Repr

/-! ## Service meter unit -/

/-- The consequence of an item (R139). -/
inductive Consequence where
  | none | capEconomy | excludeE1 | excludeE2
deriving DecidableEq, Repr

/-- The states of an item in use (R139). -/
inductive ItemState where
  | ok | dueSoon | due | overdue
deriving DecidableEq, Repr

/-- The definition fields of an item and its mark: what the ITEMS record holds (R139). -/
structure ItemDef where
  inUse : Bool
  basis : Nat
  interval : Nat
  lead : Nat
  grace : Nat
  consequence : Consequence
  operatorReset : Bool
  label : Byte
deriving DecidableEq, Repr

/-- A reminder item (R139); `state` is absent while the item is not in use. -/
structure Item where
  defn : ItemDef
  mark : Nat
  state : Option ItemState
  acked : Bool
deriving DecidableEq, Repr

/-- The service meter unit (08). -/
structure Smu where
  meters : List Nat
  residues : List Nat
  travel : Bool
  snapCount : Nat
  snapDue : Bool
  items : List Item
  summary : Consequences
deriving DecidableEq, Repr

/-! ## Fault and hold unit -/

/-- The classes of fault codes (09, section 9.1). -/
inductive FaultClass where
  | advisory | recoverable | latching
deriving DecidableEq, Repr

/-- A record of the fault ring (R155). -/
structure FaultRecord where
  seq : BitVec 32
  code : FaultCode
  frame : FrameNo
  slew : Angle
  reach : Int
  height : Int
  pose : PoseMark
  plan : Plan
  detail : Int
  second : Bool
deriving DecidableEq, Repr

/-- The hold cause (R158). -/
structure HoldCause where
  code : FaultCode
  detail : Int
deriving DecidableEq, Repr

/-- The fault and hold unit (R154, R155, R158). `held` is absent while the hold state is CLEAR; the ring is newest
first. -/
structure Fhu where
  active : List (FaultCode × Option Int)
  ring : List FaultRecord
  seq : BitVec 32
  held : Option HoldCause
  escalation : Nat
  unstored : Bool
deriving DecidableEq, Repr

/-! ## Nonvolatile store controller -/

/-- The six records (R165). -/
inductive RecordId where
  | config | zonesSite | zonesOper | items | meters | hold
deriving DecidableEq, Repr

/-- The content of a record (R165). -/
inductive Content where
  | config (version : Nat) (fields : List Int)
  | zones (defs : List ZoneDef)
  | items (defs : List (ItemDef × Nat))
  | meters (values : List Nat)
  | hold (cause : Option HoldCause)
deriving DecidableEq, Repr

/-- One copy of a record (R165): blank, of unknown bytes that do not pass, or written with id, generation, content
and check code. -/
inductive NvCopy where
  | blank
  | spoiled
  | written (id generation : Nat) (content : Content) (code : Nat)
deriving DecidableEq, Repr

/-- The two copies of a record (R165). -/
structure NvPair where
  a : NvCopy
  b : NvCopy
deriving DecidableEq, Repr

/-- The NV array (R165). -/
structure NvArray where
  config : NvPair
  zonesSite : NvPair
  zonesOper : NvPair
  items : NvPair
  meters : NvPair
  hold : NvPair
deriving DecidableEq, Repr

/-- An entry of the store queue (R168). -/
structure StoreEntry where
  record : RecordId
  again : Bool
  service : Bool
deriving DecidableEq, Repr

/-- The write in flight (R169): its record, whether it goes to copy B, and what it writes. -/
structure NvWrite where
  record : RecordId
  toB : Bool
  copy : NvCopy
deriving DecidableEq, Repr

/-- The power states (10, section 10.4). -/
inductive PowerState where
  | run | shuttingDown | readyOff
deriving DecidableEq, Repr

/-- The nonvolatile store controller (10). -/
structure Nvc where
  array : NvArray
  queue : List StoreEntry
  write : Option NvWrite
  power : PowerState
  keyList : List RecordId
  restartPending : Bool
  image : Option (List Int)
  builtIn : Bool
deriving DecidableEq, Repr

/-! ## Bus ports -/

/-- The notice kinds, in the order of their kind numbers and of falling priority (R181). -/
inductive NoticeKind where
  | holdEntered | holdCleared | faultRecorded | zoneBreached | suspensionEnded | zoneState | modeCapped
  | planChanged | reminderChanged | targetRetired | storeDone
deriving DecidableEq, Repr

/-- The result codes of R185 and R189. -/
inductive ResultCode where
  | accepted | refusedRange | refusedFull | refusedState | refusedNotOwner | refusedBusy | refusedHold
  | refusedLevel | notReady | noRequest
deriving DecidableEq, Repr

/-- A frame as a port sends it: identifier and data bytes (R174). -/
structure CanFrame where
  id : Nat
  data : List Byte
deriving DecidableEq, Repr

/-- The GUIDANCE message (R67). -/
structure GuidanceMsg where
  frame : BitVec 16
  targetId : Int
  d : Int
  cue : Cue
  floorLimited : Bool
  passes : Nat
  depth : Nat
  assistSwitch : Bool
deriving DecidableEq, Repr

/-- The STATUS message (R186). -/
structure StatusMsg where
  effMode : Mode
  modeReq : Mode
  plan : Plan
  lead : Option Engine
  availE1 : Availability
  availE2 : Availability
  held : Bool
  escalation : Nat
  zones : List (ZoneState × Bool)
  itemsOk : Nat
  itemsDueSoon : Nat
  itemsDue : Nat
  itemsOverdue : Nat
  attention : Nat
  attentionLabel : Option Byte
  economy : Nat
deriving DecidableEq, Repr

/-- The NOTICE message (R182). -/
structure NoticeMsg where
  kind : NoticeKind
  count : Nat
deriving DecidableEq, Repr

/-- A place of the REQUEST_RESULT queue (R183, R185): reserved while `code` is absent, then filled. `ticket` numbers
the reservation (log 13). -/
structure ResultPlace where
  ticket : Nat
  number : Byte
  kind : Byte
  code : Option ResultCode
deriving DecidableEq, Repr

/-- A place of one periodic message kind (R178). -/
structure Place (α : Type) where
  waiting : Option α
  replacement : Option α
deriving DecidableEq, Repr

/-- The place port A is offering (R179). -/
inductive OfferA where
  | guidance | result | status | notice
deriving DecidableEq, Repr

/-- The place port B is offering (R179). -/
inductive OfferB where
  | allotment | demand1 | demand2
deriving DecidableEq, Repr

/-- A node record (R176). -/
structure Node where
  age : Nat
  state : Heard
deriving DecidableEq, Repr

/-- The assembly of port A: a held part 0 (R184). -/
structure Assembly where
  number : Byte
  kind : Byte
  ops : List Int
deriving DecidableEq, Repr

/-- Port A (11). `on` is clear while bus-off. -/
structure PortA where
  on : Bool
  errors : Nat
  cab : Node
  offering : Option OfferA
  guidance : Place GuidanceMsg
  status : Place StatusMsg
  notice : Option NoticeMsg
  results : List ResultPlace
  tickets : Nat
  counts : List Nat
  assembly : Option Assembly
deriving DecidableEq, Repr

/-- Port B (11). `on` is clear while bus-off. -/
structure PortB where
  on : Bool
  errors : Nat
  pcu : Node
  gov1 : Node
  gov2 : Node
  offering : Option OfferB
  allotment : Place CanFrame
  demand1 : Place CanFrame
  demand2 : Place CanFrame
deriving DecidableEq, Repr

/-! ## Service link -/

/-- The service tables (R191). -/
inductive Table where
  | ident | config | zones | items | meters | faults | targets | status
deriving DecidableEq, Repr

/-- The answer block (R189). -/
structure Answer where
  tag : Byte
  result : ResultCode
  residue : Byte
  busy : Bool
  busyTag : Byte
  detail : BitVec 16
  returned : Byte
  data : List Byte
deriving DecidableEq, Repr

/-- The answer buffer (R189). While EMPTY it says whether the busy fields are clear since power-on or restart, no answer
read since (R196). -/
inductive AnswerBuffer where
  | empty (cleared : Bool)
  | pending (tag : Byte) (busy : Bool) (busyTag : Byte)
  | ready (answer : Answer)
deriving DecidableEq, Repr

/-- The request buffer (R189, R190): the block and whether it was taken at maintainer level. -/
structure LinkRequest where
  block : List Byte
  maintainer : Bool
deriving DecidableEq, Repr

/-- The service link interface (12). `lastRead` is the block that the last answer read clocked out (log 10). -/
structure Sli where
  buffer : AnswerBuffer
  request : Option LinkRequest
  table : Table
  index : Nat
  config : List Int
  counts : List Nat
  lastTag : Byte
  lastRead : Option (List Byte)
deriving DecidableEq, Repr

/-! ## The machine -/

/-- The lines into the part (00): KEY on, PWRFAIL asserted, maintenance enable high. -/
structure Lines where
  key : Bool
  pwrfail : Bool
  maint : Bool
deriving DecidableEq, Repr

/-- The whole part: its supply, its configuration, its blocks, its lines; the deliveries made and not yet taken, oldest
first (log 2); the queue of commands; the number of the next free value (log 11). -/
structure State where
  supply : Bool
  settings : Settings
  spu : Spu
  geu : Geu
  cyt : Cyt
  ggu : Ggu
  env : Env
  lev : Lev
  epc : Epc
  smu : Smu
  fhu : Fhu
  nvc : Nvc
  portA : PortA
  portB : PortB
  sli : Sli
  lines : Lines
  inFlight : List Instr
  pending : List Instr
  freeCount : Nat
deriving DecidableEq, Repr

/-- No command stops the part: spec/ gives every row of its table an effect, so no fault exists. -/
inductive Fault where
deriving DecidableEq, Repr

/-- The refusals of the model. -/
inductive Refusal where
  /-- Raised by an arm of `exec` whose command has no meaning yet; safe. No arm raises it. -/
  | notModelled (mnemonic : String)
deriving DecidableEq, Repr

/-! ## Starting states of the blocks -/

/-- The starting state of a slot (R17). Of an UNUSED slot R17 gives the state alone: its held value 0, held age 0, absent
reason and clear flags are a DESIGN CHOICE (log 29), and nothing reads them. -/
def SlotRun.start (c : SpuCfg) (slot : SlotCfg) : SlotRun :=
  if slot.role = .unused then
    { held := 0, age := 0, state := .unused, reason := none, missing := false, range := false }
  else
    { held := 0, age := c.holdFrames + 1, state := .invalid, reason := none, missing := false, range := false }

/-- The SPU after power-on and restart (R17). -/
def Spu.start (c : SpuCfg) : Spu :=
  { poll := none, periods := 0, replies := [], slots := c.slots.map (SlotRun.start c), disagree := false,
    overrun := false, counter := 0 }

/-- The GEU after power-on and restart (R32). -/
def Geu.start : Geu := { prev := none, current := none, rangeFlag := false }

/-- The CYT after power-on and restart (R48). -/
def Cyt.start : Cyt :=
  { phase := .idle, timer := 0, swingRun := 0, onGrade := 0, span := none, travel := false, pcu := .unheard,
    lastFrame := 0 }

/-- The GGU after power-on and restart (R68). -/
def Ggu.start (c : GguCfg) : Ggu :=
  { targets := [], passes := 0, guidance := c.guidanceDefault, assist := c.assistDefault, join := none,
    record := { frame := 0, targetId := 0, d := 0, cue := if c.guidanceDefault then .noTarget else .off,
                floorLimited := false, depth := 0, passes := 0 } }

/-- The empty state of a zone entry's definition (R70). -/
def emptyZone : ZoneDef :=
  { kind := .slewWall, mode := .off, s := 0, e := 0, reachMin := 0, reachMax := 0, limit := 0, stop := 0, band := 0 }

/-- A zone entry loaded with a definition (R87). -/
def ZoneEntry.start (d : ZoneDef) : ZoneEntry :=
  { effective := d, pending := none, suspension := none, recorded := .clear, suspMark := false }

/-- The ENV after power-on and restart, with the sixteen definitions restored (R87). -/
def Env.start (defs : List ZoneDef) : Env :=
  { entries := defs.map ZoneEntry.start, unstoredSite := false, unstoredOper := false, latest := none }

/-- The LEV after power-on and restart (R108). -/
def Lev.start : Lev :=
  { join := none, lastCeil := { left := 100, right := 100, raise := 100, lower := 100 }, lastRate := 0,
    prevEval := .none,
    zones := List.replicate 16
      { state := .clear, suspended := false, deep := false, breachRecorded := false, copy := none },
    latest := none }

/-- An engine record after power-on and restart (R132): commanded RUN at the rated speed of the effective mode. -/
def EngineRec.start (c : EpcCfg) : EngineRec :=
  { reported := .unknown, speed := 0, load := 0, fuel := 65535, failed := false, excluded := false, run := true,
    cmdSpeed := c.ratedSpeed c.modeDefault, hasRun := false }

/-- The EPC after power-on and restart (R132). -/
def Epc.start (c : EpcCfg) : Epc :=
  { e1 := EngineRec.start c, e2 := EngineRec.start c, capEconomy := false, modeReq := c.modeDefault,
    autoSingle := c.autoSingleDefault, autoIdle := c.autoIdleDefault, plan := .none, lead := none, starting := none,
    swap := false, runSeen := false, keyOff := false, hold := false, lowCount := 0, dwell := 0, cooldown := 0,
    startTimer := 0, idle := false, neutralCount := 0, pcu := .unheard, demand := 0, neutral := false, filter := 0,
    allowance := 0, tripFuel := 0, tripResidue := 0, tripCycles := 0 }

/-- The definition of an item loaded not in use with its other fields 0 (R150). -/
def ItemDef.empty : ItemDef :=
  { inUse := false, basis := 0, interval := 0, lead := 0, grace := 0, consequence := .none, operatorReset := false,
    label := 0 }

/-- No consequence in force (R142). -/
def noConsequences : Consequences := { capEconomy := false, excludeE1 := false, excludeE2 := false }

/-- The SMU of a part whose METERS and ITEMS records fail their check (R150). -/
def Smu.blank : Smu :=
  { meters := List.replicate 8 0, residues := List.replicate 8 0, travel := false, snapCount := 0, snapDue := false,
    items := List.replicate 32 { defn := ItemDef.empty, mark := 0, state := none, acked := false },
    summary := noConsequences }

/-- The FHU after power-on and restart, before any report is taken, in hold state CLEAR (R163). -/
def Fhu.start : Fhu :=
  { active := [], ring := [], seq := 1, held := none, escalation := 0, unstored := false }

/-- A record never written (R165). -/
def NvPair.blank : NvPair := { a := .blank, b := .blank }

/-- The NV array as it leaves the factory (R165). -/
def NvArray.blank : NvArray :=
  { config := .blank, zonesSite := .blank, zonesOper := .blank, items := .blank, meters := .blank, hold := .blank }

/-- The NVC after power-on and restart (R167, R171, R173). -/
def Nvc.start (array : NvArray) (image : Option (List Int)) : Nvc :=
  { array := array, queue := [], write := none, power := .run, keyList := [], restartPending := false,
    image := image, builtIn := image.isNone }

/-- An empty place (R188). -/
def Place.empty {α : Type} : Place α := { waiting := none, replacement := none }

/-- A node record after power-on and restart (R176, R188). -/
def Node.start : Node := { age := 0, state := .unheard }

/-- Port A after power-on and restart (R188). -/
def PortA.start : PortA :=
  { on := true, errors := 0, cab := Node.start, offering := none, guidance := Place.empty, status := Place.empty,
    notice := none, results := [], tickets := 0, counts := List.replicate 11 0, assembly := none }

/-- Port B after power-on and restart (R188). -/
def PortB.start : PortB :=
  { on := true, errors := 0, pcu := Node.start, gov1 := Node.start, gov2 := Node.start, offering := none,
    allotment := Place.empty, demand1 := Place.empty, demand2 := Place.empty }

/-- The SLI after power-on and restart, with the configuration the blocks are running on (R194, R196). -/
def Sli.start (fields : List Int) : Sli :=
  { buffer := .empty true, request := none, table := .ident, index := 0, config := fields, counts := List.replicate 11 0,
    lastTag := 0, lastRead := none }

/-! ## Reset -/

/-- A start-up record of the fault ring (R155, R166): no pose record formed yet, plan PLAN_NONE. -/
def FaultRecord.startUp (seq : BitVec 32) (code : FaultCode) (detail : Int) : FaultRecord :=
  { seq := seq, code := code, frame := 0, slew := 0, reach := 0, height := 0, pose := .none, plan := .none,
    detail := detail, second := false }

/-- The FHU of a part with a blank array, after its start-up reports: NV_RESTORE_BAD for records 2 to 6 and
CFG_INVALID with detail 0, which enters HOLD (R159, R166, R167; order: log 9). -/
def Fhu.factory : Fhu :=
  { active := []
    ring := [FaultRecord.startUp 6 .cfgInvalid 0, FaultRecord.startUp 5 .nvRestoreBad 6,
      FaultRecord.startUp 4 .nvRestoreBad 5, FaultRecord.startUp 3 .nvRestoreBad 4,
      FaultRecord.startUp 2 .nvRestoreBad 3, FaultRecord.startUp 1 .nvRestoreBad 2]
    seq := 7, held := some { code := .cfgInvalid, detail := 0 }, escalation := 0, unstored := false }

/-- The HOLD copy the factory start writes: generation 1, HELD with CFG_INVALID (R165, R169). The check code is that
of the bytes of log 7: id 6, generation 1, and the content 1, 19, 0, 0. -/
def NvCopy.factoryHold : NvCopy :=
  .written 6 1 (.hold (some { code := .cfgInvalid, detail := 0 })) (65535 - 27)

/-- The notice counts after the start-up of a blank array: one HOLD_ENTERED and six FAULT_RECORDED (R156, R159). -/
def factoryCounts : List Nat := [1, 0, 6, 0, 0, 0, 0, 0, 0, 0, 0]

/-- The machine right after reset: power-on of a part whose NV array is blank, with KEY on, PWRFAIL and maintenance
enable not asserted (log 1). Every block is in the starting state of its chapter; the configuration is the built-in
one; the start-up faults of R166 and R167 have been reported, and CFG_INVALID has entered HOLD. -/
def State.reset : State :=
  { supply := true
    settings := Settings.builtIn
    spu := Spu.start Settings.builtIn.spu
    geu := Geu.start
    cyt := Cyt.start
    ggu := Ggu.start Settings.builtIn.ggu
    env := Env.start (List.replicate 16 emptyZone)
    lev := Lev.start
    epc := Epc.start Settings.builtIn.epc
    smu := Smu.blank
    fhu := Fhu.factory
    nvc := { Nvc.start NvArray.blank none with
      queue := [{ record := .hold, again := false, service := false }]
      write := some { record := .hold, toB := false, copy := NvCopy.factoryHold } }
    portA := { PortA.start with
      offering := some .notice
      notice := some { kind := .faultRecorded, count := 1 }
      counts := factoryCounts }
    portB := PortB.start
    sli := { Sli.start builtInFields with counts := factoryCounts }
    lines := { key := true, pwrfail := false, maint := false }
    inFlight := [.consequenceSummary noConsequences, .levHoldEntry, .epcHoldEntry]
    pending := []
    freeCount := 0 }

end Sys2Proof.Machine
end

