-- ==== Sys2Proof/Machine/Arith.lean ====
section
/-! DEFINITION. The arithmetic of 00 "Arithmetic" and of the geometry unit's sine table: clamping, saturation,
integer square root, signed readings, sine and cosine (R20 to R22), bytes and byte order. -/

namespace Sys2Proof.Machine

open Sys2Proof

/-- clamp(x, a, b) of 00, "Arithmetic". -/
def clamp (x a b : Int) : Int := if x < a then a else if x > b then b else x

/-- A count that stops at `top` (00, "Arithmetic": saturates). -/
def satAdd (top x k : Nat) : Nat := min top (x + k)

/-- One step of `isqrt`: the bit `bit` is kept when the square still does not exceed `x`. -/
def isqrtStep (x root bit : Nat) : Nat := if (root + bit) * (root + bit) ≤ x then root + bit else root

/-- isqrt(x) of 00, "Arithmetic", for x below 2^32: the largest integer whose square does not exceed x. -/
def isqrt (x : Nat) : Nat :=
  [32768, 16384, 8192, 4096, 2048, 1024, 512, 256, 128, 64, 32, 16, 8, 4, 2, 1].foldl (isqrtStep x) 0

/-- Apply `f` `n` times. -/
def repeatN {α : Type} (f : α → α) : Nat → α → α
  | 0, x => x
  | n + 1, x => repeatN f n (f x)

/-- Frame `m` is later than frame `j` (R57). -/
def frameLater (m j : FrameNo) : Bool :=
  decide (1 ≤ (m - j).toNat) && decide ((m - j).toNat ≤ 2147483647)

/-- Entries T[0] to T[32] of the sine table (R20). -/
def sineRows0 : List Nat :=
  [0, 201, 402, 603, 804, 1005, 1206, 1407, 1608, 1809, 2009, 2210, 2410, 2611, 2811, 3012, 3212, 3412, 3612,
   3811, 4011, 4210, 4410, 4609, 4808, 5007, 5205, 5404, 5602, 5800, 5998, 6195, 6393]

/-- Entries T[33] to T[65] of the sine table (R20). -/
def sineRows1 : List Nat :=
  [6590, 6786, 6983, 7179, 7375, 7571, 7767, 7962, 8157, 8351, 8545, 8739, 8933, 9126, 9319, 9512, 9704, 9896,
   10087, 10278, 10469, 10659, 10849, 11039, 11228, 11417, 11605, 11793, 11980, 12167, 12353, 12539, 12725]

/-- Entries T[66] to T[98] of the sine table (R20). -/
def sineRows2 : List Nat :=
  [12910, 13094, 13279, 13462, 13645, 13828, 14010, 14191, 14372, 14553, 14732, 14912, 15090, 15269, 15446,
   15623, 15800, 15976, 16151, 16325, 16499, 16673, 16846, 17018, 17189, 17360, 17530, 17700, 17869, 18037,
   18204, 18371, 18537]

/-- Entries T[99] to T[131] of the sine table (R20). -/
def sineRows3 : List Nat :=
  [18703, 18868, 19032, 19195, 19357, 19519, 19680, 19841, 20000, 20159, 20317, 20475, 20631, 20787, 20942,
   21096, 21250, 21403, 21554, 21705, 21856, 22005, 22154, 22301, 22448, 22594, 22739, 22884, 23027, 23170,
   23311, 23452, 23592]

/-- Entries T[132] to T[164] of the sine table (R20). -/
def sineRows4 : List Nat :=
  [23731, 23870, 24007, 24143, 24279, 24413, 24547, 24680, 24811, 24942, 25072, 25201, 25329, 25456, 25582,
   25708, 25832, 25955, 26077, 26198, 26319, 26438, 26556, 26674, 26790, 26905, 27019, 27133, 27245, 27356,
   27466, 27575, 27683]

/-- Entries T[165] to T[197] of the sine table (R20). -/
def sineRows5 : List Nat :=
  [27790, 27896, 28001, 28105, 28208, 28310, 28411, 28510, 28609, 28706, 28803, 28898, 28992, 29085, 29177,
   29268, 29358, 29447, 29534, 29621, 29706, 29791, 29874, 29956, 30037, 30117, 30195, 30273, 30349, 30424,
   30498, 30571, 30643]

/-- Entries T[198] to T[230] of the sine table (R20). -/
def sineRows6 : List Nat :=
  [30714, 30783, 30852, 30919, 30985, 31050, 31113, 31176, 31237, 31297, 31356, 31414, 31470, 31526, 31580,
   31633, 31685, 31736, 31785, 31833, 31880, 31926, 31971, 32014, 32057, 32098, 32137, 32176, 32213, 32250,
   32285, 32318, 32351]

/-- Entries T[231] to T[256] of the sine table (R20). -/
def sineRows7 : List Nat :=
  [32382, 32412, 32441, 32469, 32495, 32521, 32545, 32567, 32589, 32609, 32628, 32646, 32663, 32678, 32692,
   32705, 32717, 32728, 32737, 32745, 32752, 32757, 32761, 32765, 32766, 32767]

/-- The sine table T[0]..T[256] (R20): 32767·sin(i·π/512) to the nearest integer. -/
def sineTable : List Nat :=
  sineRows0 ++ sineRows1 ++ sineRows2 ++ sineRows3 ++ sineRows4 ++ sineRows5 ++ sineRows6 ++ sineRows7

/-- The sine of an angle by the five steps of R21. -/
def sine (a : Angle) : Int :=
  let q := a.toNat / 16384
  let u := a.toNat % 16384
  let pos := if q = 1 ∨ q = 3 then 16384 - u else u
  let i := pos / 64
  let f := pos % 64
  let t := fun i => sineTable.getD i 0
  let magnitude : Nat := if f = 0 then t i else t i + ((t (i + 1) - t i) * f + 32) / 64
  if q = 2 ∨ q = 3 then -(magnitude : Int) else magnitude

/-- The cosine of an angle (R22). -/
def cosine (a : Angle) : Int := sine (a + 16384)

/-! ## Bytes -/

/-- `k` bytes of a number, low byte first. -/
def leBytes : Nat → Nat → List Byte
  | 0, _ => []
  | k + 1, n => BitVec.ofNat 8 n :: leBytes k (n / 256)

/-- Two bytes of a signed number, low byte first. -/
def leInt16 (z : Int) : List Byte := leBytes 2 (BitVec.ofInt 16 z).toNat

/-- Four bytes of a signed number, low byte first. -/
def leInt32 (z : Int) : List Byte := leBytes 4 (BitVec.ofInt 32 z).toNat

/-- A field in a byte order (R175): the bytes are given low byte first. -/
def ordered (o : ByteOrder) (low : List Byte) : List Byte :=
  match o with
  | .lowFirst => low
  | .highFirst => low.reverse

/-- The number whose bytes, low byte first, are given. -/
def ofLe : List Byte → Nat
  | [] => 0
  | b :: bs => b.toNat + 256 * ofLe bs

/-- `k` bytes of a list from position `at`. -/
def bytesAt (l : List Byte) (pos k : Nat) : List Byte := (l.drop pos).take k

/-- An unsigned field of `k` bytes, low byte first, at a position. -/
def natAt (l : List Byte) (pos k : Nat) : Nat := ofLe (bytesAt l pos k)

/-- A signed 16-bit field, low byte first, at a position. -/
def int16At (l : List Byte) (pos : Nat) : Int := (BitVec.ofNat 16 (natAt l pos 2)).toInt

/-- A signed 32-bit field, low byte first, at a position. -/
def int32At (l : List Byte) (pos : Nat) : Int := (BitVec.ofNat 32 (natAt l pos 4)).toInt

/-- A bit as a number. -/
def bit (b : Bool) : Nat := if b then 1 else 0

end Sys2Proof.Machine
end

