-- ==== Sys2Proof/Machine/Ops.lean ====
section
/-! DEFINITION. The operations the blocks share: deliveries between blocks, notices, the transmit places and the choice
of the ports, result places, the answer buffer, records of the NV array and the store queue. -/

namespace Sys2Proof.Machine

open Sys2Proof

/-- The outcome of a command. -/
abbrev Out := Host.Outcome State Fault Refusal

/-! ## Commands and deliveries -/

/-- An event from outside: it acts while the supply is up; with the supply off nothing is there to take it (log 5). -/
def onEvent (f : State → State) (s : State) : Out := .next (if s.supply then f s else s)

/-- The delivery `c` is no longer in flight (log 2). -/
def State.taken (c : Instr) (s : State) : State := { s with inFlight := s.inFlight.erase c }

/-- A delivery reaching its owner: it leaves the deliveries in flight, and acts (log 2, log 5). -/
def onDelivery (c : Instr) (f : State → State) (s : State) : Out :=
  .next (if s.supply then f (s.taken c) else s)

/-- A block delivers `c`: it is in flight until its own step takes it (log 2). -/
def State.deliver (c : Instr) (s : State) : State := { s with inFlight := s.inFlight ++ [c] }

/-- Deliver `c` when `b` holds. -/
def State.deliverIf (b : Bool) (c : Instr) (s : State) : State := if b then s.deliver c else s

/-- Report the raising of a fault, or an advisory or latching fault, to the FHU (R152). -/
def State.report (code : FaultCode) (detail : Int) (frame : Option FrameNo) (s : State) : State :=
  s.deliver (.faultReport { code := code, clearing := false, detail := detail, frame := frame })

/-- Report the clearing of a recoverable fault to the FHU (R152). -/
def State.reportClear (code : FaultCode) (detail : Int) (frame : Option FrameNo) (s : State) : State :=
  s.deliver (.faultReport { code := code, clearing := true, detail := detail, frame := frame })

/-! ## Message kinds and identifiers (R174) -/

/-- The message kinds (R174). -/
inductive MsgKind where
  | allotment | pumpStatus | engineDemand | engineStatus | guidance | cabRequest | requestResult | status | notice
deriving DecidableEq, Repr

/-- Kind codes (R174). -/
def MsgKind.code : MsgKind → Nat
  | .allotment => 8
  | .pumpStatus => 12
  | .engineDemand => 16
  | .engineStatus => 20
  | .guidance => 32
  | .cabRequest => 40
  | .requestResult => 44
  | .status => 48
  | .notice => 56

/-- Data lengths, in bytes (R174). -/
def MsgKind.dataLength : MsgKind → Nat
  | .allotment => 12
  | .pumpStatus => 8
  | .engineDemand => 8
  | .engineStatus => 8
  | .guidance => 12
  | .cabRequest => 12
  | .requestResult => 12
  | .status => 32
  | .notice => 12

/-- The node number of the supervisor (11, opening). -/
def ownNode : Nat := 1

/-- The node number of the cab (R174, R176). -/
def cabNode : Nat := 2

/-- The node number of the PCU (R174, R176). -/
def pcuNode : Nat := 3

/-- The node of an engine's governor (R174, R176, R177). -/
def engineNode : Engine → Nat
  | .e1 => 4
  | .e2 => 5

/-- The identifier of a message: its kind code times 16, plus the node number of its source (R174). -/
def messageId (k : MsgKind) (node : Nat) : Nat := 16 * k.code + node

/-- The message kind of a place of port A (R178). -/
def OfferA.kind : OfferA → MsgKind
  | .guidance => .guidance
  | .result => .requestResult
  | .status => .status
  | .notice => .notice

/-- The message kind of a place of port B (R178). -/
def OfferB.kind : OfferB → MsgKind
  | .allotment => .allotment
  | .demand1 => .engineDemand
  | .demand2 => .engineDemand

/-- Identifier and data length of the frame in which port A sends a place's message (R174). Its data bytes are not
modelled, since spec/ lays out the machine bus messages only (log 12). -/
def OfferA.header (o : OfferA) : Nat × Nat := (messageId o.kind ownNode, o.kind.dataLength)

/-- Identifier and data length of the frame in which port B sends a place's message (R174). -/
def OfferB.header (o : OfferB) : Nat × Nat := (messageId o.kind ownNode, o.kind.dataLength)

/-- Result code numbers (R185, R189). -/
def ResultCode.number : ResultCode → Nat
  | .accepted => 0
  | .refusedRange => 1
  | .refusedFull => 2
  | .refusedState => 3
  | .refusedNotOwner => 4
  | .refusedBusy => 5
  | .refusedHold => 6
  | .refusedLevel => 7
  | .notReady => 8
  | .noRequest => 9

/-! ## Notices (R181, R195) -/

/-- The notice kinds by kind number, which is also the order of falling priority (R181). -/
def NoticeKind.all : List NoticeKind :=
  [.holdEntered, .holdCleared, .faultRecorded, .zoneBreached, .suspensionEnded, .zoneState, .modeCapped, .planChanged,
    .reminderChanged, .targetRetired, .storeDone]

/-- Kind numbers (R181). -/
def NoticeKind.number : NoticeKind → Nat
  | .holdEntered => 1
  | .holdCleared => 2
  | .faultRecorded => 3
  | .zoneBreached => 4
  | .suspensionEnded => 5
  | .zoneState => 6
  | .modeCapped => 7
  | .planChanged => 8
  | .reminderChanged => 9
  | .targetRetired => 10
  | .storeDone => 11

/-- Priorities (R181). -/
def NoticeKind.priority : NoticeKind → Nat
  | .holdEntered => 15
  | .holdCleared => 14
  | .faultRecorded => 12
  | .zoneBreached => 11
  | .suspensionEnded => 9
  | .zoneState => 8
  | .modeCapped => 7
  | .planChanged => 6
  | .reminderChanged => 5
  | .targetRetired => 4
  | .storeDone => 3

/-- The count of a kind in a notice table. -/
def noticeCount (counts : List Nat) (k : NoticeKind) : Nat := counts.getD (k.number - 1) 0

/-- A raising adds one to the kind's count and saturates at 15 (R181, R195). -/
def noticeRaised (counts : List Nat) (k : NoticeKind) : List Nat :=
  counts.set (k.number - 1) (min 15 (noticeCount counts k + 1))

/-- The count of a kind decreased by one (R181, R195). -/
def noticeTaken (counts : List Nat) (k : NoticeKind) : List Nat :=
  counts.set (k.number - 1) (noticeCount counts k - 1)

/-- The kind of the highest priority among those with a count above 0. -/
def topNotice (counts : List Nat) : Option NoticeKind :=
  NoticeKind.all.find? fun k => decide (0 < noticeCount counts k)

/-! ## Port A: places and choice (R178 to R181) -/

/-- Handing a message to a place of its kind, which is being offered or not (R178). -/
def Place.hand {α : Type} (offered : Bool) (m : α) (p : Place α) : Place α :=
  if offered then { p with replacement := some m } else { waiting := some m, replacement := none }

/-- A place after the end of its transmission (R179). -/
def Place.ended {α : Type} (ok : Bool) (p : Place α) : Place α :=
  if ok then { waiting := p.replacement, replacement := none }
  else match p.replacement with
    | some r => { waiting := some r, replacement := none }
    | none => p

/-- Filling the NOTICE place (R181, R182). -/
def PortA.fillNotice (p : PortA) : PortA :=
  if p.on && p.notice.isNone then
    match topNotice p.counts with
    | some k => { p with notice := some { kind := k, count := noticeCount p.counts k } }
    | none => p
  else p

/-- The oldest result place is filled (R179, R185). -/
def PortA.resultReady (p : PortA) : Bool :=
  match p.results with
  | r :: _ => r.code.isSome
  | [] => false

/-- The place port A would choose: GUIDANCE, REQUEST_RESULT, STATUS, NOTICE (R179). -/
def PortA.candidate (p : PortA) : Option OfferA :=
  if p.guidance.waiting.isSome then some .guidance
  else if p.resultReady then some .result
  else if p.status.waiting.isSome then some .status
  else if p.notice.isSome then some .notice
  else none

/-- Port A chooses when it is on the bus and offers nothing (R179). -/
def PortA.choose (p : PortA) : PortA :=
  if p.on && p.offering.isNone then { p with offering := p.candidate } else p

/-- A raising into the cab notice table (R181). -/
def PortA.raised (k : NoticeKind) (p : PortA) : PortA :=
  PortA.choose (PortA.fillNotice { p with counts := noticeRaised p.counts k })

/-- Raise a notice into the cab port's table. -/
def State.raiseCab (k : NoticeKind) (s : State) : State := { s with portA := s.portA.raised k }

/-- Raise a notice into the service link's table (R195). -/
def State.raiseLink (k : NoticeKind) (s : State) : State :=
  { s with sli := { s.sli with counts := noticeRaised s.sli.counts k } }

/-- Raise a notice into both tables. -/
def State.raiseBoth (k : NoticeKind) (s : State) : State := (s.raiseCab k).raiseLink k

/-- Port A handed a GUIDANCE (R67, R178). -/
def PortA.handGuidance (m : GuidanceMsg) (p : PortA) : PortA :=
  PortA.choose { p with guidance := p.guidance.hand (p.offering = some .guidance) m }

/-- Hand port A a GUIDANCE. -/
def State.handGuidance (m : GuidanceMsg) (s : State) : State := { s with portA := s.portA.handGuidance m }

/-- Port A handed a STATUS (R178, R186). -/
def PortA.handStatus (m : StatusMsg) (p : PortA) : PortA :=
  PortA.choose { p with status := p.status.hand (p.offering = some .status) m }

/-- Hand port A a STATUS. -/
def State.handStatus (m : StatusMsg) (s : State) : State := { s with portA := s.portA.handStatus m }

/-- The three fields of the REQUEST_RESULT of a filled place: request number, request kind, result code (R185). -/
def ResultPlace.fields (r : ResultPlace) : Option (Byte × Byte × Nat) :=
  r.code.map fun c => (r.number, r.kind, c.number)

/-- A result place after an answer for the reservation `ticket`. -/
def ResultPlace.answered (ticket : Nat) (code : ResultCode) (r : ResultPlace) : ResultPlace :=
  if r.ticket = ticket ∧ r.code = none then { r with code := some code } else r

/-- An owner's answer fills the place reserved under `ticket`; with that place gone the answer is dropped (R180,
R183). -/
def PortA.answered (ticket : Nat) (code : ResultCode) (p : PortA) : PortA :=
  PortA.choose { p with results := p.results.map (ResultPlace.answered ticket code) }

/-- Answer a cab request. -/
def State.answerCab (ticket : Nat) (code : ResultCode) (s : State) : State :=
  { s with portA := s.portA.answered ticket code }

/-! ## Port B: places, choice and layouts (R175, R178, R179, R187) -/

/-- The place port B would choose: ALLOTMENT, the ENGINE_DEMAND for GOV1, that for GOV2 (R179). -/
def PortB.candidate (p : PortB) : Option OfferB :=
  if p.allotment.waiting.isSome then some .allotment
  else if p.demand1.waiting.isSome then some .demand1
  else if p.demand2.waiting.isSome then some .demand2
  else none

/-- Port B chooses when it is on the bus and offers nothing (R179). -/
def PortB.choose (p : PortB) : PortB :=
  if p.on && p.offering.isNone then { p with offering := p.candidate } else p

/-- The ALLOTMENT frame (R174, R187). -/
def allotmentFrame (o : ByteOrder) (a : Allotment) : CanFrame :=
  { id := messageId .allotment ownNode
    data := ordered o (leBytes 2 a.frame.toNat)
      ++ [BitVec.ofNat 8 a.ceilings.left, BitVec.ofNat 8 a.ceilings.right, BitVec.ofNat 8 a.ceilings.raise,
          BitVec.ofNat 8 a.ceilings.lower, BitVec.ofNat 8 a.assist,
          BitVec.ofNat 8 (bit a.hold + 2 * bit a.poseValid)]
      ++ ordered o (leBytes 2 a.allowance) ++ [0, 0] }

/-- Plan state codes (R157, R187, R191). -/
def Plan.code : Plan → Nat
  | .none => 0
  | .twin => 1
  | .cooldown => 2
  | .single => 3
  | .starting => 4

/-- An ENGINE_DEMAND (R127). -/
structure EngineDemand where
  engine : Engine
  run : Bool
  speed : Nat
  idle : Bool
  plan : Plan
  lead : Bool
deriving DecidableEq, Repr

/-- The ENGINE_DEMAND frame (R174, R187). -/
def engineDemandFrame (o : ByteOrder) (d : EngineDemand) : CanFrame :=
  { id := messageId .engineDemand ownNode
    data := [BitVec.ofNat 8 (engineNode d.engine),
        BitVec.ofNat 8 (bit d.run + 2 * bit d.idle + 4 * bit d.lead + 16 * d.plan.code)]
      ++ ordered o (leBytes 2 d.speed) ++ [0, 0, 0, 0] }

/-- Port B handed an ALLOTMENT frame (R178). -/
def PortB.handAllotment (f : CanFrame) (p : PortB) : PortB :=
  PortB.choose { p with allotment := p.allotment.hand (p.offering = some .allotment) f }

/-- Port B handed the ENGINE_DEMAND frame of an engine (R178). -/
def PortB.handDemand (e : Engine) (f : CanFrame) (p : PortB) : PortB :=
  match e with
  | .e1 => PortB.choose { p with demand1 := p.demand1.hand (p.offering = some .demand1) f }
  | .e2 => PortB.choose { p with demand2 := p.demand2.hand (p.offering = some .demand2) f }

/-- The byte order of an engine's governor (R175). -/
def PortCfg.govOrder (c : PortCfg) : Engine → ByteOrder
  | .e1 => c.gov1Order
  | .e2 => c.gov2Order

/-- Hand port B an ALLOTMENT, in the order of the PCU (R175, R178, R187). -/
def State.handAllotment (a : Allotment) (s : State) : State :=
  { s with portB := s.portB.handAllotment (allotmentFrame s.settings.ports.pcuOrder a) }

/-- Hand port B an ENGINE_DEMAND, in the order of its governor (R175, R178, R187). -/
def State.handDemand (d : EngineDemand) (s : State) : State :=
  { s with portB := s.portB.handDemand d.engine (engineDemandFrame (s.settings.ports.govOrder d.engine) d) }

/-! ## The answer buffer (R189) -/

/-- The run of a request ends: its answer is placed in the PENDING buffer, which becomes READY. A residue or a detail to
which no rule gives a value is a free value (log 11). With no request pending there is no answer to place (log 10). -/
def State.answerLink (result : ResultCode) (residue : Option Byte) (detail : Option (BitVec 16)) (returned : Byte)
    (data : List Byte) (s : State) : State :=
  match s.sli.buffer with
  | .pending tag busy busyTag =>
    { s with
      freeCount := s.freeCount + 1
      sli := { s.sli with
        request := none
        buffer := .ready
          { tag := tag, result := result, residue := residue.getD (Config.unstatedResidue s.freeCount), busy := busy,
            busyTag := busyTag, detail := detail.getD (Config.unstatedDetail s.freeCount), returned := returned,
            data := data } } }
  | _ => s

/-- An answer of a result alone, with no entries. -/
def State.answerPlain (result : ResultCode) (s : State) : State := s.answerLink result none none 0 []

/-- An answer of a result and a detail, with no entries. -/
def State.answerDetail (result : ResultCode) (detail : Int) (s : State) : State :=
  s.answerLink result none (some (BitVec.ofInt 16 detail)) 0 []

/-- The answer block as it is clocked out: bytes 0 to 7, then the data (R189). -/
def Answer.bytes (a : Answer) : List Byte :=
  [a.tag, BitVec.ofNat 8 a.result.number, a.residue, BitVec.ofNat 8 (bit a.busy), a.busyTag]
    ++ leBytes 2 a.detail.toNat ++ [a.returned] ++ a.data

/-! ## Records of the NV array (R165) -/

/-- Record ids (R165). -/
def RecordId.number : RecordId → Nat
  | .config => 1
  | .zonesSite => 2
  | .zonesOper => 3
  | .items => 4
  | .meters => 5
  | .hold => 6

/-- Zone kind codes (R74). -/
def zoneKindCode : ZoneKind → Nat
  | .slewWall => 0
  | .ceiling => 1
  | .floor => 2

/-- Zone mode codes (R74). -/
def zoneModeCode : ZoneMode → Nat
  | .off => 0
  | .warn => 1
  | .enforce => 2

/-- The definition fields of a zone as bytes 0 to 15 of a ZONES entry (R74). -/
def zoneBytes (d : ZoneDef) : List Byte :=
  [BitVec.ofNat 8 (zoneKindCode d.kind), BitVec.ofNat 8 (zoneModeCode d.mode)] ++ leBytes 2 d.s.toNat ++ leBytes 2 d.e.toNat
    ++ leBytes 2 d.reachMin ++ leBytes 2 d.reachMax ++ leInt16 d.limit ++ leBytes 2 d.stop ++ leBytes 2 d.band

/-- Consequence codes (R147). -/
def Consequence.code : Consequence → Nat
  | .none => 0
  | .capEconomy => 1
  | .excludeE1 => 2
  | .excludeE2 => 3

/-- An ITEMS entry with its first byte given: bytes 0 to 19 of R147. -/
def ItemDef.bytes (first : Nat) (d : ItemDef) (mark : Nat) : List Byte :=
  [BitVec.ofNat 8 first, BitVec.ofNat 8 d.basis, BitVec.ofNat 8 d.consequence.code, d.label]
    ++ leBytes 4 d.interval ++ leBytes 4 d.lead ++ leBytes 4 d.grace ++ leBytes 4 mark

/-- Code numbers (R153). -/
def faultNumber : FaultCode → Nat
  | .frameOverrun => 1
  | .sensorMissing => 2
  | .sensorRange => 3
  | .sensorDisagree => 4
  | .geometryRange => 5
  | .poseLostMoving => 6
  | .zoneBreach => 7
  | .breachDeep => 8
  | .engineLost => 9
  | .startFailed => 10
  | .gov1Stale => 11
  | .gov2Stale => 12
  | .pcuStale => 13
  | .cabStale => 14
  | .busAOff => 15
  | .busBOff => 16
  | .nvWriteFail => 17
  | .nvRestoreBad => 18
  | .cfgInvalid => 19

/-- The bytes of a record's content (DESIGN CHOICE, log 7: spec/ gives no byte form). -/
def Content.bytes : Content → List Byte
  | .config version fields => leBytes 1 version ++ fields.flatMap leInt32
  | .zones defs => defs.flatMap zoneBytes
  | .items defs => defs.flatMap fun d => ItemDef.bytes (bit d.1.inUse + 2 * bit d.1.operatorReset) d.1 d.2
  | .meters values => values.flatMap (leBytes 4)
  | .hold none => [0, 0, 0, 0]
  | .hold (some c) => [1, BitVec.ofNat 8 (faultNumber c.code)] ++ leInt16 c.detail

/-- The sum of the bytes of a list. -/
def byteSum (l : List Byte) : Nat := l.foldl (fun n b => n + b.toNat) 0

/-- The check code: 65,535 less the sum, modulo 65,536, of every byte before it (R165). -/
def checkCode (id generation : Nat) (content : Content) : Nat :=
  65535 - byteSum (leBytes 1 id ++ leBytes 2 generation ++ content.bytes) % 65536

/-- A content is one the bytes of record `r` can hold (R165): every record has its own fields, of their widths. -/
def contentFits (r : RecordId) : Content → Bool
  | .config _ fields => r == .config && fields.length == 136
  | .zones defs => (r == .zonesSite || r == .zonesOper) && defs.length == 8
  | .items defs => r == .items && defs.length == 32
  | .meters values => r == .meters && values.length == 8 && values.all fun v => decide (v ≤ 4294967295)
  | .hold _ => r == .hold

/-- A copy passes in the place of record `r` (R165). -/
def NvCopy.passes (r : RecordId) : NvCopy → Bool
  | .written id generation content code =>
    id == r.number && contentFits r content && code == checkCode id generation content
  | _ => false

/-- The generation of a copy (R165). -/
def NvCopy.generation : NvCopy → Nat
  | .written _ g _ _ => g
  | _ => 0

/-- The content of a copy. -/
def NvCopy.content? : NvCopy → Option Content
  | .written _ _ c _ => some c
  | _ => none

/-- Copy A is the newer of two passing copies (R165; log 30 for a difference of 32768). -/
def NvPair.aNewer (p : NvPair) : Bool :=
  let d := (p.a.generation + 65536 - p.b.generation % 65536) % 65536
  d == 0 || (decide (1 ≤ d) && decide (d ≤ 32767))

/-- The newer passing copy, if any passes: `false` for A, `true` for B (R165). -/
def NvPair.newer (r : RecordId) (p : NvPair) : Option Bool :=
  if p.a.passes r then
    if p.b.passes r then some (!p.aNewer) else some false
  else if p.b.passes r then some true else none

/-- One of the two copies. -/
def NvPair.copy (p : NvPair) (b : Bool) : NvCopy := if b then p.b else p.a

/-- The content a record restores: that of its newer passing copy (R166). -/
def NvPair.restored (r : RecordId) (p : NvPair) : Option Content :=
  match p.newer r with
  | some b => (p.copy b).content?
  | none => none

/-- The copies of a record. -/
def NvArray.pair (a : NvArray) : RecordId → NvPair
  | .config => a.config
  | .zonesSite => a.zonesSite
  | .zonesOper => a.zonesOper
  | .items => a.items
  | .meters => a.meters
  | .hold => a.hold

/-- The array with the copies of a record replaced. -/
def NvArray.setPair (a : NvArray) (r : RecordId) (p : NvPair) : NvArray :=
  match r with
  | .config => { a with config := p }
  | .zonesSite => { a with zonesSite := p }
  | .zonesOper => { a with zonesOper := p }
  | .items => { a with items := p }
  | .meters => { a with meters := p }
  | .hold => { a with hold := p }

/-- The array with one copy of a record replaced. -/
def NvArray.setCopy (a : NvArray) (r : RecordId) (toB : Bool) (c : NvCopy) : NvArray :=
  a.setPair r (if toB then { a.pair r with b := c } else { a.pair r with a := c })

/-- The content of a record as its owner holds it, or the committed image for CONFIG (R158, R165, R167, R169). -/
def State.contentOf (r : RecordId) (s : State) : Content :=
  match r with
  | .config => .config Config.layoutVersion (s.nvc.image.getD [])
  | .zonesSite => .zones ((s.env.entries.take 8).map ZoneEntry.effective)
  | .zonesOper => .zones ((s.env.entries.drop 8).map ZoneEntry.effective)
  | .items => .items (s.smu.items.map fun i => (i.defn, i.mark))
  | .meters => .meters s.smu.meters
  | .hold => .hold s.fhu.held

/-- The write that begins for a record: the copy that is not the newer passing one, with the next generation (R165,
R169). -/
def State.writeOf (r : RecordId) (s : State) : NvWrite :=
  let pair := s.nvc.array.pair r
  let content := s.contentOf r
  let id := r.number
  match pair.newer r with
  | some b =>
    let g := ((pair.copy b).generation + 1) % 65536
    { record := r, toB := !b, copy := .written id g content (checkCode id g content) }
  | none => { record := r, toB := false, copy := .written id 1 content (checkCode id 1 content) }

/-! ## The store queue (R168 to R173) -/

/-- The queue has an entry for the record. -/
def Nvc.queued (r : RecordId) (n : Nvc) : Bool := n.queue.any fun e => e.record = r

/-- The queue takes a request for the record: it absorbs it or has a free place (R168). -/
def Nvc.takes (r : RecordId) (n : Nvc) : Bool := n.queued r || decide (n.queue.length < 4)

/-- The record's write is in flight. -/
def Nvc.writing (r : RecordId) (n : Nvc) : Bool :=
  match n.write with
  | some w => w.record = r
  | none => false

/-- An entry at the head place: behind the entry with a write in flight, or first (R168). -/
def atHead (writing : Bool) (e : StoreEntry) : List StoreEntry → List StoreEntry
  | [] => [e]
  | h :: t => if writing then h :: e :: t else e :: h :: t

/-- An entry that has absorbed a request (R168). -/
def StoreEntry.absorbed (again service : Bool) (e : StoreEntry) : StoreEntry :=
  { e with again := e.again || again, service := e.service || service }

/-- The queue after a request it takes, by the four cases of R168. -/
def Nvc.queueAfter (r : RecordId) (head service : Bool) (n : Nvc) : List StoreEntry :=
  if n.writing r then
    n.queue.map fun e => if e.record = r then e.absorbed true service else e
  else
    match n.queue.find? fun e => e.record = r with
    | some e =>
      if head then
        atHead n.write.isSome (e.absorbed false service) (n.queue.filter fun e => !decide (e.record = r))
      else n.queue.map fun e => if e.record = r then e.absorbed false service else e
    | none =>
      let e := { record := r, again := false, service := service }
      if head then atHead n.write.isSome e n.queue else n.queue ++ [e]

/-- The NVC after a store request (R168); a request taken in READY_OFF returns it to SHUTTING_DOWN (R171). -/
def Nvc.requested (r : RecordId) (head service : Bool) (n : Nvc) : Nvc :=
  if n.takes r then
    { n with
      queue := n.queueAfter r head service
      power := if n.power = .readyOff then .shuttingDown else n.power }
  else n

/-- What the owner of a record does when a request for it is taken or refused: the zone records' unstored marks (R78),
the hold unstored mark (R160), the snapshot mark and count (R138). -/
def State.ownerTold (r : RecordId) (taken : Bool) (s : State) : State :=
  match r with
  | .zonesSite => { s with env := { s.env with unstoredSite := !taken } }
  | .zonesOper => { s with env := { s.env with unstoredOper := !taken } }
  | .hold => { s with fhu := { s.fhu with unstored := !taken } }
  | .meters => if taken then { s with smu := { s.smu with snapDue := false, snapCount := 0 } } else s
  | .items => s
  | .config => s

/-- Request a store of record `r` (R168). Whether the queue takes it is `Nvc.takes` of the state before. -/
def State.requestStore (r : RecordId) (head service : Bool) (s : State) : State :=
  State.ownerTold r (s.nvc.takes r) { s with nvc := s.nvc.requested r head service }

/-- With no write in flight and the queue not empty, the write of the head entry begins (R168, R169). -/
def State.beginWrite (s : State) : State :=
  if s.nvc.write.isNone then
    match s.nvc.queue with
    | e :: _ => { s with nvc := { s.nvc with write := some (s.writeOf e.record) } }
    | [] => s
  else s

/-- READY_OFF is entered when nothing is left to store (R171). -/
def State.enterReadyOff (s : State) : State :=
  if s.nvc.power = .shuttingDown ∧ s.nvc.queue = [] ∧ s.nvc.write = none ∧ s.nvc.keyList = [] then
    { s with nvc := { s.nvc with power := .readyOff } }
  else s

/-- A pending restart falls due when the queue is empty and no write is in flight (R173, log 26). -/
def State.restartDue (s : State) : Bool :=
  s.nvc.restartPending && s.nvc.queue.isEmpty && s.nvc.write.isNone

/-- The restart that has fallen due is in flight. -/
def State.scheduleRestart (s : State) : State :=
  if s.restartDue && !s.inFlight.contains .supervisorRestart then s.deliver .supervisorRestart else s

/-- What the NVC does at the end of a step that touched its queue: begin a write, enter READY_OFF, restart when due
(log 17). -/
def State.settle (s : State) : State := s.beginWrite.enterReadyOff.scheduleRestart

/-- SHUTDOWN_READY is asserted (10, section 10.4). -/
def State.shutdownReady (s : State) : Bool := s.nvc.power = .readyOff

/-- The attention line is asserted exactly while some service notice count is above 0 (R195). -/
def State.attention (s : State) : Bool := s.sli.counts.any fun n => decide (0 < n)

end Sys2Proof.Machine
end

