-- ==== Sys2Proof/Machine/Cycle.lean ====
section
/-! DEFINITION. The cycle tracker (03): the phases of a bucket cycle, abandonment, the on-grade count. -/

namespace Sys2Proof.Machine

open Sys2Proof

/-- The cycle is abandoned (R43). -/
def Cyt.abandon (c : Cyt) : Cyt :=
  { c with phase := .idle, timer := 0, swingRun := 0, onGrade := 0, span := none }

/-- The dig condition (R38). -/
def digCondition (k : CytCfg) (c : Cyt) (r : PoseRecord) : Bool :=
  decide (r.height < k.digZ) && !r.rateUnknown && decide (r.rate.natAbs ≤ k.digSlewMax)
    && (c.phase != .idle || (c.pcu == .fresh && !c.travel))

/-- The swing condition (R39). -/
def swingCondition (k : CytCfg) (r : PoseRecord) : Bool :=
  decide (k.digZ ≤ r.height) && !r.rateUnknown && decide (k.swingMin ≤ r.rate.natAbs)

/-- Entry into DIG (R38). -/
def Cyt.enterDig (frame : FrameNo) (c : Cyt) : Cyt :=
  { c with phase := .dig, timer := 0, swingRun := 0, onGrade := 0, span := some { first := frame, last := none } }

/-- Entry into SWING_OUT: the dig span is closed with the frame of the previous record (R39, log 14). -/
def Cyt.enterSwingOut (c : Cyt) : Cyt :=
  { c with phase := .swingOut, timer := 0, swingRun := 0
           span := c.span.map fun d => { d with last := some c.lastFrame } }

/-- Entry into DUMP (R40). -/
def Cyt.enterDump (c : Cyt) : Cyt := { c with phase := .dump, timer := 0 }

/-- The cycle ends: entry into SWING_BACK (R41). -/
def Cyt.enterSwingBack (c : Cyt) : Cyt := { c with phase := .swingBack, timer := 0, onGrade := 0, span := none }

/-- A valid record that takes no transition adds to the phase timer, and may abandon the cycle (R42). -/
def Cyt.stay (k : CytCfg) (r : PoseRecord) (c : Cyt) : Cyt :=
  if c.phase = .idle then { c with timer := 0 }
  else
    let t := satAdd 65535 c.timer r.pose.periods
    if k.phaseMax < t then c.abandon else { c with timer := t }

/-- A usable record in DIG (R39). -/
def Cyt.inDig (k : CytCfg) (r : PoseRecord) (c : Cyt) : Cyt :=
  if swingCondition k r then
    let run := c.swingRun + 1
    if run = k.swingFrames then c.enterSwingOut else Cyt.stay k r { c with swingRun := run }
  else Cyt.stay k r { c with swingRun := 0 }

/-- A usable record, by the phase it finds (R37 to R42); a rate-unknown one breaks the swing run (R37). -/
def Cyt.usable (k : CytCfg) (r : PoseRecord) (c : Cyt) : Cyt :=
  let c := if r.rateUnknown then { c with swingRun := 0 } else c
  match c.phase with
  | .idle => if digCondition k c r then c.enterDig r.pose.frame else c.stay k r
  | .swingBack => if digCondition k c r then c.enterDig r.pose.frame else c.stay k r
  | .dig => c.inDig k r
  | .swingOut => if k.dumpOpen ≤ r.pose.bucket.value.toNat then c.enterDump else c.stay k r
  | .dump => if r.pose.bucket.value.toNat ≤ k.dumpOpen - k.dumpHyst then c.enterSwingBack else c.stay k r

/-- The CYT after a pose record (R37). -/
def Cyt.onRecord (k : CytCfg) (r : PoseRecord) (c : Cyt) : Cyt :=
  let c' :=
    if !r.pose.valid then c.abandon
    else if r.limited != .no then Cyt.stay k r { c with swingRun := 0 }
    else c.usable k r
  { c' with lastFrame := r.pose.frame }

/-- The record ends a cycle: DUMP passes to SWING_BACK (R41). -/
def cycleEnds (k : CytCfg) (r : PoseRecord) (c : Cyt) : Bool :=
  c.phase == .dump && (c.onRecord k r).phase == .swingBack

/-- The three deliveries of a cycle end (R41), which defines no order among them: SMU, EPC, GGU, before the phase report
of the record, is a DESIGN CHOICE (log 28). -/
def State.deliverCycleEnd (onGrade : Nat) (s : State) : State :=
  ((s.deliver .smuCycleEnd).deliver .epcCycleEnd).deliver (.gguCycleEnd onGrade)

/-- The CYT takes a pose record and sends its phase report (R37 to R43, R46). -/
def State.cytRecord (r : PoseRecord) (s : State) : State :=
  let c := s.cyt.onRecord s.settings.cyt r
  let t := { s with cyt := c }
  let t := if cycleEnds s.settings.cyt r s.cyt then t.deliverCycleEnd s.cyt.onGrade else t
  t.deliver (.phaseReport r.pose.frame c.phase)

/-- A frame number lies within a dig span (R47; "not before" for an open span as in R57, log 14). -/
def DigSpan.holds (m : FrameNo) (d : DigSpan) : Bool :=
  match d.last with
  | some l => decide ((m - d.first).toNat ≤ (l - d.first).toNat)
  | none => decide ((m - d.first).toNat ≤ 2147483647)

/-- The CYT takes a cue result (R47). -/
def Cyt.onCue (frame : FrameNo) (cue : Cue) (c : Cyt) : Cyt :=
  match c.span with
  | some d => if cue = .onGrade ∧ d.holds frame then { c with onGrade := satAdd 255 c.onGrade 1 } else c
  | none => c

/-- The CYT takes the travel flag of a PUMP_STATUS (R44). -/
def Cyt.onPumpStatus (travel : Bool) (c : Cyt) : Cyt :=
  let c := { c with travel := travel, pcu := .fresh }
  if travel ∧ c.phase ≠ .idle then c.abandon else c

/-- CYT_POSE_RECORD (R37 to R46). -/
def execCytPoseRecord (rec : PoseRecord) (s : State) : Out := onDelivery (.cytPoseRecord rec) (State.cytRecord rec) s

/-- CUE_RESULT (R47). -/
def execCueResult (frame : FrameNo) (cue : Cue) (s : State) : Out :=
  onDelivery (.cueResult frame cue) (fun s => { s with cyt := s.cyt.onCue frame cue }) s

/-- CYT_PUMP_STATUS (R44). -/
def execCytPumpStatus (travel : Bool) (s : State) : Out :=
  onDelivery (.cytPumpStatus travel) (fun s => { s with cyt := s.cyt.onPumpStatus travel }) s

/-- CYT_PCU_STALENESS (R45). -/
def execCytPcuStaleness (s : State) : Out :=
  onDelivery .cytPcuStaleness (fun s => { s with cyt := { s.cyt.abandon with pcu := .stale } }) s

/-- CYT_PCU_FRESHNESS (R45). -/
def execCytPcuFreshness (s : State) : Out :=
  onDelivery .cytPcuFreshness (fun s => { s with cyt := { s.cyt with pcu := .fresh } }) s

end Sys2Proof.Machine
end

