-- ==== Sys2Proof/Machine/EnginePlan.lean ====
section
/-! DEFINITION. The engine plan controller (07): engine records and availability, demand filter, modes, the plan and
its transitions, the pump power allowance, ENGINE_DEMAND, the trip record. -/

namespace Sys2Proof.Machine

open Sys2Proof

/-! ## Engines, availability, modes (R109 to R111, R114) -/

/-- The other engine. -/
def otherEngine : Engine → Engine
  | .e1 => .e2
  | .e2 => .e1

/-- Engine numbers in details and operands (R153, R193). -/
def engineNumber : Engine → Nat
  | .e1 => 1
  | .e2 => 2

/-- The record of an engine (R109). -/
def Epc.eng (p : Epc) : Engine → EngineRec
  | .e1 => p.e1
  | .e2 => p.e2

/-- The record of an engine changed. -/
def Epc.onEng (e : Engine) (f : EngineRec → EngineRec) (p : Epc) : Epc :=
  match e with
  | .e1 => { p with e1 := f p.e1 }
  | .e2 => { p with e2 := f p.e2 }

/-- The availability of an engine (R111). -/
def Epc.avail (p : Epc) (e : Engine) : Availability :=
  if (p.eng e).failed then .failed
  else if (p.eng e).excluded && !(p.eng (otherEngine e)).excluded then .excluded
  else .available

/-- The cap is ECONOMY (R114); otherwise it is POWER. -/
def Epc.capped (p : Epc) : Bool := p.capEconomy || (p.e1.excluded && p.e2.excluded)

/-- The effective mode: the lower of the mode request and the cap (R114). -/
def Epc.effMode (p : Epc) : Mode := if p.capped then .economy else p.modeReq

/-- The engine is RUNNING (R109). -/
def Epc.running (p : Epc) (e : Engine) : Bool := (p.eng e).reported == .running

/-- The engine is AVAILABLE (R111). -/
def Epc.isAvailable (p : Epc) (e : Engine) : Bool := p.avail e == .available

/-- The engine is EXCLUDED (R111). -/
def Epc.isExcluded (p : Epc) (e : Engine) : Bool := p.avail e == .excluded

/-- The reported state of a code: one outside 0 to 3 is taken as FAULTED (R109, R187). -/
def engStateOf (code : Byte) : EngState :=
  if code = 0 then .stopped else if code = 1 then .cranking else if code = 2 then .running else .faulted

/-! ## Commands and allowance (R117, R128) -/

/-- The engine is the trail of a cooldown. -/
def Epc.coolingTrail (p : Epc) (e : Engine) : Bool := p.plan == .cooldown && p.lead != some e

/-- The commanded run of an engine (R117; a FAILED engine is commanded STOP in every plan state, log 16). -/
def Epc.runFor (p : Epc) (e : Engine) : Bool :=
  if p.keyOff || (p.eng e).failed then false
  else match p.plan with
    | .none => !(p.isExcluded e && p.runSeen)
    | .twin => !(p.isExcluded e && !(p.eng e).hasRun)
    | .cooldown => true
    | .single => p.lead == some e
    | .starting => true

/-- The commanded speed of an engine commanded RUN (R117). -/
def Epc.runSpeed (c : EpcCfg) (p : Epc) (e : Engine) : Nat :=
  if p.hold || p.coolingTrail e || p.idle then c.idleRpm else c.ratedSpeed p.effMode

/-- The commands of an engine re-formed: the has-run mark is cleared with STOP (R109, R117). -/
def Epc.command (c : EpcCfg) (p : Epc) (e : Engine) : EngineRec :=
  let r := p.eng e
  if p.runFor e then { r with run := true, cmdSpeed := p.runSpeed c e }
  else { r with run := false, cmdSpeed := 0, hasRun := false }

/-- What an engine contributes to the allowance (R128). -/
def Epc.contribution (c : EpcCfg) (p : Epc) (e : Engine) : Nat :=
  if p.running e && (p.eng e).run && !p.coolingTrail e then c.rated e * c.ratio p.effMode / 100 else 0

/-- The pump power allowance (R128). -/
def Epc.allowanceOf (c : EpcCfg) (p : Epc) : Nat :=
  let sum := min 4000 (p.contribution c .e1 + p.contribution c .e2 - c.reserve)
  if p.hold then min sum c.holdKw else sum

/-- The commands of both engines re-formed (R117). -/
def Epc.recommand (c : EpcCfg) (p : Epc) : Epc := { p with e1 := p.command c .e1, e2 := p.command c .e2 }

/-- The allowance re-formed (R128). -/
def Epc.reallow (c : EpcCfg) (p : Epc) : Epc := { p with allowance := p.allowanceOf c }

/-- Commands and allowance re-formed (R117, R128). -/
def Epc.reform (c : EpcCfg) (p : Epc) : Epc := (p.recommand c).reallow c

/-! ## Plan changes -/

/-- Entry into PLAN_TWIN (R119: the low-demand count is set to 0). -/
def Epc.enterTwin (p : Epc) : Epc := { p with plan := .twin, lead := none, starting := none, lowCount := 0 }

/-- Entry into PLAN_COOLDOWN with a lead (R120, R123, R124). -/
def Epc.enterCooldown (c : EpcCfg) (lead : Engine) (p : Epc) : Epc :=
  { p with plan := .cooldown, lead := some lead, starting := none, cooldown := c.cooldownIntervals }

/-- Entry into PLAN_SINGLE with a lead. -/
def Epc.enterSingle (lead : Engine) (p : Epc) : Epc := { p with plan := .single, lead := some lead, starting := none }

/-- Entry into PLAN_NONE. -/
def Epc.enterNone (p : Epc) : Epc := { p with plan := .none, lead := none, starting := none }

/-- Entry into PLAN_STARTING of an engine (R116, R122). -/
def Epc.enterStarting (c : EpcCfg) (e : Engine) (swap : Bool) (p : Epc) : Epc :=
  { p with plan := .starting, starting := some e, swap := swap, startTimer := c.startIntervals }

/-- The trail of a plan with a lead. -/
def Epc.trail (p : Epc) : Option Engine := p.lead.map otherEngine

/-! ## Changes of availability (R124) -/

/-- R124 for engine `e` having become EXCLUDED. -/
def Epc.becameExcluded (c : EpcCfg) (e : Engine) (p : Epc) : Epc :=
  match p.plan with
  | .starting =>
    if p.starting = some e then
      let q := { p with swap := false, startTimer := 0 }
      if p.isAvailable (otherEngine e) then q.enterSingle (otherEngine e) else q.enterTwin
    else if p.starting = some (otherEngine e) ∧ p.lead = some e then
      { p with lead := some (otherEngine e), swap := true }
    else p
  | .cooldown => if p.lead = some e then p.enterCooldown c (otherEngine e) else p
  | .single =>
    if p.lead = some e then
      if p.isAvailable (otherEngine e) ∧ !p.hold then
        Epc.enterStarting c (otherEngine e) true { p with lead := some (otherEngine e) }
      else p.enterTwin
    else p
  | .none => p
  | .twin => p

/-- R124 for engine `e`, when its availability has changed since `before`, except with the key-off mark set. -/
def Epc.availChanged (c : EpcCfg) (before : Epc) (e : Engine) (p : Epc) : Epc :=
  if !p.keyOff && before.avail e != p.avail e && p.isExcluded e then p.becameExcluded c e else p

/-- R124 for both engines. -/
def Epc.applyAvail (c : EpcCfg) (before p : Epc) : Epc :=
  Epc.availChanged c before .e2 (Epc.availChanged c before .e1 p)

/-! ## Engine reports (R109, R119, R123, R125) -/

/-- The record of an engine after an ENGINE_STATUS (R109). -/
def EngineRec.reportedAs (st : EngState) (load speed fuel : Nat) (r : EngineRec) : EngineRec :=
  { r with reported := st, load := load, speed := speed, fuel := fuel, hasRun := r.hasRun || (r.run && st == .running) }

/-- A start completes (R123). -/
def Epc.startCompleted (c : EpcCfg) (e : Engine) (p : Epc) : Epc :=
  let q := { p with startTimer := 0 }
  if p.swap then Epc.enterCooldown c e { q with swap := false }
  else Epc.enterTwin { q with dwell := c.restartDwell }

/-- A RUNNING report from an engine (R119, R123). -/
def Epc.onRunning (c : EpcCfg) (e : Engine) (p : Epc) : Epc :=
  if !(p.eng e).run then p
  else if p.plan = .none then Epc.enterTwin { p with runSeen := true }
  else if p.plan = .starting ∧ p.starting = some e then p.startCompleted c e
  else p

/-- The engine is lost (R125): the plan after its failed flag is set. Where the plan is PLAN_TWIN and R125 takes it to
PLAN_TWIN with no lead, this counts as an entry into PLAN_TWIN, which zeroes the low-demand count (R119): a DESIGN CHOICE
(log 40). -/
def Epc.lost (e : Engine) (p : Epc) : Epc :=
  let q := p.onEng e fun r => { r with failed := true }
  let o := otherEngine e
  if p.plan = .starting ∧ p.starting = some o then { q with lead := some o, swap := false }
  else if q.running o && q.isAvailable o then q.enterSingle o
  else if q.running o && q.isExcluded o then q.enterTwin
  else q.enterNone

/-- A report finds its engine lost (R125). -/
def Epc.isLost (e : Engine) (st : EngState) (p : Epc) : Bool :=
  (st == .stopped || st == .faulted) && (p.eng e).run && (p.eng e).hasRun

/-- The EPC after an ENGINE_STATUS (R109, R119, R123, R125). -/
def Epc.onStatus (c : EpcCfg) (e : Engine) (st : EngState) (load speed fuel : Nat) (p : Epc) : Epc :=
  let q := p.onEng e (EngineRec.reportedAs st load speed fuel)
  if st = .running then q.onRunning c e else if p.isLost e st then q.lost e else q

/-- The record of an engine whose governor is stale (R110). -/
def EngineRec.silent (r : EngineRec) : EngineRec := { r with reported := .unknown, fuel := 65535 }

/-! ## The plan interval (R113, R118 to R124, R127) -/

/-- The raw demand of an interval (R113). -/
def Epc.rawDemand (c : EpcCfg) (p : Epc) : Nat := if p.pcu = .fresh then p.demand + c.reserve else 4000

/-- The filter accumulator after an interval of raw demand d (R113). -/
def filterStep (f d : Nat) : Nat := f - f / 8 + d

/-- The filtered demand (R113). -/
def Epc.filtered (p : Epc) : Nat := p.filter / 8

/-- The neutral count and the idle state at an expiry (R118; "reaches": log 15). -/
def Epc.keepIdle (c : EpcCfg) (p : Epc) : Epc :=
  if p.autoIdle && p.pcu == .fresh && p.neutral then
    let n := satAdd 65535 p.neutralCount 1
    { p with neutralCount := n, idle := p.idle || decide (c.idleDelay ≤ n) }
  else p

/-- The restart dwell and the low-demand count at an expiry (R119, R129). -/
def Epc.keepCounts (c : EpcCfg) (p : Epc) : Epc :=
  { p with
    dwell := p.dwell - 1
    lowCount :=
      if p.hold then 0
      else if p.plan = .twin then (if p.filtered < c.singleEnter then satAdd 65535 p.lowCount 1 else 0)
      else p.lowCount }

/-- The engine a low-demand cooldown keeps: the one with the fewer hours (R120). -/
def lowerHours (h1 h2 : Nat) : Engine := if h2 < h1 then .e2 else .e1

/-- The condition of R120. -/
def Epc.cooldownDue (c : EpcCfg) (p : Epc) : Bool :=
  p.autoSingle && !p.hold && p.running .e1 && p.running .e2 && p.isAvailable .e1 && p.isAvailable .e2
    && decide (c.downIntervals ≤ p.lowCount) && p.dwell == 0

/-- The engine a forced cooldown keeps: the other one is EXCLUDED and has run, this one AVAILABLE and RUNNING (R124). -/
def Epc.forcedLead (p : Epc) : Option Engine :=
  if p.isExcluded .e1 && p.e1.hasRun && p.isAvailable .e2 && p.running .e2 then some .e2
  else if p.isExcluded .e2 && p.e2.hasRun && p.isAvailable .e1 && p.running .e1 then some .e1
  else none

/-- The tests of PLAN_TWIN (R120, R124). -/
def Epc.twinTests (c : EpcCfg) (h1 h2 : Nat) (p : Epc) : Epc :=
  if p.cooldownDue c then p.enterCooldown c (lowerHours h1 h2)
  else match p.forcedLead with
    | some l => p.enterCooldown c l
    | none => p

/-- The tests of PLAN_COOLDOWN (R121). -/
def Epc.cooldownTests (c : EpcCfg) (p : Epc) : Epc :=
  match p.lead with
  | none => p
  | some l =>
    if p.hold then p
    else if c.twinEnter < p.filtered ∧ !p.isExcluded (otherEngine l) then Epc.enterTwin { p with cooldown := 0 }
    else
      let q := { p with cooldown := p.cooldown - 1 }
      if q.cooldown = 0 then q.enterSingle l else q

/-- The hours meter of an engine. -/
def hoursOf (h1 h2 : Nat) : Engine → Nat
  | .e1 => h1
  | .e2 => h2

/-- The tests of PLAN_SINGLE (R122). -/
def Epc.singleTests (c : EpcCfg) (h1 h2 d : Nat) (p : Epc) : Epc :=
  match p.lead with
  | none => p
  | some l =>
    let t := otherEngine l
    if p.hold || !p.isAvailable t then p
    else if c.twinEnter < p.filtered ∨ 95 * p.allowance < 100 * d then p.enterStarting c t false
    else if hoursOf h1 h2 t + c.balanceUnits < hoursOf h1 h2 l then p.enterStarting c t true
    else p

/-- The start timer reaches 0 at this expiry (R123). -/
def Epc.startTimesOut (p : Epc) : Bool := p.plan == .starting && p.starting.isSome && decide (p.startTimer ≤ 1)

/-- The end of a start by its timer (R123). -/
def Epc.startTimedOut (e : Engine) (p : Epc) : Epc :=
  let q := { p.onEng e (fun r => { r with failed := true }) with swap := false, startTimer := 0 }
  let o := otherEngine e
  match q.avail o with
  | .available => q.enterSingle o
  | .excluded => q.enterTwin
  | .failed => q.enterNone

/-- The test of PLAN_STARTING (R123). -/
def Epc.startingTests (p : Epc) : Epc :=
  match p.starting with
  | none => p
  | some e => if p.startTimesOut then p.startTimedOut e else { p with startTimer := p.startTimer - 1 }

/-- The timed tests of the plan state (R120 to R124). -/
def Epc.planTests (c : EpcCfg) (h1 h2 d : Nat) (p : Epc) : Epc :=
  match p.plan with
  | .none => p
  | .twin => p.twinTests c h1 h2
  | .cooldown => p.cooldownTests c
  | .single => p.singleTests c h1 h2 d
  | .starting => p.startingTests

/-- The EPC at a plan interval expiry, up to the commands (R127). -/
def Epc.onInterval (c : EpcCfg) (h1 h2 : Nat) (p : Epc) : Epc :=
  let d := p.rawDemand c
  let p := { p with filter := filterStep p.filter d }
  ((p.keepIdle c).keepCounts c).planTests c h1 h2 d

/-! ## Notices of an event -/

/-- An event at the EPC: its change, the commands and allowance re-formed, MODE_CAPPED when a change of the cap changed
the effective mode (R114), PLAN_CHANGED when the plan state or the lead changed (R116). -/
def State.epcEvent (f : Epc → Epc) (s : State) : State :=
  let p := (f s.epc).reform s.settings.epc
  let t := { s with epc := p }
  let t := if p.capped ≠ s.epc.capped ∧ p.effMode ≠ s.epc.effMode then t.raiseCab .modeCapped else t
  if p.plan ≠ s.epc.plan ∨ p.lead ≠ s.epc.lead then t.raiseBoth .planChanged else t

/-- The ENGINE_DEMAND of an engine (R127). -/
def Epc.demandFor (c : EpcCfg) (p : Epc) (e : Engine) : EngineDemand :=
  let r := p.eng e
  { engine := e, run := r.run, speed := r.cmdSpeed, idle := r.run && r.cmdSpeed == c.idleRpm, plan := p.plan,
    lead := p.lead == some e }

/-- Both ENGINE_DEMANDs are handed to port B (R127). -/
def State.handDemands (s : State) : State :=
  (s.handDemand (s.epc.demandFor s.settings.epc .e1)).handDemand (s.epc.demandFor s.settings.epc .e2)

/-- START_FAILED is reported when a start times out (R123). -/
def State.reportStart (p : Epc) (s : State) : State :=
  match p.starting with
  | some e => if p.startTimesOut then s.report .startFailed (engineNumber e) none else s
  | none => s

/-- The plan interval timer expires (R127). -/
def State.planInterval (s : State) : State :=
  let h1 := s.smu.meters.getD 0 0
  let h2 := s.smu.meters.getD 1 0
  ((s.reportStart s.epc).epcEvent (Epc.onInterval s.settings.epc h1 h2)).handDemands

/-- An ENGINE_STATUS reaches the EPC (R109, R119, R123, R125). -/
def State.engineReport (e : Engine) (st : EngState) (load speed fuel : Nat) (s : State) : State :=
  let t := if s.epc.isLost e st then s.report .engineLost (engineNumber e) none else s
  t.epcEvent (Epc.onStatus s.settings.epc e st load speed fuel)

/-! ## PCU, hold, key, requests -/

/-- The EPC after a PUMP_STATUS (R113, R118). -/
def Epc.onPumpStatus (demand : Nat) (neutral : Bool) (p : Epc) : Epc :=
  let p := { p with demand := min 4000 demand, neutral := neutral, pcu := .fresh }
  if neutral then p else { p with neutralCount := 0, idle := false }

/-- The EPC after a staleness event for the PCU (R113, R118). -/
def Epc.onPcuStale (p : Epc) : Epc := { p with pcu := .stale, neutralCount := 0, idle := false }

/-- The EPC after a consequence summary (R111, R114, R124). -/
def Epc.onSummary (c : EpcCfg) (m : Consequences) (p : Epc) : Epc :=
  Epc.applyAvail c p
    { p with capEconomy := m.capEconomy, e1 := { p.e1 with excluded := m.excludeE1 }
             e2 := { p.e2 with excluded := m.excludeE2 } }

/-- The EPC at the entry into HOLD (R129). -/
def Epc.onHold (p : Epc) : Epc := { p with hold := true, lowCount := 0 }

/-- The EPC at KEY-off (R130). -/
def Epc.onKeyOff (p : Epc) : Epc :=
  { p with keyOff := true, plan := .none, lead := none, starting := none, swap := false, startTimer := 0, cooldown := 0,
           lowCount := 0, dwell := 0, idle := false }

/-- The EPC at KEY-on (R130). -/
def Epc.onKeyOn (p : Epc) : Epc := { p with keyOff := false, runSeen := false }

/-- The EPC after AUTO_SINGLE outside HOLD (R126). -/
def Epc.onAutoSingle (c : EpcCfg) (on : Bool) (p : Epc) : Epc :=
  let q := { p with autoSingle := on }
  if on then q
  else match p.plan, p.lead with
    | .cooldown, some l => if p.isExcluded (otherEngine l) then q else q.enterTwin
    | .single, some l => if p.isAvailable (otherEngine l) then q.enterStarting c (otherEngine l) false else q
    | _, _ => q

/-- The EPC after AUTO_IDLE (R115, R118). -/
def Epc.onAutoIdle (on : Bool) (p : Epc) : Epc :=
  if on then { p with autoIdle := true } else { p with autoIdle := false, neutralCount := 0, idle := false }

/-- SET_MODE at the EPC (R115). -/
def State.requestMode (place : Nat) (mode : Int) (s : State) : State :=
  if !within 0 2 mode then s.answerCab place .refusedRange
  else if s.epc.hold then s.answerCab place .refusedHold
  else (s.epcEvent fun p => { p with modeReq := modeOf mode }).answerCab place .accepted

/-- AUTO_SINGLE at the EPC (R126). Switched OFF it can raise PLAN_CHANGED in the step that answers it: the notice reaches
port A before the answer, a DESIGN CHOICE (log 28), so that an idle port A offers the NOTICE first (R179). -/
def State.requestAutoSingle (place : Nat) (on : Bool) (s : State) : State :=
  if s.epc.hold then s.answerCab place .refusedHold
  else (s.epcEvent (Epc.onAutoSingle s.settings.epc on)).answerCab place .accepted

/-- The engine of an engine number (R111). -/
def engineOf (n : Nat) : Option Engine := if n = 1 then some .e1 else if n = 2 then some .e2 else none

/-- CLEAR_FAILED at the EPC (R111). The clearing of ENGINE_LOST and START_FAILED of the engine is one report (R154); the
one code a report bears (R152) is ENGINE_LOST here, a DESIGN CHOICE (log 38) without effect at the FHU. -/
def State.clearFailed (n : Nat) (s : State) : State :=
  match engineOf n with
  | none => s.answerPlain .refusedRange
  | some e =>
    if (s.epc.eng e).failed then
      let t := s.reportClear .engineLost n none
      let c := s.settings.epc
      let t := t.epcEvent fun p => Epc.applyAvail c p (p.onEng e fun r => { r with failed := false })
      t.answerPlain .accepted
    else s.answerPlain .refusedState

/-! ## The trip record (R131) -/

/-- The trip record after a fuel increment (R131). -/
def Epc.addTripFuel (units : Nat) (p : Epc) : Epc :=
  let total := p.tripResidue + units
  { p with tripFuel := satAdd 4294967295 p.tripFuel (total / 36000), tripResidue := total % 36000 }

/-- The trip record after a cycle-end increment (R131). -/
def Epc.addTripCycle (p : Epc) : Epc := { p with tripCycles := satAdd 4294967295 p.tripCycles 1 }

/-- The trip record zeroed (R131). -/
def Epc.resetTrip (p : Epc) : Epc := { p with tripFuel := 0, tripResidue := 0, tripCycles := 0 }

/-- The economy figure, in litres per hundred cycles (R131). -/
def Epc.economy (p : Epc) : Nat :=
  if p.tripCycles = 0 then 65535 else min 65534 (100 * p.tripFuel / p.tripCycles)

/-! ## The commands -/

/-- PLAN_INTERVAL_EXPIRY (R127). -/
def execPlanIntervalExpiry (s : State) : Out := onEvent State.planInterval s

/-- EPC_ENGINE_STATUS (R109, R119, R123, R125). -/
def execEpcEngineStatus (engine : Engine) (code : Byte) (load speed fuel : Nat) (s : State) : Out :=
  onDelivery (.epcEngineStatus engine code load speed fuel)
    (State.engineReport engine (engStateOf code) load speed fuel) s

/-- EPC_PUMP_STATUS (R113, R118). -/
def execEpcPumpStatus (demand : Nat) (neutral : Bool) (s : State) : Out :=
  onDelivery (.epcPumpStatus demand neutral) (State.epcEvent (Epc.onPumpStatus demand neutral)) s

/-- EPC_PCU_STALENESS (R113, R118). -/
def execEpcPcuStaleness (s : State) : Out := onDelivery .epcPcuStaleness (State.epcEvent Epc.onPcuStale) s

/-- EPC_PCU_FRESHNESS (R113). -/
def execEpcPcuFreshness (s : State) : Out :=
  onDelivery .epcPcuFreshness (State.epcEvent fun p => { p with pcu := .fresh }) s

/-- GOVERNOR_STALENESS (R110). -/
def execGovernorStaleness (engine : Engine) (s : State) : Out :=
  onDelivery (.governorStaleness engine) (State.epcEvent (Epc.onEng engine EngineRec.silent)) s

/-- GOVERNOR_FRESHNESS: a freshness event changes nothing in the record (R110). -/
def execGovernorFreshness (engine : Engine) (s : State) : Out := onDelivery (.governorFreshness engine) id s

/-- CONSEQUENCE_SUMMARY (R111, R114, R124). -/
def execConsequenceSummary (marks : Consequences) (s : State) : Out :=
  onDelivery (.consequenceSummary marks) (fun s => s.epcEvent (Epc.onSummary s.settings.epc marks)) s

/-- EPC_HOLD_ENTRY (R129). -/
def execEpcHoldEntry (s : State) : Out := onDelivery .epcHoldEntry (State.epcEvent Epc.onHold) s

/-- EPC_HOLD_CLEAR (R129). -/
def execEpcHoldClear (s : State) : Out := onDelivery .epcHoldClear (State.epcEvent fun p => { p with hold := false }) s

/-- EPC_CYCLE_END (R131). -/
def execEpcCycleEnd (s : State) : Out :=
  onDelivery .epcCycleEnd (fun s => { s with epc := s.epc.addTripCycle }) s

/-- TRIP_FUEL_INCREMENT (R131). -/
def execTripFuelIncrement (units : Nat) (s : State) : Out :=
  onDelivery (.tripFuelIncrement units) (fun s => { s with epc := s.epc.addTripFuel units }) s

/-- SET_MODE (R114, R115). -/
def execSetMode (place : Nat) (mode : Int) (s : State) : Out :=
  onDelivery (.setMode place mode) (State.requestMode place mode) s

/-- AUTO_SINGLE (R126). -/
def execAutoSingle (place : Nat) (on : Bool) (s : State) : Out :=
  onDelivery (.autoSingle place on) (State.requestAutoSingle place on) s

/-- AUTO_IDLE (R115, R118). -/
def execAutoIdle (place : Nat) (on : Bool) (s : State) : Out :=
  onDelivery (.autoIdle place on) (fun s => (s.epcEvent (Epc.onAutoIdle on)).answerCab place .accepted) s

/-- TRIP_RESET (R115, R131). -/
def execTripReset (place : Nat) (s : State) : Out :=
  onDelivery (.tripReset place)
    (fun s => State.answerCab place .accepted { s with epc := s.epc.resetTrip }) s

/-- CLEAR_FAILED (R111). -/
def execClearFailed (engine : Nat) (s : State) : Out :=
  onDelivery (.clearFailed engine) (State.clearFailed engine) s

end Sys2Proof.Machine
end

