-- ==== Sys2Proof/Machine/Envelope.lean ====
section
/-! DEFINITION. The envelope table (05): edits and their check, pending copies and the frame zone set, suspensions,
recorded states and the zone notices. -/

namespace Sys2Proof.Machine

open Sys2Proof

/-! ## Edits (R72 to R75) -/

/-- The zone kind of a code (R74; in a cab ZONE_EDIT, whose codes no rule gives, the model's choice, log 39). -/
def zoneKindOf (n : Nat) : Option ZoneKind :=
  if n = 0 then some .slewWall else if n = 1 then some .ceiling else if n = 2 then some .floor else none

/-- The zone mode of a code (R74; in a cab ZONE_EDIT, whose codes no rule gives, the model's choice, log 39). -/
def zoneModeOf (n : Nat) : Option ZoneMode :=
  if n = 0 then some .off else if n = 1 then some .warn else if n = 2 then some .enforce else none

/-- The range of the stop margin of a kind (R69). -/
def stopInRange (k : ZoneKind) (v : Int) : Bool :=
  match k with
  | .slewWall => within 0 16383 v
  | .ceiling => within 0 5000 v
  | .floor => within 0 5000 v

/-- The range of the band of a kind (R69). -/
def bandInRange (k : ZoneKind) (v : Int) : Bool :=
  match k with
  | .slewWall => within 0 32767 v
  | .ceiling => within 1 10000 v
  | .floor => within 1 10000 v

/-- The definition a valid edit stands for; none for an edit that is not valid (R72). Kind and mode of an edit of the cab
are read by the codes of R74 (DESIGN CHOICE, unsafe: log 39). -/
def zoneDefOf (f : ZoneFields) : Option ZoneDef :=
  match zoneKindOf f.kind, zoneModeOf f.mode with
  | some k, some m =>
    if within 0 32767 f.reachMin && within 0 32767 f.reachMax && decide (f.reachMin ≤ f.reachMax)
        && within (-32768) 32767 f.limit && stopInRange k f.stop && bandInRange k f.band then
      some { kind := k, mode := m, s := f.s, e := f.e, reachMin := f.reachMin.toNat, reachMax := f.reachMax.toNat,
             limit := f.limit, stop := f.stop.toNat, band := f.band.toNat }
    else none
  | _, _ => none

/-- The fields of a written ZONES entry: bytes 0 to 15 (R74). -/
def zoneFieldsAt (l : List Byte) : ZoneFields :=
  { kind := natAt l 0 1, mode := natAt l 1 1, s := BitVec.ofNat 16 (natAt l 2 2), e := BitVec.ofNat 16 (natAt l 4 2),
    reachMin := natAt l 6 2, reachMax := natAt l 8 2, limit := int16At l 10, stop := natAt l 12 2,
    band := natAt l 14 2 }

/-- One entry of the table changed. -/
def Env.onEntry (i : Nat) (f : ZoneEntry → ZoneEntry) (v : Env) : Env := { v with entries := v.entries.modify i f }

/-- An edit becomes the pending copy of an entry (R73, R74). -/
def Env.setPending (i : Nat) (d : ZoneDef) (v : Env) : Env := v.onEntry i fun e => { e with pending := some d }

/-- What the ENV answers to an edit of an index by a party that owns the entries `lo` to `hi` (R73, R74). -/
def editResult (lo hi index : Int) (f : ZoneFields) : ResultCode :=
  if !within 0 15 index then .refusedRange
  else if !within lo hi index then .refusedNotOwner
  else if (zoneDefOf f).isNone then .refusedRange
  else .accepted

/-- The ENV after an edit (R73, R74): a refused one changes nothing. -/
def Env.edited (lo hi index : Int) (f : ZoneFields) (v : Env) : Env :=
  if editResult lo hi index f = .accepted then
    match zoneDefOf f with
    | some d => v.setPending index.toNat d
    | none => v
  else v

/-! ## The frame zone set (R76 to R78) -/

/-- An entry after it took its pending copy (R76, R77); one without a pending copy is as it was. -/
def ZoneEntry.applied (e : ZoneEntry) : ZoneEntry :=
  match e.pending with
  | some d => ZoneEntry.start d
  | none => e

/-- The notices of one entry's application (R77). -/
def State.applyNotices (e : ZoneEntry) (s : State) : State :=
  if e.pending.isSome then
    let t := if e.suspension.isSome then s.raiseBoth .suspensionEnded else s
    if e.recorded ≠ .clear ∨ e.suspMark then t.raiseCab .zoneState else t
  else s

/-- Some entry of a list took a pending copy. -/
def anyPending (l : List ZoneEntry) : Bool := l.any fun e => e.pending.isSome

/-- Request the store of a zone record when some of its entries changed (R78). -/
def State.storeIf (changed : Bool) (r : RecordId) (s : State) : State :=
  if changed then s.requestStore r false false else s

/-- Every waiting change moves into force (R76, step 1; R77, R78). R78 gives the two requests of one frame no order:
ZONES_SITE before ZONES_OPER is a DESIGN CHOICE (log 35). -/
def State.applyPending (s : State) : State :=
  let before := s.env.entries
  let t := before.foldl (fun s e => s.applyNotices e) s
  let t := { t with env := { t.env with entries := before.map ZoneEntry.applied } }
  (t.storeIf (anyPending (before.take 8)) .zonesSite).storeIf (anyPending (before.drop 8)) .zonesOper

/-- The frame zone set of the table as it stands (R76, step 2). -/
def frameZonesOf (v : Env) : List FrameZone :=
  v.entries.map fun e => { zone := e.effective, suspended := e.suspension.isSome }

/-- The floor list of a frame zone set (R76, step 4; R60). -/
def floorsOf (zones : List FrameZone) : List FloorZone :=
  zones.zipIdx.filterMap fun x =>
    let z := x.1.zone
    if z.kind = .floor ∧ z.mode = .enforce ∧ !x.1.suspended then
      some { index := x.2, s := z.s, e := z.e, reachMin := z.reachMin, reachMax := z.reachMax, floorZ := z.limit,
             stop := z.stop }
    else none

/-- The set is formed, recorded and handed on (R76, steps 2 to 4). -/
def State.formSet (m : FrameNo) (s : State) : State :=
  let zones := frameZonesOf s.env
  let t := { s with env := { s.env with latest := some { frame := m, zones := zones } } }
  (t.deliver (.frameZoneSet m zones)).deliver (.floorList m (floorsOf zones))

/-- The ENV takes a pose record, whatever the validity of the pose (R76). -/
def State.envRecord (r : PoseRecord) (s : State) : State := ((s.applyPending).formSet r.pose.frame).settle

/-! ## Suspensions (R79 to R83) -/

/-- The suspension of one entry ends, with its notices (R79, R81, R82). -/
def State.endSuspension (i : Nat) (s : State) : State :=
  State.raiseBoth .suspensionEnded { s with env := s.env.onEntry i fun e => { e with suspension := none } }

/-- The entry at an index; one beyond the table reads as the empty state. -/
def Env.entry (v : Env) (i : Nat) : ZoneEntry := v.entries.getD i (ZoneEntry.start emptyZone)

/-- What the ENV answers to a suspension request by the owner of `lo` to `hi` (R79, R80). -/
def suspendResult (lo hi index : Int) (seconds : Nat) (v : Env) : ResultCode :=
  if !within 0 15 index then .refusedRange
  else if !within lo hi index then .refusedNotOwner
  else if seconds = 0 then (if (v.entry index.toNat).suspension.isSome then .accepted else .refusedState)
  else if (v.entry index.toNat).effective.mode ≠ .enforce then .refusedState
  else .accepted

/-- The state after a suspension request, cut to `top` seconds (R79, R80). -/
def State.suspended (lo hi : Int) (top : Nat) (index : Int) (seconds : Nat) (s : State) : State :=
  if suspendResult lo hi index seconds s.env = .accepted then
    if seconds = 0 then s.endSuspension index.toNat
    else { s with env := s.env.onEntry index.toNat fun e => { e with suspension := some (min seconds top) } }
  else s

/-- An entry's suspension one second on: 0 stands for one that ends at this expiry (R81). -/
def ZoneEntry.tick (e : ZoneEntry) : ZoneEntry := { e with suspension := e.suspension.map (· - 1) }

/-- End the suspension of entry `i` when its remaining time is 0 (R81). -/
def State.endIfExpired (s : State) (i : Nat) : State :=
  if (s.env.entry i).suspension = some 0 then s.endSuspension i else s

/-- The one-second timer of the ENV expires (R81). -/
def State.suspensionTick (s : State) : State :=
  (List.range 16).foldl State.endIfExpired { s with env := { s.env with entries := s.env.entries.map ZoneEntry.tick } }

/-- End the suspension of entry `i` if it has one. -/
def State.endIfSuspended (s : State) (i : Nat) : State :=
  if (s.env.entry i).suspension.isSome then s.endSuspension i else s

/-- The cab is stale: every OPERATOR suspension ends (R82). -/
def State.endOperatorSuspensions (s : State) : State :=
  [8, 9, 10, 11, 12, 13, 14, 15].foldl State.endIfSuspended s

/-! ## Recorded states (R84 to R86) -/

/-- An entry after a report of its state for the frame whose set holds it as `z` (R84). -/
def ZoneEntry.reported (z : FrameZone) (st : ZoneState) (e : ZoneEntry) : ZoneEntry :=
  if z.zone.mode = .off then { e with recorded := .clear, suspMark := false }
  else { e with recorded := st, suspMark := z.suspended }

/-- The pair of recorded state and suspended mark (R85). -/
def ZoneEntry.pair (e : ZoneEntry) : ZoneState × Bool := (e.recorded, e.suspMark)

/-- The notices of one entry's report (R85, R86). -/
def State.reportNotices (z : FrameZone) (before after : ZoneEntry) (s : State) : State :=
  let t := if before.pair ≠ after.pair then s.raiseCab .zoneState else s
  if after.pair = (.breached, false) ∧ z.zone.mode = .enforce ∧ before.pair ≠ (.breached, false) then
    t.raiseBoth .zoneBreached
  else t

/-- The report of entry `i` is taken (R84 to R86). -/
def State.reportEntry (zones : List FrameZone) (states : List ZoneState) (s : State) (i : Nat) : State :=
  match zones[i]?, states[i]? with
  | some z, some st =>
    let before := s.env.entry i
    State.reportNotices z before (before.reported z st) { s with env := s.env.onEntry i (ZoneEntry.reported z st) }
  | _, _ => s

/-- A state report for frame m, taken when m is the frame of the latest set and discarded otherwise (R84). -/
def State.takeReport (m : FrameNo) (states : List ZoneState) (s : State) : State :=
  match s.env.latest with
  | some set => if set.frame = m then (List.range 16).foldl (State.reportEntry set.zones states) s else s
  | none => s

/-! ## The commands -/

/-- ENV_POSE_RECORD (R76 to R78). -/
def execEnvPoseRecord (rec : PoseRecord) (s : State) : Out := onDelivery (.envPoseRecord rec) (State.envRecord rec) s

/-- SUSPENSION_TIMER_EXPIRY (R81). -/
def execSuspensionTimerExpiry (s : State) : Out := onEvent State.suspensionTick s

/-- ENV_CAB_STALENESS (R82). -/
def execEnvCabStaleness (s : State) : Out := onDelivery .envCabStaleness State.endOperatorSuspensions s

/-- ENV_CAB_FRESHNESS: a freshness event for the cab changes no suspension (R82). -/
def execEnvCabFreshness (s : State) : Out := onDelivery .envCabFreshness id s

/-- STATE_REPORT (R84 to R86). -/
def execStateReport (frame : FrameNo) (states : List ZoneState) (s : State) : Out :=
  onDelivery (.stateReport frame states) (State.takeReport frame states) s

/-- ZONE_EDIT (R72, R73, R75). -/
def execZoneEdit (place : Nat) (index : Int) (fields : ZoneFields) (s : State) : Out :=
  onDelivery (.zoneEdit place index fields)
    (fun s => State.answerCab place (editResult 8 15 index fields) { s with env := s.env.edited 8 15 index fields }) s

/-- ZONE_SUSPEND (R79). -/
def execZoneSuspend (place : Nat) (index : Int) (seconds : Nat) (s : State) : Out :=
  onDelivery (.zoneSuspend place index seconds)
    (fun s => (s.suspended 8 15 600 index seconds).answerCab place (suspendResult 8 15 index seconds s.env)) s

/-- SUSPEND_ZONE (R80); a run at viewer level is LEVEL_REFUSAL instead (R193). -/
def execSuspendZone (index seconds : Nat) (s : State) : Out :=
  onDelivery (.suspendZone index seconds)
    (fun s => (s.suspended 0 7 3600 index seconds).answerPlain (suspendResult 0 7 index seconds s.env)) s

end Sys2Proof.Machine
end

