-- ==== Sys2Proof/Machine/Geometry.lean ====
section
/-! DEFINITION. The geometry unit (02): absolute angles, reach and height, slew rate, the pose record. -/

namespace Sys2Proof.Machine

open Sys2Proof

/-- The term of a link of length L and a sine or cosine v: (L·v + 16,384) shifted right by 15 (R24). -/
def linkTerm (len v : Int) : Int := (len * v + 16384) / 32768

/-- The raw reach (R24, R25). -/
def rawReach (c : GeuCfg) (phi1 phi2 phi3 : Angle) : Int :=
  c.footReach + linkTerm c.boomLen (cosine phi1) + linkTerm c.armLen (cosine phi2)
    + linkTerm c.bucketLen (cosine phi3)

/-- The raw height (R24, R25). -/
def rawHeight (c : GeuCfg) (phi1 phi2 phi3 : Angle) : Int :=
  c.footHeight + linkTerm c.boomLen (sine phi1) + linkTerm c.armLen (sine phi2) + linkTerm c.bucketLen (sine phi3)

/-- Which of reach and height were moved to a bound (R25). -/
def limitedMark (reachMoved heightMoved : Bool) : Limited :=
  match reachMoved, heightMoved with
  | false, false => .no
  | true, false => .reach
  | false, true => .height
  | true, true => .both

/-- The slew change since the previous pose frame, read signed (R27). -/
def slewChange (now before : Angle) : Int := (now - before).toInt

/-- The slew change that may be used: both poses valid and a previous record present (R28, R29). -/
def usableChange (prev : Option PrevPose) (p : PoseFrame) : Option Int :=
  match prev with
  | some q => if p.valid && q.valid then some (slewChange p.slew.value q.slew) else none
  | none => none

/-- The slew rate of a change over a period count (R28). -/
def slewRate (change : Int) (periods : Nat) : Int := clamp (Int.tdiv change periods) (-2047) 2047

/-- The pose record of a pose frame (R23 to R30). -/
def poseRecordOf (c : GeuCfg) (prev : Option PrevPose) (p : PoseFrame) : PoseRecord :=
  let phi1 := p.pitch.value + p.boom.value
  let phi2 := phi1 + p.arm.value
  let phi3 := phi2 + p.bucket.value
  let rr := rawReach c phi1 phi2 phi3
  let rz := rawHeight c phi1 phi2 phi3
  let reach := clamp rr c.reachMin c.reachMax
  let height := clamp rz c.zMin c.zMax
  let change := usableChange prev p
  { pose := p, phi1 := phi1, phi2 := phi2, phi3 := phi3, reach := reach, height := height,
    limited := limitedMark (decide (reach ≠ rr)) (decide (height ≠ rz)),
    rate := match change with
      | some d => slewRate d p.periods
      | none => 0
    rateUnknown := change.isNone
    slewInc := change.map Int.natAbs }

/-- The detail of GEOMETRY_RANGE (R26, R153): 1 REACH, 2 HEIGHT, 3 BOTH. -/
def limitedCode : Limited → Nat
  | .no => 0
  | .reach => 1
  | .height => 2
  | .both => 3

/-- The GEOMETRY_RANGE flag after a record (R26). -/
def rangeFlagAfter (flag : Bool) (r : PoseRecord) : Bool :=
  if r.pose.valid then r.limited != .no else flag

/-- The GEU after a pose frame (R26, R31). -/
def Geu.after (r : PoseRecord) (g : Geu) : Geu :=
  { prev := some { slew := r.pose.slew.value, valid := r.pose.valid }, current := some r,
    rangeFlag := rangeFlagAfter g.rangeFlag r }

/-- GEOMETRY_RANGE is raised or cleared as its flag changes (R26). -/
def State.reportRange (r : PoseRecord) (before after : Bool) (s : State) : State :=
  if !before && after then s.report .geometryRange (limitedCode r.limited) (some r.pose.frame)
  else if before && !after then s.reportClear .geometryRange (limitedCode r.limited) (some r.pose.frame)
  else s

/-- The pose record reaches the five blocks (R29, R30): a record without a slew increment gives the SMU nothing. -/
def State.deliverRecord (r : PoseRecord) (s : State) : State :=
  let t := ((((s.deliver (.cytPoseRecord r)).deliver (.gguPoseRecord r)).deliver (.envPoseRecord r)).deliver
    (.levPoseRecord r))
  match r.slewInc with
  | some n => t.deliver (.slewIncrement n)
  | none => t

/-- The GEU takes a pose frame (R23 to R31); a report of GEOMETRY_RANGE is in flight before the record (log 28). -/
def State.geuFrame (p : PoseFrame) (s : State) : State :=
  let r := poseRecordOf s.settings.geu s.geu.prev p
  let t := { s with geu := s.geu.after r }
  (t.reportRange r s.geu.rangeFlag t.geu.rangeFlag).deliverRecord r

/-- GEU_POSE_FRAME (R23 to R33). -/
def execGeuPoseFrame (pose : PoseFrame) (s : State) : Out := onDelivery (.geuPoseFrame pose) (State.geuFrame pose) s

end Sys2Proof.Machine
end

