-- ==== Sys2Proof/Machine/Guidance.lean ====
section
/-! DEFINITION. The grade guidance unit (04): the target queue and its requests, the frame join, the cue, boom assist,
automatic advance. -/

namespace Sys2Proof.Machine

open Sys2Proof

/-! ## The target queue (R49 to R56) -/

/-- Every field of a target lies in its range (R49, R52). R49 gives auto-advance the values set and clear and no codes:
1 and 0, and any other code out of range, are a DESIGN CHOICE (log 34). -/
def targetInRange (t : Target) : Bool :=
  within 0 255 t.id && within 0 30000 t.r0 && within (-20000) 20000 t.z0 && within (-1000) 1000 t.slope
    && within 0 500 t.tol && within (t.tol + 1) 5000 t.near && within 50 2000 t.guard && within 0 1 t.auto
    && within 1 255 t.passCycles && within 1 255 t.onGradeFrames

/-- The queue after a target is loaded, with the result (R52). -/
def Ggu.load (t : Target) (g : Ggu) : Ggu × ResultCode :=
  if targetInRange t then
    match g.targets with
    | [] => ({ g with targets := [t], passes := 0 }, .accepted)
    | [a] => ({ g with targets := [a, t] }, .accepted)
    | _ => (g, .refusedFull)
  else (g, .refusedRange)

/-- Retiring the ACTIVE target (R53). -/
def State.retire (s : State) : State :=
  State.raiseCab .targetRetired { s with ggu := { s.ggu with targets := s.ggu.targets.drop 1, passes := 0 } }

/-- TARGET_ADVANCE at the GGU (R54). The notice of the retirement reaches port A before the answer, a DESIGN CHOICE (log
28), so that an idle port A offers the NOTICE first (R179). -/
def State.advanceTarget (place : Nat) (s : State) : State :=
  match s.ggu.targets with
  | [] => s.answerCab place .refusedState
  | _ :: _ => s.retire.answerCab place .accepted

/-! ## The cue (R59 to R62) -/

/-- q divided by 1000, a half rounded away from zero (R59). -/
def perMille (q : Int) : Int := if q < 0 then -((-q + 500) / 1000) else (q + 500) / 1000

/-- The target height at a reach (R59). -/
def targetHeight (t : Target) (reach : Int) : Int := t.z0 + perMille (t.slope * (reach - t.r0))

/-- ψ lies in the sector from s to e (R60, R93). -/
def inSector (psi s e : Angle) : Bool := decide ((psi - s).toNat ≤ (e - s).toNat) || s == e

/-- The values an applying floor raises the target height to (R60). -/
def raisedValues (floors : List FloorZone) (psi : Angle) (reach zt : Int) : List Int :=
  floors.filterMap fun f =>
    let v : Int := f.floorZ + (f.stop : Int)
    if inSector psi f.s f.e ∧ (f.reachMin : Int) ≤ reach ∧ reach ≤ f.reachMax ∧ zt < v then some v else none

/-- The floor clamp: the target height, and whether the frame is FLOOR_LIMITED (R60). -/
def floorClamp (floors : List FloorZone) (psi : Angle) (reach zt : Int) : Int × Bool :=
  match raisedValues floors psi reach zt with
  | [] => (zt, false)
  | v :: vs => (vs.foldl max v, true)

/-- The band of a distance to grade (R61). -/
def bandOf (t : Target) (d : Int) : Cue :=
  if t.near < d then .aboveFar
  else if t.tol < d then .aboveNear
  else if -t.tol ≤ d then .onGrade
  else if -t.near ≤ d then .belowNear
  else .belowFar

/-- What the formation of a cue gives: cue, D, FLOOR_LIMITED (R62). -/
structure CueResult where
  cue : Cue
  d : Int
  floorLimited : Bool
deriving DecidableEq, Repr

/-- The cue of a frame, by the first case of R62 that applies. -/
def formCue (g : Ggu) (r : PoseRecord) (floors : List FloorZone) : CueResult :=
  if !g.guidance then { cue := .off, d := 0, floorLimited := false }
  else
    match g.targets with
    | [] => { cue := .noTarget, d := 0, floorLimited := false }
    | t :: _ =>
      if !r.pose.valid || r.limited != .no then { cue := .noPose, d := 0, floorLimited := false }
      else
        let zt := floorClamp floors r.pose.slew.value r.reach (targetHeight t r.reach)
        let d := clamp (r.height - zt.1) (-32767) 32767
        { cue := bandOf t d, d := d, floorLimited := zt.2 }

/-- The id of the ACTIVE target, 0 with the queue empty (R62). -/
def Ggu.activeId (g : Ggu) : Int :=
  match g.targets with
  | t :: _ => t.id
  | [] => 0

/-- The assist guard of the ACTIVE target (R63); with the queue empty no assist is formed from it. -/
def Ggu.activeGuard (g : Ggu) : Int :=
  match g.targets with
  | t :: _ => t.guard
  | [] => 0

/-- The GUIDANCE message of a cue (R67). -/
def guidanceMsg (g : Ggu) (frame : FrameNo) (c : CueResult) : GuidanceMsg :=
  { frame := frame.setWidth 16, targetId := g.activeId, d := c.d, cue := c.cue, floorLimited := c.floorLimited,
    passes := g.passes, depth := g.targets.length, assistSwitch := g.assist }

/-- The guidance record of a cue (R51, R62). -/
def guidanceRecord (g : Ggu) (frame : FrameNo) (c : CueResult) : GuidanceRecord :=
  { frame := frame, targetId := g.activeId, d := c.d, cue := c.cue, floorLimited := c.floorLimited,
    depth := g.targets.length, passes := g.passes }

/-- The cue of the join is formed, delivered and recorded (R62, R67). -/
def State.formCue (j : GguJoin) (r : PoseRecord) (floors : List FloorZone) (s : State) : State :=
  let c := Sys2Proof.Machine.formCue s.ggu r floors
  let kept : KeptCue :=
    { d := c.d, cue := c.cue, guard := s.ggu.activeGuard, active := !s.ggu.targets.isEmpty }
  let msg := guidanceMsg s.ggu j.frame c
  let t := { s with ggu := { s.ggu with
      join := some { j with cue := some kept }, record := guidanceRecord s.ggu j.frame c } }
  let t := t.deliver (.cueResult j.frame c.cue)
  if j.frame.getLsbD 0 then t else t.handGuidance msg

/-! ## Boom assist (R63, R64) -/

/-- The cue is one of the five bands of R61. -/
def isBand : Cue → Bool
  | .off => false
  | .noTarget => false
  | .noPose => false
  | .aboveFar => true
  | .aboveNear => true
  | .onGrade => true
  | .belowNear => true
  | .belowFar => true

/-- The assist request of a frame (R63). -/
def assistOf (assistSwitch : Bool) (k : KeptCue) (phase : Phase) : Nat :=
  if assistSwitch ∧ isBand k.cue ∧ phase = .dig ∧ k.d < k.guard then
    (clamp (100 * (k.guard - k.d) / (2 * k.guard)) 0 100).toNat
  else 0

/-- The assist request of the join is formed and delivered (R63, R64). -/
def State.formAssist (j : GguJoin) (k : KeptCue) (phase : Phase) (s : State) : State :=
  let t := { s with ggu := { s.ggu with join := some { j with assistFormed := true } } }
  t.deliver (.assistRequest j.frame (assistOf s.ggu.assist k phase))

/-! ## Frame joins (R57, R58) -/

/-- A part of a frame join (R57). -/
inductive GguPart where
  | pose (r : PoseRecord)
  | floors (l : List FloorZone)
  | phase (p : Phase)
deriving DecidableEq, Repr

/-- A part added to a join; one that repeats a part replaces it (R57). -/
def GguJoin.add (part : GguPart) (j : GguJoin) : GguJoin :=
  match part with
  | .pose r => { j with pose := some r }
  | .floors l => { j with floors := some l }
  | .phase p => { j with phase := some p }

/-- A join for a frame with nothing arrived. -/
def GguJoin.opened (m : FrameNo) : GguJoin :=
  { frame := m, pose := none, floors := none, phase := none, cue := none, assistFormed := false }

/-- The cue is formed once the pose record and the floor list are present (R57). -/
def State.tryCue (s : State) : State :=
  match s.ggu.join with
  | some j =>
    match j.pose, j.floors, j.cue with
    | some r, some l, none => s.formCue j r l
    | _, _, _ => s
  | none => s

/-- The assist request is formed once the cue is formed and the phase report present (R57). -/
def State.tryAssist (s : State) : State :=
  match s.ggu.join with
  | some j =>
    match j.cue, j.phase, j.assistFormed with
    | some k, some p, false => s.formAssist j k p
    | _, _, _ => s
  | none => s

/-- The join becomes the given one with a part added, and what can be formed is formed (R57). -/
def State.gguAdd (j : GguJoin) (part : GguPart) (s : State) : State :=
  (State.tryCue { s with ggu := { s.ggu with join := some (j.add part) } }).tryAssist

/-- A join closed by a later frame: an assist of 0 is delivered when none was formed (R58), in flight before what the
later frame forms (log 28). -/
def State.gguClose (j : GguJoin) (s : State) : State :=
  if j.assistFormed then s else s.deliver (.assistRequest j.frame 0)

/-- A part for frame m reaches the GGU (R57). -/
def State.gguPart (m : FrameNo) (part : GguPart) (s : State) : State :=
  match s.ggu.join with
  | none => s.gguAdd (GguJoin.opened m) part
  | some j =>
    if m = j.frame then s.gguAdd j part
    else if frameLater m j.frame then (s.gguClose j).gguAdd (GguJoin.opened m) part
    else s

/-! ## Automatic advance (R65) -/

/-- The GGU takes a cycle-end event (R65). -/
def State.gguCycleEnd (onGrade : Nat) (s : State) : State :=
  match s.ggu.targets with
  | [] => s
  | t :: _ =>
    if t.auto = 1 ∧ t.onGradeFrames ≤ onGrade then
      let passes := s.ggu.passes + 1
      if (passes : Int) = t.passCycles then s.retire else { s with ggu := { s.ggu with passes := passes } }
    else s

/-! ## The commands -/

/-- GGU_POSE_RECORD (R57 to R64). -/
def execGguPoseRecord (rec : PoseRecord) (s : State) : Out :=
  onDelivery (.gguPoseRecord rec) (State.gguPart rec.pose.frame (.pose rec)) s

/-- FLOOR_LIST (R57 to R64). -/
def execFloorList (frame : FrameNo) (floors : List FloorZone) (s : State) : Out :=
  onDelivery (.floorList frame floors) (State.gguPart frame (.floors floors)) s

/-- PHASE_REPORT (R46, R57, R63). -/
def execPhaseReport (frame : FrameNo) (phase : Phase) (s : State) : Out :=
  onDelivery (.phaseReport frame phase) (State.gguPart frame (.phase phase)) s

/-- GGU_CYCLE_END (R65). -/
def execGguCycleEnd (onGrade : Nat) (s : State) : Out := onDelivery (.gguCycleEnd onGrade) (State.gguCycleEnd onGrade) s

/-- The guidance switch is set and the request accepted (R56). -/
def State.setGuidance (on : Bool) (place : Nat) (s : State) : State :=
  State.answerCab place .accepted { s with ggu := { s.ggu with guidance := on } }

/-- The assist switch is set and the request accepted (R56). -/
def State.setAssist (on : Bool) (place : Nat) (s : State) : State :=
  State.answerCab place .accepted { s with ggu := { s.ggu with assist := on } }

/-- GUIDANCE_ON (R56). -/
def execGuidanceOn (place : Nat) (s : State) : Out := onDelivery (.guidanceOn place) (State.setGuidance true place) s

/-- GUIDANCE_OFF (R56). -/
def execGuidanceOff (place : Nat) (s : State) : Out :=
  onDelivery (.guidanceOff place) (State.setGuidance false place) s

/-- ASSIST_ON (R56). -/
def execAssistOn (place : Nat) (s : State) : Out := onDelivery (.assistOn place) (State.setAssist true place) s

/-- ASSIST_OFF (R56). -/
def execAssistOff (place : Nat) (s : State) : Out := onDelivery (.assistOff place) (State.setAssist false place) s

/-- TARGET_LOAD (R52). -/
def execTargetLoad (place : Nat) (target : Target) (s : State) : Out :=
  onDelivery (.targetLoad place target)
    (fun s => State.answerCab place (s.ggu.load target).2 { s with ggu := (s.ggu.load target).1 }) s

/-- TARGET_ADVANCE (R54). -/
def execTargetAdvance (place : Nat) (s : State) : Out :=
  onDelivery (.targetAdvance place) (State.advanceTarget place) s

/-- TARGET_CLEAR (R55). -/
def execTargetClear (place : Nat) (s : State) : Out :=
  onDelivery (.targetClear place)
    (fun s => State.answerCab place .accepted { s with ggu := { s.ggu with targets := [], passes := 0 } }) s

end Sys2Proof.Machine
end

