-- ==== Sys2Proof/Machine/Hold.lean ====
section
/-! DEFINITION. The fault and hold unit (09): fault classes, the active list, the fault ring, entering, escalating and
leaving HOLD. -/

namespace Sys2Proof.Machine

open Sys2Proof

/-! ## Classes and the active list (R152 to R154) -/

/-- The class of a code (R153). -/
def faultClass : FaultCode → FaultClass
  | .frameOverrun => .advisory
  | .sensorMissing => .recoverable
  | .sensorRange => .recoverable
  | .sensorDisagree => .recoverable
  | .geometryRange => .recoverable
  | .poseLostMoving => .latching
  | .zoneBreach => .advisory
  | .breachDeep => .latching
  | .engineLost => .recoverable
  | .startFailed => .recoverable
  | .gov1Stale => .recoverable
  | .gov2Stale => .recoverable
  | .pcuStale => .recoverable
  | .cabStale => .advisory
  | .busAOff => .recoverable
  | .busBOff => .recoverable
  | .nvWriteFail => .advisory
  | .nvRestoreBad => .advisory
  | .cfgInvalid => .latching

/-- The codes whose key in the active list is their detail (R154). -/
def keyed : FaultCode → Bool
  | .sensorMissing => true
  | .sensorRange => true
  | .engineLost => true
  | .startFailed => true
  | _ => false

/-- The entry of the active list a report names (R154). -/
def activeKey (r : FaultReport) : FaultCode × Option Int := (r.code, if keyed r.code then some r.detail else none)

/-- The entries of the active list a clearing removes: its own pair, and for ENGINE_LOST and START_FAILED both pairs of
the engine, whichever of the two codes the one report bears (R154). -/
def clearedKeys (r : FaultReport) : List (FaultCode × Option Int) :=
  if r.code = .engineLost ∨ r.code = .startFailed then [(.engineLost, some r.detail), (.startFailed, some r.detail)]
  else [activeKey r]

/-! ## Records (R155, R156) -/

/-- The pose mark of a pose record (R155). -/
def poseMarkOf : Option PoseRecord → PoseMark
  | none => .none
  | some r => if r.pose.valid then .valid else .invalid

/-- The counter after a record: it passes over 0 (R155). -/
def nextSeq (n : BitVec 32) : BitVec 32 := if n = 4294967295 then 1 else n + 1

/-- The record the FHU makes of a report at this moment (R155). -/
def State.recordOf (r : FaultReport) (second : Bool) (s : State) : FaultRecord :=
  let current := s.geu.current
  { seq := s.fhu.seq
    code := r.code
    frame := r.frame.getD ((current.map fun p => p.pose.frame).getD 0)
    slew := (current.map fun p => p.pose.slew.value).getD 0
    reach := (current.map fun p => p.reach).getD 0
    height := (current.map fun p => p.height).getD 0
    pose := poseMarkOf current
    plan := s.epc.plan
    detail := r.detail
    second := second }

/-- A record joins the ring, which keeps the sixteen newest, and the counter moves on (R155). -/
def Fhu.push (r : FaultRecord) (f : Fhu) : Fhu := { f with ring := (r :: f.ring).take 16, seq := nextSeq f.seq }

/-- A fault is recorded and announced (R155, R156). -/
def State.recordFault (r : FaultReport) (second : Bool) (s : State) : State :=
  State.raiseBoth .faultRecorded { s with fhu := s.fhu.push (s.recordOf r second) }

/-! ## Hold (R159 to R162) -/

/-- The entry into HOLD reaches the LEV and the EPC (R159, step 3). -/
def State.deliverHold (s : State) : State := (s.deliver .levHoldEntry).deliver .epcHoldEntry

/-- HOLD is entered (R159). -/
def State.enterHold (r : FaultReport) (s : State) : State :=
  let t := s.recordFault r false
  let t := { t with fhu := { t.fhu with held := some { code := r.code, detail := r.detail } } }
  (t.deliverHold.requestStore .hold true false).raiseBoth .holdEntered

/-- A further latching fault while HELD (R161). -/
def State.escalate (r : FaultReport) (s : State) : State :=
  let t := s.recordFault r true
  let t := { t with fhu := { t.fhu with escalation := satAdd 255 t.fhu.escalation 1 } }
  if s.fhu.unstored then t.requestStore .hold true false else t

/-- A recoverable report (R152, R154). -/
def State.recoverable (r : FaultReport) (s : State) : State :=
  let k := activeKey r
  if r.clearing then { s with fhu := { s.fhu with active := s.fhu.active.filter fun x => x ∉ clearedKeys r } }
  else if s.fhu.active.contains k then s
  else State.recordFault r false { s with fhu := { s.fhu with active := s.fhu.active ++ [k] } }

/-- The FHU takes a fault report (R152). -/
def State.takeFault (r : FaultReport) (s : State) : State :=
  match faultClass r.code with
  | .advisory => s.recordFault r false
  | .recoverable => s.recoverable r
  | .latching => if s.fhu.held.isNone then s.enterHold r else s.escalate r

/-- The latching cause "pose invalid" is present (R162). -/
def State.poseCause (s : State) : Bool :=
  match s.geu.current with
  | some r => !r.pose.valid
  | none => true

/-- The latching cause "deep breach" is present (R90, R162). -/
def State.deepCause (s : State) : Bool := s.lev.zones.any fun z => z.deep

/-- The sum of the detail bits of the latching causes present (R162). -/
def State.causes (s : State) : Nat := bit s.poseCause + 2 * bit s.deepCause + 4 * bit s.nvc.builtIn

/-- The detail of an accepted CLEAR_HOLD: 0 when its store request is taken, 1 when it is refused (R162). -/
def State.clearDetail (s : State) : Nat := if s.nvc.takes .hold then 0 else 1

/-- HOLD is cleared (R162). -/
def State.leaveHold (s : State) : State :=
  let t := { s with fhu := { s.fhu with held := none, escalation := 0 } }
  (((t.deliver .levHoldClear).deliver .epcHoldClear).requestStore .hold true true).raiseBoth .holdCleared

/-- CLEAR_HOLD at the FHU (R162). -/
def State.clearHold (s : State) : State :=
  if s.fhu.held.isSome then
    if s.causes = 0 then s.leaveHold.answerDetail .accepted s.clearDetail
    else s.answerDetail .refusedState s.causes
  else if s.fhu.unstored then (s.requestStore .hold true true).answerDetail .accepted s.clearDetail
  else s.answerDetail .refusedState 0

/-! ## The commands -/

/-- FAULT_REPORT (R152 to R161). -/
def execFaultReport (report : FaultReport) (s : State) : Out :=
  onDelivery (.faultReport report) (fun s => (s.takeFault report).settle) s

/-- CLEAR_HOLD (R162). -/
def execClearHold (s : State) : Out := onDelivery .clearHold (fun s => s.clearHold.settle) s

end Sys2Proof.Machine
end

