-- ==== Sys2Proof/Machine/Limits.lean ====
section
/-! DEFINITION. The limit evaluator (06): sector arithmetic, walls, height ceilings, the evaluation of a frame, loss of
pose, deep breaches, and the ALLOTMENT. -/

namespace Sys2Proof.Machine

open Sys2Proof

/-! ## Sector arithmetic (R93) -/

/-- The left distance of a slew angle outside a sector (R93). -/
def leftDistance (psi s : Angle) : Nat := (s - psi).toNat

/-- The right distance of a slew angle outside a sector (R93). -/
def rightDistance (psi e : Angle) : Nat := (psi - e).toNat

/-- The left depth of a slew angle inside a sector (R93). -/
def leftDepth (psi e : Angle) : Nat := (e - psi).toNat

/-- The right depth of a slew angle inside a sector (R93). -/
def rightDepth (psi s : Angle) : Nat := (psi - s).toNat

/-! ## The state and the ceilings of one zone (R94 to R97) -/

/-- What a zone evaluates to: its state, what it would contribute to each motion (100 for nothing), and whether its
breach is deep (R103). -/
structure ZoneEval where
  state : ZoneState
  ceilings : Ceilings
  deep : Bool
deriving DecidableEq, Repr

/-- No limit on any motion. -/
def openCeilings : Ceilings := { left := 100, right := 100, raise := 100, lower := 100 }

/-- A zone that is CLEAR and contributes nothing. -/
def clearEval : ZoneEval := { state := .clear, ceilings := openCeilings, deep := false }

/-- The tip lies in the zone's band of reach (R94, R97). -/
def inReachBand (z : ZoneDef) (reach : Int) : Bool :=
  decide ((z.reachMin : Int) ≤ reach) && decide (reach ≤ z.reachMax)

/-- The wall condition of a zone (R94). -/
def wallCondition (z : ZoneDef) (reach height : Int) : Bool :=
  match z.kind with
  | .slewWall => decide ((z.reachMin : Int) ≤ reach) && decide (z.limit ≤ height)
  | .ceiling => inReachBand z reach && decide (z.limit - z.stop ≤ height)
  | .floor => inReachBand z reach && decide (height ≤ z.limit + z.stop)

/-- The stop margin of the wall computation (R94). -/
def wallMargin (z : ZoneDef) : Nat :=
  match z.kind with
  | .slewWall => z.stop
  | .ceiling => 910
  | .floor => 910

/-- The warn distance of the wall computation (R94). -/
def wallWarn (z : ZoneDef) : Nat :=
  match z.kind with
  | .slewWall => z.band
  | .ceiling => 1820
  | .floor => 1820

/-- The slew ceiling of one direction, from its distance, the stop margin and the rate (R96). -/
def slewCeiling (c : LevCfg) (d m : Nat) (rate : Int) : Nat :=
  let dEff := d - m - rate.natAbs * c.reactFrames
  if dEff = 0 then 0 else min 100 (100 * isqrt (c.slewDecel * dEff / 8) / c.rateFull)

/-- The wall computation with the slew angle outside the sector (R96). -/
def wallOutside (c : LevCfg) (z : ZoneDef) (psi : Angle) (rate : Int) : ZoneEval :=
  let dl := leftDistance psi z.s
  let dr := rightDistance psi z.e
  let left := slewCeiling c dl (wallMargin z) rate
  let right := slewCeiling c dr (wallMargin z) rate
  { state := if left < 100 ∨ right < 100 then .limiting else if min dl dr ≤ wallWarn z then .approach else .clear
    ceilings := { openCeilings with left := left, right := right }
    deep := false }

/-- A SLEW_WALL with the slew angle inside its sector (R95, R103). -/
def wallInside (c : LevCfg) (z : ZoneDef) (psi : Angle) : ZoneEval :=
  let dl := leftDepth psi z.e
  let dr := rightDepth psi z.s
  { state := .breached
    ceilings :=
      if z.s = z.e then { openCeilings with left := 0, right := 0 }
      else if dl ≤ dr then { openCeilings with left := c.exitCeiling, right := 0 }
      else { openCeilings with left := 0, right := c.exitCeiling }
    deep := decide (z.s ≠ z.e) && decide (c.deepBau < min dl dr) }

/-- The motion ceiling of a gap above 0 (R97). -/
def motionCeiling (z : ZoneDef) (gap : Int) : Nat :=
  if gap ≤ z.stop then 0 else (clamp (100 * (gap - z.stop) / z.band) 0 100).toNat

/-- The gap of a CEILING or FLOOR (R97). -/
def zoneGap (z : ZoneDef) (height : Int) : Int :=
  match z.kind with
  | .slewWall => 0
  | .ceiling => z.limit - height
  | .floor => height - z.limit

/-- The contribution of a motion ceiling: to raise for a CEILING, to lower for a FLOOR (R97). -/
def heightCeilings (k : ZoneKind) (m : Nat) : Ceilings :=
  match k with
  | .slewWall => openCeilings
  | .ceiling => { openCeilings with raise := m }
  | .floor => { openCeilings with lower := m }

/-- The height computation, in the sector and in the band of reach (R97, R103). -/
def heightEval (c : LevCfg) (z : ZoneDef) (height : Int) : ZoneEval :=
  let gap := zoneGap z height
  if gap ≤ 0 then
    { state := .breached, ceilings := heightCeilings z.kind 0, deep := decide (gap < -(c.deepZ : Int)) }
  else
    let m := motionCeiling z gap
    { state := if m < 100 then .limiting else if gap ≤ (z.stop : Int) + z.band then .approach else .clear
      ceilings := heightCeilings z.kind m
      deep := false }

/-- A zone of mode WARN or ENFORCE on a pose record (R94 to R97, R103). -/
def evalZone (c : LevCfg) (z : ZoneDef) (r : PoseRecord) : ZoneEval :=
  let psi := r.pose.slew.value
  let inside := inSector psi z.s z.e
  if z.kind = .slewWall then
    if wallCondition z r.reach r.height then
      (if inside then wallInside c z psi else wallOutside c z psi r.rate)
    else clearEval
  else if inside then
    (if inReachBand z r.reach then heightEval c z r.height else clearEval)
  else if wallCondition z r.reach r.height then wallOutside c z psi r.rate
  else clearEval

/-! ## A frame with a valid pose (R98 to R100, R103) -/

/-- The zone enforces: mode ENFORCE with the suspended mark clear (R98). -/
def zoneEnforced (z : FrameZone) : Bool := z.zone.mode == .enforce && !z.suspended

/-- An entry of the frame zone set evaluated (R98): outside ENFORCE, or suspended, it contributes nothing and is not
deep. -/
def zoneEval (c : LevCfg) (r : PoseRecord) (z : FrameZone) : ZoneEval :=
  if z.zone.mode = .off then clearEval
  else
    let v := evalZone c z.zone r
    if zoneEnforced z then v else { state := v.state, ceilings := openCeilings, deep := false }

/-- The smaller ceiling of each motion (R99). -/
def Ceilings.meet (a b : Ceilings) : Ceilings :=
  { left := min a.left b.left, right := min a.right b.right, raise := min a.raise b.raise,
    lower := min a.lower b.lower }

/-- The combined ceilings of a frame (R99). -/
def combinedCeilings (c : LevCfg) (r : PoseRecord) (zones : List FrameZone) : Ceilings :=
  zones.foldl (fun a z => a.meet (zoneEval c r z).ceilings) openCeilings

/-- The breach-recorded flag an evaluation finds, after a changed copy has cleared it (R100). -/
def LevZone.flagBefore (z : FrameZone) (l : LevZone) : Bool := l.breachRecorded && l.copy == some z.zone

/-- The entry is in an enforced breach (R100). -/
def zoneBreach (c : LevCfg) (r : PoseRecord) (z : FrameZone) : Bool :=
  zoneEnforced z && (zoneEval c r z).state == .breached

/-- The LEV's view of a zone after a valid frame (R98, R100, R103). -/
def LevZone.evaluated (c : LevCfg) (r : PoseRecord) (z : FrameZone) (l : LevZone) : LevZone :=
  { l with
    state := (zoneEval c r z).state
    suspended := z.zone.mode != .off && z.suspended
    deep := (zoneEval c r z).deep
    breachRecorded := zoneBreach c r z
    copy := some z.zone }

/-- The LEV's zones after a valid frame. -/
def evaluatedZones (c : LevCfg) (r : PoseRecord) (zones : List FrameZone) (ls : List LevZone) : List LevZone :=
  ls.mapIdx fun i l =>
    match zones[i]? with
    | some z => l.evaluated c r z
    | none => l

/-- What entry `i` reports to the FHU at a valid frame: ZONE_BREACH (R100), BREACH_DEEP (R103). -/
def State.reportZone (c : LevCfg) (r : PoseRecord) (i : Nat) (z : FrameZone) (l : LevZone) (s : State) : State :=
  let t := if zoneBreach c r z && !l.flagBefore z then s.report .zoneBreach i (some r.pose.frame) else s
  if (zoneEval c r z).deep && !l.deep then t.report .breachDeep i (some r.pose.frame) else t

/-- The reports of all entries, in index order. -/
def State.reportZones (c : LevCfg) (r : PoseRecord) (zones : List FrameZone) (ls : List LevZone) (s : State) : State :=
  (List.zip zones ls).zipIdx.foldl (fun s x => s.reportZone c r x.2 x.1.1 x.1.2) s

/-- The ceilings formed are kept in the join (R91). -/
def Lev.formed (c : Ceilings) (l : Lev) : Lev :=
  { l with join := l.join.map fun j => { j with ceilings := some c } }

/-- The ceilings of a frame with a valid pose (R98 to R100, R103); the reports to the FHU are in flight before the state
report to the ENV (log 28). -/
def State.validCeilings (r : PoseRecord) (zones : List FrameZone) (s : State) : State :=
  let c := s.settings.lev
  let out := combinedCeilings c r zones
  let ls := evaluatedZones c r zones s.lev.zones
  let t := s.reportZones c r zones s.lev.zones
  let lev := { t.lev with lastCeil := out, lastRate := r.rate, prevEval := .valid, zones := ls }
  let t := { t with lev := lev.formed out }
  t.deliver (.stateReport r.pose.frame (ls.map LevZone.state))

/-! ## Loss of pose (R101, R102) -/

/-- The ceilings while the pose is invalid (R101). -/
def fallbackCeilings (c : LevCfg) (last : Ceilings) : Ceilings :=
  last.meet { left := c.fallback, right := c.fallback, raise := c.fallback, lower := c.fallback }

/-- A pose is lost while moving (R102). -/
def Lev.lostMoving (l : Lev) : Bool := l.prevEval == .valid && decide (8 < l.lastRate.natAbs)

/-- The ceilings of a frame with an invalid pose (R101, R102). -/
def State.invalidCeilings (r : PoseRecord) (s : State) : State :=
  let t := if s.lev.lostMoving then s.report .poseLostMoving s.lev.lastRate (some r.pose.frame) else s
  { t with lev := Lev.formed (fallbackCeilings s.settings.lev s.lev.lastCeil) { t.lev with prevEval := .invalid } }

/-! ## The ALLOTMENT (R104 to R107) -/

/-- The ceilings while HELD (R105). -/
def heldCeilings (c : LevCfg) (x : Ceilings) : Ceilings :=
  { left := 0, right := 0, raise := 0, lower := min x.lower c.holdLower }

/-- The pump power allowance of an ALLOTMENT built now (R107). -/
def State.allotmentAllowance (s : State) : Nat :=
  if s.fhu.held.isSome then min s.epc.allowance s.settings.epc.holdKw else s.epc.allowance

/-- The ALLOTMENT of a frame, from its ceilings and assist request (R104, R105). -/
def State.allotmentOf (frame : FrameNo) (valid : Bool) (c : Ceilings) (assist : Nat) (s : State) : Allotment :=
  let held := s.fhu.held.isSome
  let out := if held then heldCeilings s.settings.lev c else c
  { frame := frame.setWidth 16, ceilings := out,
    assist := if held || !valid then 0 else min (min assist 100) out.raise
    allowance := s.allotmentAllowance, hold := held, poseValid := valid }

/-- The hold ALLOTMENT (R106). -/
def State.holdAllotment (s : State) : Allotment :=
  match s.lev.latest with
  | some a =>
    { a with ceilings := heldCeilings s.settings.lev a.ceilings, assist := 0, allowance := s.allotmentAllowance
             hold := true }
  | none =>
    { frame := 0
      ceilings := { left := 0, right := 0, raise := 0, lower := min s.settings.lev.fallback s.settings.lev.holdLower }
      assist := 0, allowance := s.allotmentAllowance, hold := true, poseValid := false }

/-- An ALLOTMENT handed to port B and kept as the latest (R104, R106). -/
def State.handOn (a : Allotment) (s : State) : State :=
  State.handAllotment a { s with lev := { s.lev with latest := some a } }

/-! ## Frame joins (R91, R92) -/

/-- A part of a frame join of the LEV (R91). -/
inductive LevPart where
  | pose (r : PoseRecord)
  | zones (l : List FrameZone)
  | assist (n : Nat)
deriving DecidableEq, Repr

/-- A part added to a join; one that repeats a part replaces it (R91). -/
def LevJoin.add (part : LevPart) (j : LevJoin) : LevJoin :=
  match part with
  | .pose r => { j with pose := some r }
  | .zones l => { j with zones := some l }
  | .assist n => { j with assist := some n }

/-- A join for a frame with nothing arrived. -/
def LevJoin.opened (m : FrameNo) : LevJoin :=
  { frame := m, pose := none, zones := none, assist := none, ceilings := none, built := false }

/-- The ceilings are formed once the pose record and the zone set are present (R91). -/
def State.tryCeilings (s : State) : State :=
  match s.lev.join with
  | some j =>
    match j.pose, j.zones, j.ceilings with
    | some r, some z, none => if r.pose.valid then s.validCeilings r z else s.invalidCeilings r
    | _, _, _ => s
  | none => s

/-- The pose of a join is valid (R104). -/
def LevJoin.poseValid (j : LevJoin) : Bool :=
  match j.pose with
  | some r => r.pose.valid
  | none => false

/-- The ALLOTMENT of a join is built with an assist request (R104). -/
def State.buildAllotment (j : LevJoin) (c : Ceilings) (assist : Nat) (s : State) : State :=
  State.handOn (s.allotmentOf j.frame j.poseValid c assist)
    { s with lev := { s.lev with join := some { j with built := true } } }

/-- The ALLOTMENT is built once the ceilings are formed and the assist request present (R91). -/
def State.tryBuild (s : State) : State :=
  match s.lev.join with
  | some j =>
    match j.ceilings, j.assist, j.built with
    | some c, some n, false => s.buildAllotment j c n
    | _, _, _ => s
  | none => s

/-- The join becomes the given one with a part added, and what can be formed and built is (R91). -/
def State.levAdd (j : LevJoin) (part : LevPart) (s : State) : State :=
  (State.tryCeilings { s with lev := { s.lev with join := some (j.add part) } }).tryBuild

/-- A join closed by a later frame (R92). -/
def State.levClose (j : LevJoin) (s : State) : State :=
  match j.ceilings, j.built with
  | some c, false => s.buildAllotment j c 0
  | _, _ => s

/-- A part for frame m reaches the LEV (R91). -/
def State.levPart (m : FrameNo) (part : LevPart) (s : State) : State :=
  match s.lev.join with
  | none => s.levAdd (LevJoin.opened m) part
  | some j =>
    if m = j.frame then s.levAdd j part
    else if frameLater m j.frame then (s.levClose j).levAdd (LevJoin.opened m) part
    else s

/-! ## The commands -/

/-- LEV_POSE_RECORD (R91 to R104). -/
def execLevPoseRecord (rec : PoseRecord) (s : State) : Out :=
  onDelivery (.levPoseRecord rec) (State.levPart rec.pose.frame (.pose rec)) s

/-- FRAME_ZONE_SET (R91 to R104). -/
def execFrameZoneSet (frame : FrameNo) (zones : List FrameZone) (s : State) : Out :=
  onDelivery (.frameZoneSet frame zones) (State.levPart frame (.zones zones)) s

/-- ASSIST_REQUEST (R64, R91, R104). -/
def execAssistRequest (frame : FrameNo) (percent : Nat) (s : State) : Out :=
  onDelivery (.assistRequest frame percent) (State.levPart frame (.assist percent)) s

/-- LEV_HOLD_ENTRY: the hold ALLOTMENT is built at once (R106). -/
def execLevHoldEntry (s : State) : Out := onDelivery .levHoldEntry (fun s => s.handOn s.holdAllotment) s

/-- LEV_HOLD_CLEAR: the LEV builds nothing at once (R106). -/
def execLevHoldClear (s : State) : Out := onDelivery .levHoldClear id s

end Sys2Proof.Machine
end

