-- ==== Sys2Proof/Machine/Meters.lean ====
section
/-! DEFINITION. The service meter unit (08): the basis meters and their accrual, snapshots, the reminder items and
their classification, consequences, requests of the cab and of the service link. -/

namespace Sys2Proof.Machine

open Sys2Proof

/-! ## Classification (R140 to R143) -/

/-- The state of an in-use item by its elapsed count (R140). -/
def itemStateOf (d : ItemDef) (elapsed : Nat) : ItemState :=
  if elapsed < d.interval - d.lead then .ok
  else if elapsed < d.interval then .dueSoon
  else if elapsed < d.interval + d.grace then .due
  else .overdue

/-- The classification of an item at a meter value: none while not in use (R139, R140). -/
def Item.classify (meter : Nat) (i : Item) : Option ItemState :=
  if i.defn.inUse then some (itemStateOf i.defn (meter - i.mark)) else none

/-- An item classified anew; a change of classification clears its acknowledged flag (R140, R141). -/
def Item.reclassified (meter : Nat) (i : Item) : Item :=
  { i with state := i.classify meter, acked := i.acked && i.state == i.classify meter }

/-- Some in-use item with a consequence is OVERDUE (R142). -/
def overdueWith (c : Consequence) (items : List Item) : Bool :=
  items.any fun i => i.defn.inUse && i.defn.consequence == c && i.state == some .overdue

/-- The consequence summary of the items (R142). -/
def summaryOf (items : List Item) : Consequences :=
  { capEconomy := overdueWith .capEconomy items, excludeE1 := overdueWith .excludeE1 items,
    excludeE2 := overdueWith .excludeE2 items }

/-- The items become the given ones, `n` classifications having changed: the notices, the summary re-formed, and
handed to the EPC when a mark changed (R141, R142). -/
def State.itemsChanged (items : List Item) (n : Nat) (s : State) : State :=
  let t := repeatN (State.raiseBoth .reminderChanged) n { s with smu := { s.smu with items := items } }
  let m := summaryOf items
  State.deliverIf (m != s.smu.summary) (.consequenceSummary m) { t with smu := { t.smu with summary := m } }

/-- Number of items whose classification differs between two lists. -/
def movedCount (before after : List Item) : Nat :=
  (List.zip before after).countP fun x => x.1.state != x.2.state

/-- The items on a basis classified anew at a meter value. -/
def reclassifyOn (basis meter : Nat) (items : List Item) : List Item :=
  items.map fun i => if i.defn.basis = basis then i.reclassified meter else i

/-- The value of a basis meter. -/
def Smu.meter (m : Smu) (k : Nat) : Nat := m.meters.getD k 0

/-- A meter takes a value; the items on it are classified anew (R133, R140). -/
def State.setMeter (k v : Nat) (s : State) : State :=
  let after := reclassifyOn k v s.smu.items
  State.itemsChanged after (movedCount s.smu.items after) { s with smu := { s.smu with meters := s.smu.meters.set k v } }

/-- A meter is increased by one, saturating (R133). -/
def State.advanceOne (k : Nat) (s : State) : State := s.setMeter k (satAdd 4294967295 (s.smu.meter k) 1)

/-- A meter is increased `n` times (log 18). -/
def State.advance (k n : Nat) (s : State) : State := repeatN (State.advanceOne k) n s

/-- The residue of a meter. -/
def Smu.residue (m : Smu) (k : Nat) : Nat := m.residues.getD k 0

/-- A residue gains `x` and carries units of `per` into its meter (R134, R136, R137). -/
def State.accrue (k per x : Nat) (s : State) : State :=
  let total := s.smu.residue k + x
  State.advance k (total / per) { s with smu := { s.smu with residues := s.smu.residues.set k (total % per) } }

/-! ## The one-second step (R134, R136, R138) -/

/-- An hours meter at a step (R134). -/
def State.hoursStep (k : Nat) (active : Bool) (s : State) : State := if active then s.accrue k 36 1 else s

/-- The units a fuel rate adds at a step (R136). -/
def fuelUnits (rate : Nat) : Nat := if rate = 65535 then 0 else rate

/-- The snapshot count and mark at a step (R138). -/
def Smu.countSnapshot (running : Bool) (m : Smu) : Smu :=
  if running then
    let n := satAdd 360 m.snapCount 1
    { m with snapCount := n, snapDue := m.snapDue || n == 360 }
  else m

/-- The snapshot store is requested while it is due (R138). -/
def State.requestSnapshot (s : State) : State := if s.smu.snapDue then s.requestStore .meters false false else s

/-- The one-second timer of the SMU expires (R134, R136, R138); the meters in their order (log 18). R136 and R142 give the
consequence summaries of a step and its trip fuel increment no order: in flight the increment comes after the summaries,
a DESIGN CHOICE (log 18). -/
def State.oneSecond (s : State) : State :=
  let r1 := s.epc.e1.reported == .running
  let r2 := s.epc.e2.reported == .running
  let f1 := fuelUnits s.epc.e1.fuel
  let f2 := fuelUnits s.epc.e2.fuel
  let t := ((s.hoursStep 0 r1).hoursStep 1 r2).hoursStep 2 (r1 || r2)
  let t := ((t.accrue 3 36000 f1).accrue 4 36000 f2).hoursStep 7 s.smu.travel
  let t := t.deliver (.tripFuelIncrement (f1 + f2))
  (State.requestSnapshot { t with smu := t.smu.countSnapshot (r1 || r2) }).settle

/-! ## Resets and acknowledgement (R144 to R146) -/

/-- An item by number; one beyond the table reads as not in use. -/
def Smu.item (m : Smu) (n : Nat) : Item :=
  m.items.getD n { defn := ItemDef.empty, mark := 0, state := none, acked := false }

/-- What a REMINDER_ACK is answered (R144). -/
def ackResult (n : Nat) (m : Smu) : ResultCode :=
  if 31 < n then .refusedRange
  else if !(m.item n).defn.inUse then .refusedState
  else if (m.item n).state = some .ok then .refusedState
  else .accepted

/-- The SMU after a REMINDER_ACK (R144). -/
def Smu.acknowledge (n : Nat) (m : Smu) : Smu :=
  if ackResult n m = .accepted then { m with items := m.items.modify n fun i => { i with acked := true } } else m

/-- An item replaced by another, with the classifications that changed (R141). -/
def State.replaceItem (n : Nat) (i : Item) (moved : Bool) (s : State) : State :=
  s.itemsChanged (s.smu.items.set n i) (bit moved)

/-- An item reset: mark at the meter, acknowledged flag clear, classified anew (R145, step 6). -/
def Item.reset (meter : Nat) (i : Item) : Item :=
  Item.reclassified meter { i with mark := meter, acked := false }

/-- The item is reset (R145, R146). -/
def State.resetItem (n : Nat) (s : State) : State :=
  let i := s.smu.item n
  let j := i.reset (s.smu.meter i.defn.basis)
  s.replaceItem n j (i.state != j.state)

/-- What a cab ITEM_DONE is answered before its store request (R145, steps 1 to 4). -/
def cabDoneResult (n : Nat) (m : Smu) : ResultCode :=
  if 31 < n then .refusedRange
  else if !(m.item n).defn.inUse then .refusedState
  else if !(m.item n).defn.operatorReset then .refusedNotOwner
  else if (m.item n).state = some .ok ∨ (m.item n).state = some .overdue then .refusedState
  else .accepted

/-- What a service ITEM_DONE is answered before its store request (R146, steps 1 and 2). -/
def serviceDoneResult (n : Nat) (m : Smu) : ResultCode :=
  if 31 < n then .refusedRange else if !(m.item n).defn.inUse then .refusedState else .accepted

/-- An accepted change that needs a store: refused REFUSED_BUSY with no change when the queue refuses it (R145 to
R148). -/
def storedResult (r : RecordId) (s : State) : ResultCode := if s.nvc.takes r then .accepted else .refusedBusy

/-- The result of checks followed by a store request (R145 to R148). -/
def checkedResult (first : ResultCode) (r : RecordId) (s : State) : ResultCode :=
  if first = .accepted then storedResult r s else first

/-- The store requested and the change made, when the result is ACCEPTED (R145 to R148). -/
def State.storeAnd (result : ResultCode) (r : RecordId) (service : Bool) (f : State → State) (s : State) : State :=
  if result = .accepted then f (s.requestStore r false service) else s

/-- ITEM_DONE from the cab at the SMU (R145). -/
def State.cabDone (place n : Nat) (s : State) : State :=
  let result := checkedResult (cabDoneResult n s.smu) .items s
  ((s.storeAnd result .items false (State.resetItem n)).answerCab place result).settle

/-- ITEM_DONE from the service link at the SMU (R146). -/
def State.serviceDone (n : Nat) (s : State) : State :=
  let result := checkedResult (serviceDoneResult n s.smu) .items s
  ((s.storeAnd result .items true (State.resetItem n)).answerPlain result).settle

/-! ## Definitions and presets (R147, R148) -/

/-- The consequence of a code (R147). -/
def consequenceOf (n : Nat) : Consequence :=
  if n = 1 then .capEconomy else if n = 2 then .excludeE1 else if n = 3 then .excludeE2 else .none

/-- The definition in a written ITEMS entry; none when a field is out of range (R147, step 1). -/
def itemDefAt (l : List Byte) : Option ItemDef :=
  let basis := natAt l 1 1
  let cons := natAt l 2 1
  let interval := natAt l 4 4
  let lead := natAt l 8 4
  let grace := natAt l 12 4
  if basis ≤ 7 ∧ cons ≤ 3 ∧ 1 ≤ interval ∧ interval ≤ 1000000 ∧ lead ≤ interval ∧ grace ≤ interval then
    some { inUse := (l.getD 0 0).getLsbD 0, basis := basis, interval := interval, lead := lead, grace := grace,
           consequence := consequenceOf cons, operatorReset := (l.getD 0 0).getLsbD 1, label := l.getD 3 0 }
  else none

/-- An item given a definition (R147, step 3). -/
def Item.redefined (d : ItemDef) (meter : Nat) (i : Item) : Item :=
  let fresh := (!i.defn.inUse && d.inUse) || i.defn.basis != d.basis
  Item.reclassified meter { i with defn := d, mark := if fresh then meter else i.mark, acked := false }

/-- The definition counts as a change of classification (R141). -/
def defMoved (i j : Item) : Bool := i.state != j.state || (i.defn.inUse && j.defn.inUse && i.defn.basis != j.defn.basis)

/-- Item `n` is given a definition (R147). -/
def State.defineItem (n : Nat) (d : ItemDef) (s : State) : State :=
  let i := s.smu.item n
  let j := i.redefined d (s.smu.meter d.basis)
  s.replaceItem n j (defMoved i j)

/-- What a written ITEMS entry is answered (R147). -/
def itemWriteResult (l : List Byte) (s : State) : ResultCode :=
  match itemDefAt l with
  | some _ => storedResult .items s
  | none => .refusedRange

/-- The state after a written ITEMS entry (R147). -/
def State.itemWritten (n : Nat) (l : List Byte) (s : State) : State :=
  match itemDefAt l with
  | some d => s.storeAnd (itemWriteResult l s) .items true (State.defineItem n d)
  | none => s

/-- What a METER_PRESET is answered before its store request (R148, steps 1 and 2). -/
def presetResult (k v : Nat) (m : Smu) : ResultCode :=
  if 7 < k then .refusedRange else if v < m.meter k then .refusedRange else .accepted

/-- METER_PRESET at the SMU (R148); a meter holds no value above 4,294,967,295 (R133). -/
def State.preset (k v : Nat) (s : State) : State :=
  let result := checkedResult (presetResult k v s.smu) .meters s
  ((s.storeAnd result .meters true (State.setMeter k (min 4294967295 v))).answerPlain result).settle

/-! ## The reminder summary (R143) -/

/-- In-use items in a state. -/
def stateCount (st : ItemState) (items : List Item) : Nat := items.countP fun i => i.state == some st

/-- An item that asks for attention: in use, not OK and not acknowledged. -/
def Item.wantsAttention (i : Item) : Bool := i.state.isSome && i.state != some .ok && !i.acked

/-- The attention count. -/
def attentionCount (items : List Item) : Nat := items.countP Item.wantsAttention

/-- The lowest-numbered unacknowledged item in a state. -/
def firstIn (st : ItemState) (items : List Item) : Option Item :=
  items.find? fun i => i.wantsAttention && i.state == some st

/-- The attention label: that of the most urgent unacknowledged item. It is formed at each read, so a definition that
changes only a label shows at once: a DESIGN CHOICE (log 37), R143 listing no re-forming then. -/
def attentionLabel (items : List Item) : Option Byte :=
  match firstIn .overdue items, firstIn .due items, firstIn .dueSoon items with
  | some i, _, _ => some i.defn.label
  | none, some i, _ => some i.defn.label
  | none, none, some i => some i.defn.label
  | none, none, none => none

/-! ## Restore (R150, R151) -/

/-- An item restored with a mark, clamped to its meter, classified, with its acknowledged flag clear (R150). -/
def restoredItem (meters : List Nat) (d : ItemDef × Nat) : Item :=
  let m := meters.getD d.1.basis 0
  let i : Item := { defn := d.1, mark := if d.1.inUse then min d.2 m else d.2, state := none, acked := false }
  { i with state := i.classify m }

/-- The SMU after its restore, from eight meter values and thirty-two definitions with their marks (R150, R151). -/
def Smu.restored (meters : List Nat) (defs : List (ItemDef × Nat)) : Smu :=
  let items := defs.map (restoredItem meters)
  { Smu.blank with meters := meters, items := items, summary := summaryOf items }

/-! ## The commands -/

/-- SMU_ONE_SECOND_STEP (R134, R136, R138). -/
def execSmuOneSecondStep (s : State) : Out := onEvent State.oneSecond s

/-- SLEW_INCREMENT (R137). -/
def execSlewIncrement (bau : Nat) (s : State) : Out := onDelivery (.slewIncrement bau) (State.accrue 5 65536 bau) s

/-- SMU_CYCLE_END (R137). -/
def execSmuCycleEnd (s : State) : Out := onDelivery .smuCycleEnd (State.advanceOne 6) s

/-- SMU_PUMP_STATUS (R135). -/
def execSmuPumpStatus (travel : Bool) (s : State) : Out :=
  onDelivery (.smuPumpStatus travel) (fun s => { s with smu := { s.smu with travel := travel } }) s

/-- SMU_PCU_STALENESS (R135). -/
def execSmuPcuStaleness (s : State) : Out :=
  onDelivery .smuPcuStaleness (fun s => { s with smu := { s.smu with travel := false } }) s

/-- SMU_PCU_FRESHNESS: a freshness event leaves the flag as it is (R135). -/
def execSmuPcuFreshness (s : State) : Out := onDelivery .smuPcuFreshness id s

/-- REMINDER_ACK (R144). -/
def execReminderAck (place item : Nat) (s : State) : Out :=
  onDelivery (.reminderAck place item)
    (fun s => State.answerCab place (ackResult item s.smu) { s with smu := s.smu.acknowledge item }) s

/-- ITEM_DONE of the cab (R145). -/
def execCabItemDone (place item : Nat) (s : State) : Out :=
  onDelivery (.cabItemDone place item) (State.cabDone place item) s

/-- ITEM_DONE of the service link (R146). -/
def execItemDone (item : Nat) (s : State) : Out := onDelivery (.itemDone item) (State.serviceDone item) s

/-- METER_PRESET (R148). -/
def execMeterPreset (meter value : Nat) (s : State) : Out :=
  onDelivery (.meterPreset meter value) (State.preset meter value) s

end Sys2Proof.Machine
end

