-- ==== Sys2Proof/Machine/Store.lean ====
section
/-! DEFINITION. The nonvolatile store controller (10): write completions, KEY-off and KEY-on, PWRFAIL, RESTART. -/

namespace Sys2Proof.Machine

open Sys2Proof

/-! ## Requests of the NVC itself -/

/-- A store the NVC requests itself: the owner is told when the queue takes it (R168). -/
def State.ownRequest (r : RecordId) (head : Bool) (s : State) : State :=
  if s.nvc.takes r then s.requestStore r head false else s

/-! ## Write completions (R169, R170) -/

/-- What a completed write leaves in the copy it went to: one that fails its read back does not pass. -/
def NvWrite.result (ok : Bool) (w : NvWrite) : NvCopy := if ok then w.copy else .spoiled

/-- A failed write is reported, and its owner sets its unstored mark (R169). -/
def State.writeFailed (r : RecordId) (s : State) : State :=
  let t := s.report .nvWriteFail r.number none
  match r with
  | .zonesSite => { t with env := { t.env with unstoredSite := true } }
  | .zonesOper => { t with env := { t.env with unstoredOper := true } }
  | .hold => { t with fhu := { t.fhu with unstored := true } }
  | .items => t
  | .meters => t
  | .config => t

/-- The head entry after a completion: removed, or with its again mark cleared to be written anew (R169). -/
def queueDone : List StoreEntry → List StoreEntry
  | [] => []
  | e :: rest => if e.again then { e with again := false, service := false } :: rest else rest

/-- The service mark of the head entry. -/
def headService : List StoreEntry → Bool
  | [] => false
  | e :: _ => e.service

/-- The write in flight ends: the copy, STORE_DONE, the queue (R169). -/
def State.writeEnded (w : NvWrite) (ok : Bool) (s : State) : State :=
  let t := if ok then s else s.writeFailed w.record
  let t := if headService s.nvc.queue then t.raiseLink .storeDone else t
  { t with nvc := { t.nvc with
      array := t.nvc.array.setCopy w.record w.toB (w.result ok), write := none, queue := queueDone t.nvc.queue } }

/-- The first record still on the key-off list is requested once (R170). -/
def State.requestListed (s : State) : State :=
  match s.nvc.keyList with
  | [] => s
  | r :: rest =>
    if s.nvc.takes r then
      State.ownRequest r false { s with nvc := { s.nvc with keyList := rest } }
    else s

/-- A write completes (R169 to R171, R173): the next write begins, then the key-off list is served (log 17). With no
write in flight there is none to complete (log 22). -/
def State.writeComplete (ok : Bool) (s : State) : State :=
  match s.nvc.write with
  | none => s
  | some w => ((s.writeEnded w ok).beginWrite.requestListed).settle

/-! ## KEY (R130, R170, R171) -/

/-- The key-off list as it is formed (R170). -/
def keyOffList (v : Env) : List RecordId :=
  [.meters, .items] ++ (if v.unstoredSite then [.zonesSite] else []) ++ (if v.unstoredOper then [.zonesOper] else [])

/-- One listed record is requested; a refused one stays on the list (R170). -/
def State.requestKeyOff (s : State) (r : RecordId) : State :=
  if s.nvc.takes r then s.ownRequest r false
  else { s with nvc := { s.nvc with keyList := s.nvc.keyList ++ [r] } }

/-- KEY-off in RUN (R130, R170); in the other power states it changes nothing. -/
def State.keyOffTaken (s : State) : State :=
  if s.nvc.power = .run then
    let t := { s with nvc := { s.nvc with power := .shuttingDown, keyList := [] } }
    ((keyOffList s.env).foldl State.requestKeyOff (t.epcEvent Epc.onKeyOff)).settle
  else s

/-- KEY-on in SHUTTING_DOWN or READY_OFF (R130, R171); in RUN it changes nothing. -/
def State.keyOnTaken (s : State) : State :=
  if s.nvc.power = .run then s
  else State.epcEvent Epc.onKeyOn { s with nvc := { s.nvc with power := .run, keyList := [] } }

/-- An event of a line: the line follows it even with the supply off (log 5). -/
def onLine (set : Lines → Lines) (f : State → State) (s : State) : Out :=
  onEvent f { s with lines := set s.lines }

/-! ## The commands -/

/-- NV_WRITE_COMPLETE (R169 to R171). -/
def execNvWriteComplete (ok : Bool) (s : State) : Out := onEvent (State.writeComplete ok) s

/-- KEY_OFF (R130, R170). -/
def execKeyOff (s : State) : Out := onLine (fun l => { l with key := false }) State.keyOffTaken s

/-- KEY_ON (R130, R171). -/
def execKeyOn (s : State) : Out := onLine (fun l => { l with key := true }) State.keyOnTaken s

/-- PWRFAIL_ASSERT (R172). -/
def execPwrfailAssert (s : State) : Out :=
  onLine (fun l => { l with pwrfail := true }) (fun s => (s.ownRequest .meters true).settle) s

/-- PWRFAIL_DEASSERT: with the supply still up it changes nothing (R172). -/
def execPwrfailDeassert (s : State) : Out := onLine (fun l => { l with pwrfail := false }) id s

/-- RESTART: the restart-pending mark is set (R173, R193). -/
def execRestart (s : State) : Out :=
  onDelivery .restart
    (fun s => (State.answerPlain .accepted { s with nvc := { s.nvc with restartPending := true } }).settle) s

end Sys2Proof.Machine
end

