-- ==== Sys2Proof/Machine/Link.lean ====
section
/-! DEFINITION. The service link interface (12): request blocks and answers, the tables and the cursor, configuration
commit, the service notices. -/

namespace Sys2Proof.Machine

open Sys2Proof

/-! ## Tables (R191) -/

/-- The table of a table number (R191). -/
def tableOf (n : Nat) : Option Table :=
  match n with
  | 0 => some .ident
  | 1 => some .config
  | 2 => some .zones
  | 3 => some .items
  | 4 => some .meters
  | 5 => some .faults
  | 6 => some .targets
  | 7 => some .status
  | _ => none

/-- Entries of a table (R191). -/
def tableEntries : Table → Nat
  | .ident => 1
  | .config => 137
  | .zones => 16
  | .items => 32
  | .meters => 8
  | .faults => 16
  | .targets => 2
  | .status => 1

/-- Entry size of a table (R191). -/
def entrySize : Table → Nat
  | .ident => 8
  | .config => 4
  | .zones => 24
  | .items => 20
  | .meters => 8
  | .faults => 24
  | .targets => 24
  | .status => 32

/-- The table takes writes at maintainer level (R191, R192). -/
def tableWritable : Table → Bool
  | .ident => false
  | .config => true
  | .zones => true
  | .items => true
  | .meters => false
  | .faults => false
  | .targets => false
  | .status => false

/-- A byte to which no rule gives a value (log 11): byte `pos` of entry `i` of this answer. -/
def State.freeByte (i pos : Nat) (s : State) : Byte := Config.unstatedByte s.freeCount (32 * i + pos)

/-- A byte whose low `k` bits are stated, the others free (log 11). -/
def State.lowBits (k v i pos : Nat) (s : State) : Byte :=
  BitVec.ofNat 8 (v % 2 ^ k + (s.freeByte i pos).toNat / 2 ^ k * 2 ^ k)

/-- The IDENT entry. -/
def State.identEntry (s : State) : List Byte :=
  leBytes 2 Config.partCode
    ++ [BitVec.ofNat 8 Config.siliconRevision, BitVec.ofNat 8 Config.layoutVersion, BitVec.ofNat 8 Config.fieldCount,
        s.lowBits 1 (bit s.nvc.builtIn) 0 5, 0, 0]

/-- A CONFIG entry: entry 0 holds no field. -/
def State.configEntry (i : Nat) (s : State) : List Byte := if i = 0 then leInt32 0 else leInt32 (fieldAt s.sli.config i)

/-- Zone state codes (R74). -/
def zoneStateCode : ZoneState → Nat
  | .clear => 0
  | .approach => 1
  | .limiting => 2
  | .breached => 3

/-- The owner's record of entry `i` is unstored (R74, R78). -/
def Env.unstored (v : Env) (i : Nat) : Bool := if i < 8 then v.unstoredSite else v.unstoredOper

/-- A ZONES entry (R74). -/
def State.zonesEntry (i : Nat) (s : State) : List Byte :=
  let e := s.env.entry i
  zoneBytes e.effective
    ++ [BitVec.ofNat 8 (zoneStateCode e.recorded),
        BitVec.ofNat 8 (bit e.suspMark + 2 * bit e.pending.isSome + 4 * bit (s.env.unstored i))]
    ++ leBytes 2 (e.suspension.getD 0) ++ [if i < 8 then 0 else 1, BitVec.ofNat 8 i, 0, 0]

/-- Item state codes (R147): 0 when not in use. -/
def itemStateCode : Option ItemState → Nat
  | none => 0
  | some .ok => 0
  | some .dueSoon => 1
  | some .due => 2
  | some .overdue => 3

/-- An ITEMS entry (R147). -/
def State.itemsEntry (i : Nat) (s : State) : List Byte :=
  let x := s.smu.item i
  ItemDef.bytes
    (bit x.defn.inUse + 2 * bit x.defn.operatorReset + 4 * bit x.acked + 16 * itemStateCode x.state) x.defn x.mark

/-- Bytes 2 and 3 of a METERS entry: the residue. BUCKET_CYCLES, meter 6, has none (R133), so its bytes are free values
(DESIGN CHOICE, log 36). -/
def State.residueBytes (i : Nat) (s : State) : List Byte :=
  if i = 6 then [s.freeByte i 2, s.freeByte i 3] else leBytes 2 (s.smu.residue i)

/-- A METERS entry (R149, R191). -/
def State.metersEntry (i : Nat) (s : State) : List Byte :=
  [BitVec.ofNat 8 i, 0] ++ s.residueBytes i ++ leBytes 4 (s.smu.meter i)

/-- Class codes (R157). -/
def classCode : FaultClass → Nat
  | .advisory => 0
  | .recoverable => 1
  | .latching => 2

/-- Pose validity codes (R157). -/
def poseMarkCode : PoseMark → Nat
  | .none => 0
  | .valid => 1
  | .invalid => 2

/-- A record of the ring as a FAULTS entry (R157). -/
def FaultRecord.bytes (r : FaultRecord) : List Byte :=
  leBytes 4 r.seq.toNat
    ++ [BitVec.ofNat 8 (faultNumber r.code),
        BitVec.ofNat 8 (classCode (faultClass r.code) + 4 * bit r.second + 8 * poseMarkCode r.pose),
        BitVec.ofNat 8 r.plan.code, 0]
    ++ leInt16 r.detail ++ leBytes 4 r.frame.toNat ++ leBytes 2 r.slew.toNat ++ leInt16 r.reach ++ leInt16 r.height
    ++ [0, 0, 0, 0]

/-- A FAULTS entry: every byte of an empty one is 0 (R157). -/
def State.faultsEntry (i : Nat) (s : State) : List Byte :=
  match s.fhu.ring[i]? with
  | some r => r.bytes
  | none => List.replicate 24 0

/-- Byte 17 of a TARGETS entry: the pass counter, in entry 0 only. -/
def State.passByte (i : Nat) (s : State) : Byte := if i = 0 then BitVec.ofNat 8 s.ggu.passes else s.freeByte i 17

/-- A TARGETS entry (R191). -/
def State.targetsEntry (i : Nat) (s : State) : List Byte :=
  match s.ggu.targets[i]? with
  | some t =>
    [1, BitVec.ofInt 8 t.id] ++ leInt16 t.r0 ++ leInt16 t.z0 ++ leInt16 t.slope ++ leInt16 t.tol ++ leInt16 t.near
      ++ leInt16 t.guard ++ [BitVec.ofInt 8 t.auto, BitVec.ofInt 8 t.passCycles, BitVec.ofInt 8 t.onGradeFrames]
      ++ [s.passByte i] ++ List.replicate 6 0
  | none => [0] ++ (List.range 16).map (fun k => s.freeByte i (k + 1)) ++ [s.passByte i] ++ List.replicate 6 0

/-- Power state codes (R191). -/
def powerCode : PowerState → Nat
  | .run => 0
  | .shuttingDown => 1
  | .readyOff => 2

/-- Lead codes (R191). -/
def leadCode : Option Engine → Nat
  | none => 0
  | some .e1 => 1
  | some .e2 => 2

/-- Availability codes (R191). -/
def availCode : Availability → Nat
  | .available => 0
  | .excluded => 1
  | .failed => 2

/-- Mode codes (R191). -/
def modeCode : Mode → Nat
  | .economy => 0
  | .standard => 1
  | .power => 2

/-- Bytes 0 to 3 of the STATUS entry: hold state and cause. -/
def State.holdBytes (s : State) : List Byte :=
  match s.fhu.held with
  | some c => [1, BitVec.ofNat 8 (faultNumber c.code)] ++ leInt16 c.detail
  | none => [0, 0, s.freeByte 0 2, s.freeByte 0 3]

/-- Bytes 18 and 19 of the STATUS entry: attention label and its presence. -/
def State.labelBytes (s : State) : List Byte :=
  match attentionLabel s.smu.items with
  | some l => [l, s.lowBits 1 1 0 19]
  | none => [s.freeByte 0 18, s.lowBits 1 0 0 19]

/-- Bytes 20 to 23 of the STATUS entry: the frame number of the latest pose record. -/
def State.poseBytes (s : State) : List Byte :=
  match s.geu.current with
  | some r => leBytes 4 r.pose.frame.toNat
  | none => [s.freeByte 0 20, s.freeByte 0 21, s.freeByte 0 22, s.freeByte 0 23]

/-- The marks of byte 5 of the STATUS entry. -/
def State.statusMarks (s : State) : Nat :=
  bit s.fhu.unstored + 2 * bit s.env.unstoredSite + 4 * bit s.env.unstoredOper + 8 * bit s.nvc.restartPending

/-- The STATUS entry (R191). -/
def State.statusEntry (s : State) : List Byte :=
  s.holdBytes
    ++ [BitVec.ofNat 8 s.fhu.escalation, s.lowBits 4 s.statusMarks 0 5, BitVec.ofNat 8 (powerCode s.nvc.power),
        BitVec.ofNat 8 s.epc.plan.code, BitVec.ofNat 8 (leadCode s.epc.lead),
        BitVec.ofNat 8 (availCode (s.epc.avail .e1)), BitVec.ofNat 8 (availCode (s.epc.avail .e2)),
        BitVec.ofNat 8 (modeCode s.epc.effMode), BitVec.ofNat 8 (modeCode s.epc.modeReq),
        BitVec.ofNat 8 (stateCount .ok s.smu.items), BitVec.ofNat 8 (stateCount .dueSoon s.smu.items),
        BitVec.ofNat 8 (stateCount .due s.smu.items), BitVec.ofNat 8 (stateCount .overdue s.smu.items),
        BitVec.ofNat 8 (attentionCount s.smu.items)]
    ++ s.labelBytes ++ s.poseBytes ++ leBytes 2 s.epc.economy ++ leBytes 2 s.epc.e1.speed ++ leBytes 2 s.epc.e2.speed
    ++ [BitVec.ofNat 8 s.epc.e1.load, BitVec.ofNat 8 s.epc.e2.load]

/-- An entry of a table as its owner holds it (R191). -/
def State.tableEntry (t : Table) (i : Nat) (s : State) : List Byte :=
  match t with
  | .ident => s.identEntry
  | .config => s.configEntry i
  | .zones => s.zonesEntry i
  | .items => s.itemsEntry i
  | .meters => s.metersEntry i
  | .faults => s.faultsEntry i
  | .targets => s.targetsEntry i
  | .status => s.statusEntry

/-! ## Requests and answers (R189, R190, R193) -/

/-- The operation is marked MAINTAINER (R193). -/
def maintainerOp (op : Nat) : Bool := decide (2 ≤ op) && decide (op ≤ 9)

/-- The number of operand bytes suits the operation (R189, R193). -/
def operandsFit (op n : Nat) : Bool :=
  match op with
  | 0 => n == 3
  | 1 => n == 1
  | 2 => decide (1 ≤ n)
  | 3 => n == 1
  | 4 => n == 5
  | 5 => n == 3
  | 6 => n == 0
  | 7 => n == 1
  | 8 => n == 0
  | 9 => n == 0
  | 10 => n == 0
  | _ => false

/-- The run of an operation whose operands suit it (R193). -/
def operationRun (op : Nat) (x : List Byte) : Instr :=
  match op with
  | 0 => .selectTable (natAt x 0 1) (natAt x 1 2)
  | 1 => .readEntries (natAt x 0 1)
  | 2 => .writeEntries (natAt x 0 1) (x.drop 1)
  | 3 => .itemDone (natAt x 0 1)
  | 4 => .meterPreset (natAt x 0 1) (natAt x 1 4)
  | 5 => .suspendZone (natAt x 0 1) (natAt x 1 2)
  | 6 => .clearHold
  | 7 => .clearFailed (natAt x 0 1)
  | 8 => .commitConfig
  | 9 => .restart
  | 10 => .takeNotice
  | _ => .unknownOperation

/-- The run of a request block, by the first check that fails (R189, R190). -/
def requestRun (maintainer : Bool) (block : List Byte) : Instr :=
  let op := natAt block 1 1
  let x := block.drop 2
  if 64 < block.length then .unknownOperation
  else if 10 < op then .unknownOperation
  else if maintainerOp op && !maintainer then .levelRefusal
  else if !operandsFit op x.length then .unknownOperation
  else operationRun op x

/-- A request refused for link busy (R189). -/
def AnswerBuffer.refuse (tag : Byte) (b : AnswerBuffer) : AnswerBuffer :=
  match b with
  | .empty c => .empty c
  | .pending t _ _ => .pending t true tag
  | .ready a => .ready { a with busy := true, busyTag := tag }

/-- A block reaches the SLI (R189, R190). -/
def State.blockArrived (block : List Byte) (s : State) : State :=
  if block.length < 2 then s
  else
    let tag := block.getD 0 0
    match s.sli.buffer with
    | .empty _ =>
      State.deliver (requestRun s.lines.maint block)
        { s with sli := { s.sli with
            buffer := .pending tag false 0, request := some { block := block, maintainer := s.lines.maint } } }
    | .pending _ _ _ => { s with sli := { s.sli with buffer := s.sli.buffer.refuse tag } }
    | .ready _ => { s with sli := { s.sli with buffer := s.sli.buffer.refuse tag } }

/-- An answer without entries whose residue and detail no rule gives (log 11). -/
def State.openAnswer (tag : Byte) (result : ResultCode) (busy : Bool) (busyTag : Byte) (s : State) : Answer :=
  { tag := tag, result := result, residue := Config.unstatedResidue s.freeCount, busy := busy, busyTag := busyTag
    detail := Config.unstatedDetail s.freeCount, returned := 0, data := [] }

/-- The block an answer read gives, by the state of the buffer (R189). The busy fields of a NO_REQUEST are clear since
power-on or restart (R196); once an answer has been read no rule gives them, and they are free values (log 11). -/
def State.readBlock (s : State) : Answer :=
  match s.sli.buffer with
  | .empty true => s.openAnswer s.sli.lastTag .noRequest false 0
  | .empty false => s.openAnswer s.sli.lastTag .noRequest ((s.freeByte 0 3).getLsbD 0) (s.freeByte 0 4)
  | .pending tag busy busyTag => s.openAnswer tag .notReady busy busyTag
  | .ready a => a

/-- An answer read (R189): its block is clocked out, and a READY buffer becomes EMPTY. -/
def State.answerRead (s : State) : State :=
  let l := { s.sli with lastRead := some s.readBlock.bytes }
  match s.sli.buffer with
  | .ready a => { s with sli := { l with buffer := .empty false, lastTag := a.tag } }
  | .pending _ _ _ => { s with sli := l, freeCount := s.freeCount + 1 }
  | .empty _ => { s with sli := l, freeCount := s.freeCount + 1 }

/-! ## The cursor (R191, R192) -/

/-- SELECT_TABLE (R191). -/
def State.select (table index : Nat) (s : State) : State :=
  match tableOf table with
  | some t =>
    if index < tableEntries t then
      State.answerPlain .accepted { s with sli := { s.sli with table := t, index := index } }
    else s.answerPlain .refusedRange
  | none => s.answerPlain .refusedRange

/-- The number of entries a read copies (R191). -/
def readCount (l : Sli) (n : Nat) : Nat := min (min n (tableEntries l.table - l.index)) (384 / entrySize l.table)

/-- The data of a read of `k` entries from the cursor (R191). -/
def State.readData (k : Nat) (s : State) : List Byte :=
  (List.range k).flatMap fun j => s.tableEntry s.sli.table (s.sli.index + j)

/-- The cursor advanced by `k` entries. -/
def State.moveCursor (k : Nat) (s : State) : State := { s with sli := { s.sli with index := s.sli.index + k } }

/-- READ_ENTRIES (R191). -/
def State.readTable (n : Nat) (s : State) : State :=
  if n = 0 then s.answerPlain .refusedRange
  else
    let k := readCount s.sli n
    (s.moveCursor k).answerLink .accepted (some (BitVec.ofNat 8 (n - k))) none (BitVec.ofNat 8 k) (s.readData k)

/-- What the owner of the cursor table answers to an entry written at index `i` (R74, R147, R192, R194). -/
def entryResult (t : Table) (i : Nat) (b : List Byte) (s : State) : ResultCode :=
  match t with
  | .zones => editResult 0 7 i (zoneFieldsAt b)
  | .items => itemWriteResult b s
  | .config => if i = 0 then .refusedRange else .accepted
  | .ident => .refusedNotOwner
  | .meters => .refusedNotOwner
  | .faults => .refusedNotOwner
  | .targets => .refusedNotOwner
  | .status => .refusedNotOwner

/-- The state after an entry written at index `i` (R74, R147, R194). -/
def State.entryWritten (t : Table) (i : Nat) (b : List Byte) (s : State) : State :=
  match t with
  | .zones => { s with env := s.env.edited 0 7 i (zoneFieldsAt b) }
  | .items => s.itemWritten i b
  | .config => if i = 0 then s else { s with sli := { s.sli with config := s.sli.config.set (i - 1) (int32At b 0) } }
  | .ident => s
  | .meters => s
  | .faults => s
  | .targets => s
  | .status => s

/-- The entries of a write: the first `n` pieces of `size` bytes. -/
def entriesOf (size : Nat) : Nat → List Byte → List (List Byte)
  | 0, _ => []
  | n + 1, l => l.take size :: entriesOf size n (l.drop size)

/-- Entries written in turn from the cursor (R192): the result, the number accepted, the state after. -/
def State.writeLoop : List (List Byte) → Nat → State → ResultCode × Nat × State
  | [], k, s => (.accepted, k, s)
  | b :: bs, k, s =>
    let i := s.sli.index
    if tableEntries s.sli.table ≤ i then (.accepted, k, s)
    else
      let r := entryResult s.sli.table i b s
      if r = .accepted then State.writeLoop bs (k + 1) ((s.entryWritten s.sli.table i b).moveCursor 1)
      else (r, k, s)

/-- The residue of a write of which `k` entries were accepted (R192). -/
def writeResidue (n k : Nat) : Option Byte := some (BitVec.ofNat 8 (n - k))

/-- WRITE_ENTRIES (R192; n = 0 and the residue of a whole refusal: log 23). -/
def State.writeTable (n : Nat) (data : List Byte) (s : State) : State :=
  if n = 0 ∨ data.length ≠ n * entrySize s.sli.table then s.answerLink .refusedRange (writeResidue n 0) none 0 []
  else if !tableWritable s.sli.table then s.answerLink .refusedNotOwner (writeResidue n 0) none 0 []
  else
    match State.writeLoop (entriesOf (entrySize s.sli.table) n data) 0 s with
    | (.accepted, k, t) => t.answerLink .accepted (writeResidue n k) none 0 []
    | (r, k, t) => t.answerLink r (writeResidue n k) (some (BitVec.ofNat 16 t.sli.index)) 0 []

/-! ## Commit and notices (R194, R195) -/

/-- COMMIT_CONFIG (R167, R194). -/
def State.commit (s : State) : State :=
  match firstFailingField s.sli.config with
  | some k => s.answerDetail .refusedRange k
  | none =>
    let t := { s with nvc := { s.nvc with image := some s.sli.config } }
    (t.requestStore .config false true).answerPlain (storedResult .config s)

/-- TAKE_NOTICE (R195). -/
def State.takeNotice (s : State) : State :=
  match topNotice s.sli.counts with
  | some k =>
    State.answerLink .accepted (some (BitVec.ofNat 8 (noticeCount s.sli.counts k))) (some (BitVec.ofNat 16 k.number)) 0 []
      { s with sli := { s.sli with counts := noticeTaken s.sli.counts k } }
  | none => s.answerLink .accepted (some 0) (some 0) 0 []

/-! ## The commands -/

/-- REQUEST_BLOCK (R189, R190). -/
def execRequestBlock (block : List Byte) (s : State) : Out := onEvent (State.blockArrived block) s

/-- SHORT_BLOCK (R189). -/
def execShortBlock (block : List Byte) (s : State) : Out := onEvent (State.blockArrived block) s

/-- LINK_BUSY_REFUSAL (R189). -/
def execLinkBusyRefusal (block : List Byte) (s : State) : Out := onEvent (State.blockArrived block) s

/-- ANSWER_READ (R189). -/
def execAnswerRead (s : State) : Out := onEvent State.answerRead s

/-- MAINTENANCE_ENABLE_CHANGE (R190). -/
def execMaintenanceEnableChange (high : Bool) (s : State) : Out := onLine (fun l => { l with maint := high }) id s

/-- UNKNOWN_OPERATION (R189). -/
def execUnknownOperation (s : State) : Out := onDelivery .unknownOperation (State.answerPlain .refusedRange) s

/-- LEVEL_REFUSAL (R190). -/
def execLevelRefusal (s : State) : Out := onDelivery .levelRefusal (State.answerPlain .refusedLevel) s

/-- SELECT_TABLE (R191). -/
def execSelectTable (table index : Nat) (s : State) : Out :=
  onDelivery (.selectTable table index) (State.select table index) s

/-- READ_ENTRIES (R191). -/
def execReadEntries (n : Nat) (s : State) : Out := onDelivery (.readEntries n) (State.readTable n) s

/-- WRITE_ENTRIES (R192). -/
def execWriteEntries (n : Nat) (data : List Byte) (s : State) : Out :=
  onDelivery (.writeEntries n data) (fun s => (s.writeTable n data).settle) s

/-- COMMIT_CONFIG (R194). -/
def execCommitConfig (s : State) : Out := onDelivery .commitConfig (fun s => s.commit.settle) s

/-- TAKE_NOTICE (R195). -/
def execTakeNotice (s : State) : Out := onDelivery .takeNotice State.takeNotice s

end Sys2Proof.Machine
end

