-- ==== Sys2Proof/Machine/Ports.lean ====
section
/-! DEFINITION. The two bus ports (11): frames taken in, node ages, machine bus messages, transmission, bus-off and
rejoin, cab requests and their results, STATUS. -/

namespace Sys2Proof.Machine

open Sys2Proof

/-! ## Frames (R174) -/

/-- The data length of an incoming identifier of a port; none for any other identifier (R174). -/
def incomingLength (p : Port) (id : Nat) : Option Nat :=
  match p with
  | .a => if id = messageId .cabRequest cabNode then some (MsgKind.dataLength .cabRequest) else none
  | .b =>
    if id = messageId .pumpStatus pcuNode then some (MsgKind.dataLength .pumpStatus)
    else if id = messageId .engineStatus (engineNode .e1) ∨ id = messageId .engineStatus (engineNode .e2) then
      some (MsgKind.dataLength .engineStatus)
    else none

/-- A frame is taken in (R174). -/
def takenIn (rx : RxFrame) : Bool := rx.format == .standard && incomingLength rx.port rx.id == some rx.length

/-- A data frame with a standard identifier, from a node, of a kind and a data length (R174). -/
def arrival (p : Port) (k : MsgKind) (node length : Nat) : RxFrame :=
  { port := p, format := .standard, id := messageId k node, length := length }

/-- The port is on its bus; bus-off, it receives nothing (R180). -/
def State.onBus (p : Port) (s : State) : Bool :=
  match p with
  | .a => s.portA.on
  | .b => s.portB.on

/-- A frame reaches a port on its bus: taken in, it has its effect; any other frame is ignored (R174, R180). -/
def State.takeFrame (rx : RxFrame) (f : State → State) (s : State) : State :=
  if s.onBus rx.port && takenIn rx then f s else s

/-- A field in a byte order (R175). -/
def orderedField (o : ByteOrder) (l : List Byte) (pos k : Nat) : Nat := ofLe (ordered o (bytesAt l pos k))

/-! ## Node ages (R176) -/

/-- A node one step older (R176). -/
def Node.step (limit : Nat) (n : Node) : Node :=
  let age := satAdd 255 n.age 1
  { age := age, state := if limit ≤ age then .stale else n.state }

/-- The node becomes STALE at this step (R176). -/
def Node.goesStale (limit : Nat) (n : Node) : Bool := n.state != .stale && decide (limit ≤ satAdd 255 n.age 1)

/-- A node heard (R176). -/
def Node.heard : Node := { age := 0, state := .fresh }

/-- The cab goes stale: event, fault, and an assembly discarded (R176, R184). -/
def State.cabStale (s : State) : State :=
  let t := (s.deliver .envCabStaleness).report .cabStale 2 none
  { t with portA := { t.portA with assembly := none } }

/-- The staleness of the PCU reaches its three owners, and its fault the FHU (R176). -/
def State.pcuStale (s : State) : State :=
  (((s.deliver .cytPcuStaleness).deliver .epcPcuStaleness).deliver .smuPcuStaleness).report .pcuStale 3 none

/-- The staleness fault of an engine's governor (R176). -/
def govStaleCode : Engine → FaultCode
  | .e1 => .gov1Stale
  | .e2 => .gov2Stale

/-- The staleness of a governor reaches the EPC, and its fault the FHU (R176). -/
def State.govStale (e : Engine) (s : State) : State :=
  (s.deliver (.governorStaleness e)).report (govStaleCode e) (engineNode e) none

/-- Apply `f` when `b` holds. -/
def State.applyIf (b : Bool) (f : State → State) (s : State) : State := if b then f s else s

/-- The step timer of port A expires (R176). -/
def State.stepA (s : State) : State :=
  State.applyIf (s.portA.cab.goesStale 100) State.cabStale
    { s with portA := { s.portA with cab := s.portA.cab.step 100 } }

/-- The step timer of port B expires (R176). -/
def State.stepB (s : State) : State :=
  let p := s.portB
  let t := { s with portB := { p with pcu := p.pcu.step 10, gov1 := p.gov1.step 30, gov2 := p.gov2.step 30 } }
  ((t.applyIf (p.pcu.goesStale 10) State.pcuStale).applyIf (p.gov1.goesStale 30) (State.govStale .e1)).applyIf
    (p.gov2.goesStale 30) (State.govStale .e2)

/-- The cab is heard (R176). -/
def State.hearCab (s : State) : State :=
  State.deliverIf (s.portA.cab.state != .fresh) .envCabFreshness { s with portA := { s.portA with cab := Node.heard } }

/-- The PCU is heard (R176). -/
def State.hearPcu (s : State) : State :=
  let n := s.portB.pcu
  let t := { s with portB := { s.portB with pcu := Node.heard } }
  let t := t.applyIf (n.state != .fresh) fun t =>
    ((t.deliver .cytPcuFreshness).deliver .epcPcuFreshness).deliver .smuPcuFreshness
  t.applyIf (n.state == .stale) (State.reportClear .pcuStale 3 none)

/-- The node record of a governor. -/
def PortB.gov (p : PortB) : Engine → Node
  | .e1 => p.gov1
  | .e2 => p.gov2

/-- A governor is heard (R176). -/
def State.hearGov (e : Engine) (s : State) : State :=
  let n := s.portB.gov e
  let t :=
    match e with
    | .e1 => { s with portB := { s.portB with gov1 := Node.heard } }
    | .e2 => { s with portB := { s.portB with gov2 := Node.heard } }
  let t := t.deliverIf (n.state != .fresh) (.governorFreshness e)
  t.applyIf (n.state == .stale) (State.reportClear (govStaleCode e) (engineNode e) none)

/-! ## Machine bus messages (R177, R187) -/

/-- A PUMP_STATUS reaches port B (R177, R187). -/
def State.pumpArrived (data : List Byte) (s : State) : State :=
  let flags := data.getD 2 0
  let travel := flags.getLsbD 1
  (((s.hearPcu).deliver (.epcPumpStatus (orderedField s.settings.ports.pcuOrder data 0 2) (flags.getLsbD 0))).deliver
    (.cytPumpStatus travel)).deliver (.smuPumpStatus travel)

/-- An ENGINE_STATUS reaches port B (R177, R187). -/
def State.engineArrived (e : Engine) (data : List Byte) (s : State) : State :=
  let o := s.settings.ports.govOrder e
  (s.hearGov e).deliver
    (.epcEngineStatus e (data.getD 0 0) (min 100 (data.getD 1 0).toNat) (orderedField o data 2 2)
      (orderedField o data 4 2))

/-- The source node of a frame taken in is heard, whatever becomes of its content (R176). -/
def State.hearSource (rx : RxFrame) (s : State) : State :=
  if rx.id = messageId .cabRequest cabNode then s.hearCab
  else if rx.id = messageId .pumpStatus pcuNode then s.hearPcu
  else if rx.id = messageId .engineStatus (engineNode .e1) then s.hearGov .e1
  else s.hearGov .e2

/-! ## Bus-off, transmission, rejoin (R179, R180) -/

/-- Port A goes bus-off (R180, R184). -/
def PortA.busOff (p : PortA) : PortA :=
  { p with on := false, offering := none, guidance := Place.empty, status := Place.empty, notice := none, results := [],
           assembly := none }

/-- Port B goes bus-off (R180). -/
def PortB.busOff (p : PortB) : PortB :=
  { p with on := false, offering := none, allotment := Place.empty, demand1 := Place.empty, demand2 := Place.empty }

/-- The NOTICE place after its transmission (R179, R181). -/
def PortA.noticeEnded (ok : Bool) (p : PortA) : PortA :=
  match p.notice, ok with
  | some n, true => { p with notice := none, counts := noticeTaken p.counts n.kind }
  | _, _ => p

/-- The place offered after its transmission (R179). -/
def PortA.placeEnded (o : OfferA) (ok : Bool) (p : PortA) : PortA :=
  match o with
  | .guidance => { p with guidance := p.guidance.ended ok }
  | .result => if ok then { p with results := p.results.drop 1 } else p
  | .status => { p with status := p.status.ended ok }
  | .notice => p.noticeEnded ok

/-- The transmit error count after an ending that leaves the port on the bus (R179). -/
def errorsAfter (ok : Bool) (n : Nat) : Nat := if ok then n - 1 else n + 8

/-- The error carries the count past 255 (R179). -/
def goesBusOff (ok : Bool) (n : Nat) : Bool := !ok && decide (255 < n + 8)

/-- A transmission of port A ends (R179 to R181). With nothing offered there is none to end (log 22). -/
def State.endA (ok : Bool) (s : State) : State :=
  match s.portA.offering with
  | none => s
  | some o =>
    if goesBusOff ok s.portA.errors then State.report .busAOff 0 none { s with portA := s.portA.busOff }
    else
      let p := s.portA.placeEnded o ok
      let p := { p with offering := none, errors := errorsAfter ok p.errors }
      { s with portA := p.fillNotice.choose }

/-- The place port B offers after its transmission (R179). -/
def PortB.placeEnded (o : OfferB) (ok : Bool) (p : PortB) : PortB :=
  match o with
  | .allotment => { p with allotment := p.allotment.ended ok }
  | .demand1 => { p with demand1 := p.demand1.ended ok }
  | .demand2 => { p with demand2 := p.demand2.ended ok }

/-- A transmission of port B ends (R179, R180). -/
def State.endB (ok : Bool) (s : State) : State :=
  match s.portB.offering with
  | none => s
  | some o =>
    if goesBusOff ok s.portB.errors then State.report .busBOff 0 none { s with portB := s.portB.busOff }
    else
      let p := s.portB.placeEnded o ok
      let p := { p with offering := none, errors := errorsAfter ok p.errors }
      { s with portB := p.choose }

/-- Port A rejoins (R180, R181). On the bus there is nothing to rejoin (log 22). -/
def State.rejoinA (s : State) : State :=
  if s.portA.on then s
  else
    let p := { s.portA with on := true, errors := 0 }
    State.reportClear .busAOff 0 none { s with portA := p.fillNotice.choose }

/-- Port B rejoins (R180). -/
def State.rejoinB (s : State) : State :=
  if s.portB.on then s
  else
    let p := { s.portB with on := true, errors := 0 }
    State.reportClear .busBOff 0 none { s with portB := p.choose }

/-! ## Cab requests (R183, R184) -/

/-- An operand of a request; one that did not come reads 0 (log 12). -/
def opAt (ops : List Int) (i : Nat) : Int := ops.getD i 0

/-- The target of the two parts of a TARGET_LOAD (R183). -/
def targetOf (p0 p1 : List Int) : Target :=
  { id := opAt p0 0, r0 := opAt p0 1, z0 := opAt p0 2, slope := opAt p0 3, tol := opAt p1 0, near := opAt p1 1,
    guard := opAt p1 2, auto := opAt p1 3, passCycles := opAt p1 4, onGradeFrames := opAt p1 5 }

/-- The fields of the two parts of a ZONE_EDIT (R183). The kind and the mode it lists are taken to come as R74's codes, which
are those of the ZONES table (DESIGN CHOICE, unsafe: log 39). -/
def editOf (p0 p1 : List Int) : ZoneFields :=
  { kind := (opAt p0 1).toNat, mode := (opAt p0 2).toNat, s := BitVec.ofInt 16 (opAt p0 3),
    e := BitVec.ofInt 16 (opAt p0 4), reachMin := opAt p1 0, reachMax := opAt p1 1, limit := opAt p1 2,
    stop := opAt p1 3, band := opAt p1 4 }

/-- The command that carries a request to its owner, and none where the port answers REFUSED_RANGE itself (R183). -/
def routed (kind place : Nat) (p0 p1 : List Int) : Option Instr :=
  match kind with
  | 1 => some (.setMode place (opAt p0 0))
  | 2 => if isBit (opAt p0 0) then some (.autoSingle place (opAt p0 0 == 1)) else none
  | 3 => if isBit (opAt p0 0) then some (.autoIdle place (opAt p0 0 == 1)) else none
  | 4 => some (.tripReset place)
  | 5 => some (.guidanceOn place)
  | 6 => some (.guidanceOff place)
  | 7 => some (.assistOn place)
  | 8 => some (.assistOff place)
  | 9 => some (.targetLoad place (targetOf p0 p1))
  | 10 => some (.targetAdvance place)
  | 11 => some (.targetClear place)
  | 12 => some (.zoneEdit place (opAt p0 0) (editOf p0 p1))
  | 13 => some (.zoneSuspend place (opAt p0 0) (opAt p0 1).toNat)
  | 14 => some (.reminderAck place (opAt p0 0).toNat)
  | 15 => some (.cabItemDone place (opAt p0 0).toNat)
  | _ => none

/-- A request is routed to its owner, or answered by the port (R183). -/
def State.route (c : Option Instr) (ticket : Nat) (s : State) : State :=
  match c with
  | some c => s.deliver c
  | none => s.answerCab ticket .refusedRange

/-- A place is reserved for a result (R183). -/
def PortA.reserve (number kind : Byte) (p : PortA) : PortA :=
  { p with
    results := p.results ++ [{ ticket := p.tickets, number := number, kind := kind, code := none }]
    tickets := p.tickets + 1 }

/-- A whole request is taken: discarded with all four places taken, else a place is reserved and it is routed (R183). -/
def State.takeRequest (number kind : Byte) (p0 p1 : List Int) (s : State) : State :=
  if 4 ≤ s.portA.results.length then s
  else
    let ticket := s.portA.tickets
    State.route (routed kind.toNat ticket p0 p1) ticket { s with portA := s.portA.reserve number kind }

/-- The kind comes in two parts (R183, R184). -/
def twoPart (kind : Byte) : Bool := kind == 9 || kind == 12

/-- The assembly is emptied or filled. -/
def State.setAssembly (a : Option Assembly) (s : State) : State := { s with portA := { s.portA with assembly := a } }

/-- A part of a two-part request (R184). -/
def State.takePart (f : CabFrame) (s : State) : State :=
  if f.part = 0 then s.setAssembly (some { number := f.number, kind := f.kind, ops := f.ops })
  else if f.part = 1 then
    match s.portA.assembly with
    | some a =>
      if a.kind = f.kind ∧ a.number = f.number then (s.setAssembly none).takeRequest f.number f.kind a.ops f.ops else s
    | none => s
  else s

/-- A CAB_REQUEST taken in is handled by its kind (R183, R184). -/
def State.handleRequest (f : CabFrame) (s : State) : State :=
  if f.kind = 0 then s
  else if twoPart f.kind then s.takePart f
  else (s.setAssembly none).takeRequest f.number f.kind f.ops []

/-- A CAB_REQUEST reaches port A, which takes it in while on the bus (R174, R176, R180, R183). -/
def State.cabArrived (f : CabFrame) (s : State) : State :=
  s.takeFrame (arrival .a .cabRequest cabNode (MsgKind.dataLength .cabRequest)) fun s => s.hearCab.handleRequest f

/-! ## STATUS (R186) -/

/-- The STATUS of the state as it stands (R186). -/
def State.statusMsg (s : State) : StatusMsg :=
  { effMode := s.epc.effMode, modeReq := s.epc.modeReq, plan := s.epc.plan, lead := s.epc.lead,
    availE1 := s.epc.avail .e1, availE2 := s.epc.avail .e2, held := s.fhu.held.isSome,
    escalation := s.fhu.escalation, zones := s.env.entries.map ZoneEntry.pair,
    itemsOk := stateCount .ok s.smu.items, itemsDueSoon := stateCount .dueSoon s.smu.items,
    itemsDue := stateCount .due s.smu.items, itemsOverdue := stateCount .overdue s.smu.items,
    attention := attentionCount s.smu.items, attentionLabel := attentionLabel s.smu.items,
    economy := s.epc.economy }

/-! ## The commands -/

/-- STEP_TIMER_EXPIRY (R176). -/
def execStepTimerExpiry (port : Port) (s : State) : Out :=
  onEvent (match port with | .a => State.stepA | .b => State.stepB) s

/-- IGNORED_FRAME: a frame that R174 does not take in changes nothing and counts as hearing no node. One that R174 does
take in is no row of this kind (WellFormed refuses it); its node is heard, and there is no content to deliver (DESIGN
CHOICE, log 33). -/
def execIgnoredFrame (rx : RxFrame) (s : State) : Out := onEvent (State.takeFrame rx (State.hearSource rx)) s

/-- PUMP_STATUS (R174, R176, R177, R187). -/
def execPumpStatus (data : List Byte) (s : State) : Out :=
  onEvent (State.takeFrame (arrival .b .pumpStatus pcuNode data.length) (State.pumpArrived data)) s

/-- ENGINE_STATUS (R174, R176, R177, R187). -/
def execEngineStatus (engine : Engine) (data : List Byte) (s : State) : Out :=
  onEvent (State.takeFrame (arrival .b .engineStatus (engineNode engine) data.length) (State.engineArrived engine data)) s

/-- CAB_REQUEST (R183, R184). -/
def execCabRequest (request : CabFrame) (s : State) : Out := onEvent (State.cabArrived request) s

/-- PRESENCE (R183). -/
def execPresence (number : Byte) (s : State) : Out :=
  onEvent (State.cabArrived { number := number, kind := 0, part := 0, ops := [] }) s

/-- UNKNOWN_REQUEST_KIND (R183). -/
def execUnknownRequestKind (number kind : Byte) (s : State) : Out :=
  onEvent (State.cabArrived { number := number, kind := kind, part := 0, ops := [] }) s

/-- REQUEST_PART_0 (R184). -/
def execRequestPart0 (number kind : Byte) (ops : List Int) (s : State) : Out :=
  onEvent (State.cabArrived { number := number, kind := kind, part := 0, ops := ops }) s

/-- UNMATCHED_PART_1 (R184). -/
def execUnmatchedPart1 (number kind : Byte) (ops : List Int) (s : State) : Out :=
  onEvent (State.cabArrived { number := number, kind := kind, part := 1, ops := ops }) s

/-- TRANSMISSION_END (R179 to R181). -/
def execTransmissionEnd (port : Port) (ok : Bool) (s : State) : Out :=
  onEvent (match port with | .a => State.endA ok | .b => State.endB ok) s

/-- BUS_REJOIN (R180, R181). -/
def execBusRejoin (port : Port) (s : State) : Out :=
  onEvent (match port with | .a => State.rejoinA | .b => State.rejoinB) s

/-- STATUS_TIMER_EXPIRY (R186). -/
def execStatusTimerExpiry (s : State) : Out := onEvent (fun s => s.handStatus s.statusMsg) s

end Sys2Proof.Machine
end

