-- ==== Sys2Proof/Machine/Sensor.lean ====
section
/-! DEFINITION. The sensor poll unit (01): the frame timer, transfers of the ring, the close of a poll. -/

namespace Sys2Proof.Machine

open Sys2Proof

/-! ## Frame timer (R1, R2) -/

/-- The slots a poll visits: those in use, in ascending number (R5). -/
def SpuCfg.usedSlots (c : SpuCfg) : List Nat :=
  (List.range c.slots.length).filter fun k =>
    match c.slots[k]? with
    | some slot => slot.role != .unused
    | none => false

/-- A poll starts: POLLING, period count 1, the first used slot's transfer in flight (R1, R5). -/
def Spu.startPoll (c : SpuCfg) (p : Spu) : Spu :=
  { p with poll := some c.usedSlots, periods := 1, replies := [] }

/-- A start skipped while POLLING: one more period, and the overrun flag set (R2). -/
def Spu.skipStart (p : Spu) : Spu := { p with periods := satAdd 255 p.periods 1, overrun := true }

/-- The frame timer expires (R1, R2). -/
def State.frameTimer (s : State) : State :=
  match s.spu.poll with
  | none => { s with spu := s.spu.startPoll s.settings.spu }
  | some _ =>
    let t := { s with spu := s.spu.skipStart }
    if s.spu.overrun then t else t.report .frameOverrun 0 (some (s.spu.counter + 1))

/-! ## Reply words (R5 to R7) -/

/-- The bits of a transfer of `size` bits, as received; a line nobody drives reads 1 (01, log 20). -/
def receivedBits (size : Nat) (bits : List Bool) : List Bool :=
  bits.take size ++ List.replicate (size - bits.length) true

/-- The word whose bits, highest first, are given. -/
def wordOfBits (bits : List Bool) : BitVec 32 :=
  BitVec.ofNat 32 (bits.foldl (fun n b => 2 * n + bit b) 0)

/-- The word assembled by the slot's bit order (R5). -/
def SlotCfg.assemble (c : SlotCfg) (bits : List Bool) : BitVec 32 :=
  let got := receivedBits c.wordSize bits
  wordOfBits (if c.lsbFirst then got.reverse else got)

/-- The raw field of a word (R6, step 1). -/
def SlotCfg.rawField (c : SlotCfg) (w : BitVec 32) : Nat := w.toNat / 2 ^ c.pos % 2 ^ c.width

/-- The raw field scaled to 16 bits (R6, step 2). -/
def SlotCfg.scaled (c : SlotCfg) (raw : Nat) : Nat :=
  if c.width ≤ 16 then raw * 2 ^ (16 - c.width) else raw / 2 ^ (c.width - 16)

/-- The converted value of a word (R6). -/
def SlotCfg.convert (c : SlotCfg) (w : BitVec 32) : Angle :=
  let x := BitVec.ofNat 16 (c.scaled (c.rawField w)) - c.zero
  if c.negate then -x else x

/-- Every bit of the slot's word is 1 (R7). -/
def SlotCfg.allOnes (c : SlotCfg) (w : BitVec 32) : Bool := w.toNat == 2 ^ c.wordSize - 1

/-- The class of a reply (R7): why it is not good, or none for a good one. -/
def SlotCfg.classify (c : SlotCfg) (w : BitVec 32) : Option Reason :=
  if c.allOnes w || !w.getLsbD c.okPos then some .missing
  else
    let v := (c.convert w).toInt
    if v < c.pmin ∨ v > c.pmax then some .outOfRange else none

/-! ## The close of a poll -/

/-- A slot's running state after the close, given its reply word (R8, R9, R15). -/
def SlotRun.closed (hold : Nat) (c : SlotCfg) (w : BitVec 32) (r : SlotRun) : SlotRun :=
  match c.classify w with
  | none => { r with held := c.convert w, age := 0, state := .fresh, missing := false, range := false }
  | some why =>
    let age := min (hold + 1) (r.age + 1)
    let invalid := decide (hold < age)
    { r with
      age := age
      state := if invalid then .invalid else .held
      reason := some why
      missing := r.missing || (invalid && why == .missing)
      range := r.range || (invalid && why == .outOfRange) }

/-- The reply kept for a slot; a slot without one reads as a line nobody drives. -/
def Spu.reply (c : SlotCfg) (p : Spu) (k : Nat) : BitVec 32 :=
  match p.replies.find? fun x => x.1 == k with
  | some x => x.2
  | none => c.assemble []

/-- The slot table after the close (R5: changed for the whole frame at once). -/
def Spu.closedSlots (c : SpuCfg) (p : Spu) : List SlotRun :=
  (List.zip c.slots p.slots).zipIdx.map fun x =>
    if x.1.1.role = .unused then x.1.2 else x.1.2.closed c.holdFrames x.1.1 (p.reply x.1.1 x.2)

/-- The number of the slot that holds a role. -/
def SpuCfg.slotOfRole (c : SpuCfg) (r : Role) : Option Nat := c.slots.findIdx? fun slot => slot.role == r

/-- The reading of the slot that holds a role (R14). -/
def slotReading (c : SpuCfg) (slots : List SlotRun) (r : Role) : Option Reading :=
  match c.slotOfRole r with
  | some k => (slots[k]?).map fun run => { value := run.held, state := run.state }
  | none => none

/-- The reading of a required role; a valid configuration has a slot for it (R4). -/
def requiredReading (c : SpuCfg) (slots : List SlotRun) (r : Role) : Reading :=
  (slotReading c slots r).getD { value := 0, state := .invalid }

/-- The outcome of the boom cross-check (R11): none without a comparison, else whether the two agree. -/
def boomCheck (c : SpuCfg) (slots : List SlotRun) : Option Bool :=
  match slotReading c slots .boom, slotReading c slots .boomCheck with
  | some b, some k =>
    if b.state = .fresh ∧ k.state = .fresh then some (decide ((b.value - k.value).toInt.natAbs ≤ c.checkTol))
    else none
  | _, _ => none

/-- FRESH or HELD: the angle is usable (R12). -/
def slotUsable (x : SlotState) : Bool := x == .fresh || x == .held

/-- The pose frame of a close (R10 to R14). -/
def poseFrameOf (c : SpuCfg) (slots : List SlotRun) (frame : FrameNo) (periods : Nat) : PoseFrame :=
  let slew := requiredReading c slots .slew
  let boom := requiredReading c slots .boom
  let arm := requiredReading c slots .arm
  let bucket := requiredReading c slots .bucket
  let pitch := requiredReading c slots .pitch
  let bad := [slew, boom, arm, bucket, pitch].any fun r => !slotUsable r.state
  let disagree := boomCheck c slots == some false
  { frame := frame, periods := periods, late := decide (1 < periods), slew := slew, boom := boom, arm := arm,
    bucket := bucket, pitch := pitch, check := slotReading c slots .boomCheck,
    short := slots.any fun r => r.state == .held || r.state == .invalid,
    disagree := disagree, valid := !bad && !disagree,
    cause := if bad then (if disagree then .both else .angleInvalid) else (if disagree then .disagree else .none) }

/-- A raised flag reports its raising and its clearing (R15). -/
def State.reportFlag (code : FaultCode) (detail : Int) (frame : FrameNo) (before after : Bool) (s : State) : State :=
  if !before && after then s.report code detail (some frame)
  else if before && !after then s.reportClear code detail (some frame)
  else s

/-- What a slot's two flags report at a close (R15). -/
def State.reportSlot (frame : FrameNo) (k : Nat) (before after : SlotRun) (s : State) : State :=
  (s.reportFlag .sensorMissing k frame before.missing after.missing).reportFlag .sensorRange k frame
    before.range after.range

/-- The reports of all slots at a close, in slot order (R15). -/
def State.reportSlots (frame : FrameNo) (before after : List SlotRun) (s : State) : State :=
  (List.zip before after).zipIdx.foldl (fun s x => s.reportSlot frame x.2 x.1.1 x.1.2) s

/-- The SENSOR_DISAGREE flag after a close (R16). -/
def disagreeAfter (flag : Bool) (check : Option Bool) : Bool :=
  match check with
  | some agrees => !agrees
  | none => flag

/-- SENSOR_DISAGREE is raised or cleared as its flag changes (R16). -/
def State.reportDisagree (c : SpuCfg) (frame : FrameNo) (before after : Bool) (s : State) : State :=
  s.reportFlag .sensorDisagree ((c.slotOfRole .boomCheck).getD 0 : Nat) frame before after

/-- The SPU after a close (R1, R2, R8, R9, R13). -/
def Spu.closed (c : SpuCfg) (p : Spu) : Spu :=
  let slots := p.closedSlots c
  { p with
    poll := none
    replies := []
    slots := slots
    disagree := disagreeAfter p.disagree (boomCheck c slots)
    overrun := if p.periods = 1 then false else p.overrun
    counter := p.counter + 1 }

/-- The close of a poll: the slot table is updated, faults reported, the pose frame delivered (R1, R14 to R16). -/
def State.closePoll (s : State) : State :=
  let c := s.settings.spu
  let p := s.spu.closed c
  let t := { s with spu := p }
  let t := t.reportSlots p.counter s.spu.slots p.slots
  let t := t.reportDisagree c p.counter s.spu.disagree p.disagree
  t.deliver (.geuPoseFrame (poseFrameOf c p.slots p.counter s.spu.periods))

/-- A transfer completes: its word is kept and the next transfer started, or the poll closes (R5). With no poll in
progress there is no transfer to complete (log 22). -/
def State.transferDone (bits : List Bool) (s : State) : State :=
  match s.spu.poll with
  | none => s
  | some [] => s.closePoll
  | some (k :: rest) =>
    match s.settings.spu.slots[k]? with
    | none => s
    | some c =>
      let t := { s with spu := { s.spu with poll := some rest, replies := s.spu.replies ++ [(k, c.assemble bits)] } }
      if rest.isEmpty then t.closePoll else t

/-- FRAME_TIMER_EXPIRY (R1, R2). -/
def execFrameTimerExpiry (s : State) : Out := onEvent State.frameTimer s

/-- TRANSFER_COMPLETE (R5 to R16). -/
def execTransferComplete (bits : List Bool) (s : State) : Out := onEvent (State.transferDone bits) s

end Sys2Proof.Machine
end

