-- ==== Sys2Proof/Machine/Start.lean ====
section
/-! DEFINITION. Power-on, loss of supply and restart: the restore of the records and the starting state of every
block. -/

namespace Sys2Proof.Machine

open Sys2Proof

/-! ## Restore (R166, R167) -/

/-- The zone definitions a record restores; none for a record that fails its check (R87, R166). -/
def restoredZones (a : NvArray) (r : RecordId) : Option (List ZoneDef) :=
  match (a.pair r).restored r with
  | some (.zones defs) => some defs
  | _ => none

/-- The items a record restores (R150, R166). -/
def restoredItems (a : NvArray) : Option (List (ItemDef × Nat)) :=
  match a.items.restored .items with
  | some (.items defs) => some defs
  | _ => none

/-- The meters a record restores (R150, R166). -/
def restoredMeters (a : NvArray) : Option (List Nat) :=
  match a.meters.restored .meters with
  | some (.meters values) => some values
  | _ => none

/-- The hold cause a record restores; none for a record that fails its check (R163, R166). -/
def restoredHold (a : NvArray) : Option (Option HoldCause) :=
  match a.hold.restored .hold with
  | some (.hold cause) => some cause
  | _ => none

/-- The configuration restored, or the detail of CFG_INVALID (R167). -/
def restoredConfig (a : NvArray) : Except Nat (List Int) :=
  match a.config.restored .config with
  | some (.config version fields) =>
    if version = Config.layoutVersion then
      match firstFailingField fields with
      | some k => .error k
      | none => .ok fields
    else .error 0
  | _ => .error 0

/-- The detail of CFG_INVALID; none for a usable record (R167). -/
def configFault (a : NvArray) : Option Nat :=
  match restoredConfig a with
  | .ok _ => none
  | .error k => some k

/-- The committed configuration image after a restore (R167). -/
def configImage (a : NvArray) : Option (List Int) :=
  match restoredConfig a with
  | .ok fields => some fields
  | .error _ => none

/-- The fields the blocks run on after a restore (R167). -/
def runningFields (a : NvArray) : List Int := (configImage a).getD builtInFields

/-- Eight zone definitions in the empty state (R70, R87). -/
def emptyZones : List ZoneDef := List.replicate 8 emptyZone

/-- Thirty-two definitions not in use, with marks of 0 (R150). -/
def emptyItems : List (ItemDef × Nat) := List.replicate 32 (ItemDef.empty, 0)

/-- The records that failed their check, in record order (R166; order: log 9). -/
def failedRecords (a : NvArray) : List RecordId :=
  (if (restoredZones a .zonesSite).isNone then [.zonesSite] else [])
    ++ (if (restoredZones a .zonesOper).isNone then [.zonesOper] else [])
    ++ (if (restoredItems a).isNone then [.items] else [])
    ++ (if (restoredMeters a).isNone then [.meters] else [])
    ++ (if (restoredHold a).isNone then [.hold] else [])

/-! ## The start (R17, R32, R48, R68, R87, R108, R132, R150, R151, R163, R171, R188, R196) -/

/-- The FHU with the HOLD record restored (R163). -/
def Fhu.restored (hold : Option HoldCause) : Fhu := { Fhu.start with held := hold }

/-- Every block in its starting state, from the array and the eight meter values. -/
def State.blocksStarted (meters : List Nat) (s : State) : State :=
  let a := s.nvc.array
  let fields := runningFields a
  let c := Settings.ofFields fields
  let zones := (restoredZones a .zonesSite).getD emptyZones ++ (restoredZones a .zonesOper).getD emptyZones
  { supply := true
    settings := c
    spu := Spu.start c.spu
    geu := Geu.start
    cyt := Cyt.start
    ggu := Ggu.start c.ggu
    env := Env.start zones
    lev := Lev.start
    epc := Epc.start c.epc
    smu := Smu.restored meters ((restoredItems a).getD emptyItems)
    fhu := Fhu.restored ((restoredHold a).getD none)
    nvc := Nvc.start a (configImage a)
    portA := PortA.start
    portB := PortB.start
    sli := Sli.start fields
    lines := s.lines
    inFlight := []
    pending := s.pending
    freeCount := s.freeCount }

/-- The consequence summary is handed to the EPC once (R142, R150). -/
def State.handSummary (s : State) : State := s.deliver (.consequenceSummary s.smu.summary)

/-- A stored HELD is handed to the LEV and the EPC, and announced (R163). -/
def State.announceHold (s : State) : State :=
  if s.fhu.held.isSome then s.deliverHold.raiseBoth .holdEntered else s

/-- An NV_RESTORE_BAD report is taken (R166). -/
def State.restoreBad (s : State) (r : RecordId) : State :=
  s.takeFault { code := .nvRestoreBad, clearing := false, detail := r.number, frame := none }

/-- A CFG_INVALID report is taken (R167). -/
def State.configInvalid (detail : Option Nat) (s : State) : State :=
  match detail with
  | some k => s.takeFault { code := .cfgInvalid, clearing := false, detail := k, frame := none }
  | none => s

/-- KEY-off is taken at once when the line reads off (R171). -/
def State.keyAtStart (s : State) : State := if s.lines.key then s else s.keyOffTaken

/-- The start of the part from its array, with the eight meter values its meters take. R150 and R163 give the SMU's
consequence summary and the hold entry to the LEV and the EPC no order: the summary is put in flight first, a DESIGN CHOICE
(log 28). The reports are taken last (log 9). -/
def State.started (meters : List Nat) (s : State) : State :=
  let a := s.nvc.array
  let t := (s.blocksStarted meters).handSummary.announceHold
  let t := (failedRecords a).foldl State.restoreBad t
  ((t.configInvalid (configFault a)).settle).keyAtStart

/-! ## Loss of supply (R169) -/

/-- The copy a cut write leaves: the old one, the new one, or one that fails its check; which is free (log 6). -/
def State.cutCopy (w : NvWrite) (s : State) : NvCopy :=
  if Config.cutWritePasses s.freeCount then
    if Config.cutWriteNew s.freeCount then w.copy else (s.nvc.array.pair w.record).copy w.toB
  else .spoiled

/-- The array after a loss of supply (R169). -/
def State.cutArray (s : State) : NvArray :=
  match s.nvc.write with
  | some w => s.nvc.array.setCopy w.record w.toB (s.cutCopy w)
  | none => s.nvc.array

/-- The part without supply: the array stands, nothing else is kept (log 6). -/
def State.supplyLost (s : State) : State :=
  let t := State.blocksStarted (List.replicate 8 0) { s with nvc := { s.nvc with array := s.cutArray } }
  { t with supply := false, freeCount := s.freeCount + bit s.nvc.write.isSome }

/-- Power-on (R166, R167, and each block's start); with the supply up it is lost first (log 24). -/
def State.poweredOn (s : State) : State :=
  let s := if s.supply then s.supplyLost else s
  s.started ((restoredMeters s.nvc.array).getD (List.replicate 8 0))

/-! ## The commands -/

/-- POWER_ON. -/
def execPowerOn (s : State) : Out := .next s.poweredOn

/-- SUPPLY_LOSS (R169). -/
def execSupplyLoss (s : State) : Out := onEvent State.supplyLost s

/-- SUPERVISOR_RESTART: taken when it is due, with the meters kept (R151, R173); not due, it waits (log 26). -/
def execSupervisorRestart (s : State) : Out :=
  onDelivery .supervisorRestart (fun s => if s.restartDue then s.started s.smu.meters else s) s

end Sys2Proof.Machine
end

