-- ==== Sys2Proof/Machine/Dispatch.lean ====
section
/-! DEFINITION. The dispatch of a command to its meaning: one arm for each row of spec/opcode_table.json, in the
table's order. -/

namespace Sys2Proof.Machine

open Sys2Proof

-- The effect of a command on everything but the queue.
def exec (i : Instr) (s : State) : Host.Outcome State Fault Refusal :=
  match i with
  | .powerOn => Sys2Proof.Machine.execPowerOn s
  | .supplyLoss => Sys2Proof.Machine.execSupplyLoss s
  | .frameTimerExpiry => Sys2Proof.Machine.execFrameTimerExpiry s
  | .transferComplete bits => Sys2Proof.Machine.execTransferComplete bits s
  | .geuPoseFrame pose => Sys2Proof.Machine.execGeuPoseFrame pose s
  | .cytPoseRecord rec => Sys2Proof.Machine.execCytPoseRecord rec s
  | .cueResult frame cue => Sys2Proof.Machine.execCueResult frame cue s
  | .cytPumpStatus travel => Sys2Proof.Machine.execCytPumpStatus travel s
  | .cytPcuStaleness => Sys2Proof.Machine.execCytPcuStaleness s
  | .cytPcuFreshness => Sys2Proof.Machine.execCytPcuFreshness s
  | .gguPoseRecord rec => Sys2Proof.Machine.execGguPoseRecord rec s
  | .floorList frame floors => Sys2Proof.Machine.execFloorList frame floors s
  | .phaseReport frame phase => Sys2Proof.Machine.execPhaseReport frame phase s
  | .gguCycleEnd onGrade => Sys2Proof.Machine.execGguCycleEnd onGrade s
  | .envPoseRecord rec => Sys2Proof.Machine.execEnvPoseRecord rec s
  | .suspensionTimerExpiry => Sys2Proof.Machine.execSuspensionTimerExpiry s
  | .envCabStaleness => Sys2Proof.Machine.execEnvCabStaleness s
  | .stateReport frame states => Sys2Proof.Machine.execStateReport frame states s
  | .levPoseRecord rec => Sys2Proof.Machine.execLevPoseRecord rec s
  | .frameZoneSet frame zones => Sys2Proof.Machine.execFrameZoneSet frame zones s
  | .assistRequest frame percent => Sys2Proof.Machine.execAssistRequest frame percent s
  | .levHoldEntry => Sys2Proof.Machine.execLevHoldEntry s
  | .levHoldClear => Sys2Proof.Machine.execLevHoldClear s
  | .planIntervalExpiry => Sys2Proof.Machine.execPlanIntervalExpiry s
  | .epcEngineStatus engine code load speed fuel => Sys2Proof.Machine.execEpcEngineStatus engine code load speed fuel s
  | .epcPumpStatus demand neutral => Sys2Proof.Machine.execEpcPumpStatus demand neutral s
  | .epcPcuStaleness => Sys2Proof.Machine.execEpcPcuStaleness s
  | .epcPcuFreshness => Sys2Proof.Machine.execEpcPcuFreshness s
  | .governorStaleness engine => Sys2Proof.Machine.execGovernorStaleness engine s
  | .governorFreshness engine => Sys2Proof.Machine.execGovernorFreshness engine s
  | .consequenceSummary marks => Sys2Proof.Machine.execConsequenceSummary marks s
  | .epcHoldEntry => Sys2Proof.Machine.execEpcHoldEntry s
  | .epcHoldClear => Sys2Proof.Machine.execEpcHoldClear s
  | .epcCycleEnd => Sys2Proof.Machine.execEpcCycleEnd s
  | .tripFuelIncrement units => Sys2Proof.Machine.execTripFuelIncrement units s
  | .smuOneSecondStep => Sys2Proof.Machine.execSmuOneSecondStep s
  | .slewIncrement bau => Sys2Proof.Machine.execSlewIncrement bau s
  | .smuCycleEnd => Sys2Proof.Machine.execSmuCycleEnd s
  | .smuPumpStatus travel => Sys2Proof.Machine.execSmuPumpStatus travel s
  | .smuPcuStaleness => Sys2Proof.Machine.execSmuPcuStaleness s
  | .smuPcuFreshness => Sys2Proof.Machine.execSmuPcuFreshness s
  | .faultReport report => Sys2Proof.Machine.execFaultReport report s
  | .nvWriteComplete ok => Sys2Proof.Machine.execNvWriteComplete ok s
  | .keyOff => Sys2Proof.Machine.execKeyOff s
  | .keyOn => Sys2Proof.Machine.execKeyOn s
  | .pwrfailAssert => Sys2Proof.Machine.execPwrfailAssert s
  | .pwrfailDeassert => Sys2Proof.Machine.execPwrfailDeassert s
  | .supervisorRestart => Sys2Proof.Machine.execSupervisorRestart s
  | .stepTimerExpiry port => Sys2Proof.Machine.execStepTimerExpiry port s
  | .ignoredFrame rx => Sys2Proof.Machine.execIgnoredFrame rx s
  | .pumpStatus data => Sys2Proof.Machine.execPumpStatus data s
  | .engineStatus engine data => Sys2Proof.Machine.execEngineStatus engine data s
  | .cabRequest request => Sys2Proof.Machine.execCabRequest request s
  | .transmissionEnd port ok => Sys2Proof.Machine.execTransmissionEnd port ok s
  | .busRejoin port => Sys2Proof.Machine.execBusRejoin port s
  | .statusTimerExpiry => Sys2Proof.Machine.execStatusTimerExpiry s
  | .presence number => Sys2Proof.Machine.execPresence number s
  | .unknownRequestKind number kind => Sys2Proof.Machine.execUnknownRequestKind number kind s
  | .requestPart0 number kind ops => Sys2Proof.Machine.execRequestPart0 number kind ops s
  | .unmatchedPart1 number kind ops => Sys2Proof.Machine.execUnmatchedPart1 number kind ops s
  | .setMode place mode => Sys2Proof.Machine.execSetMode place mode s
  | .autoSingle place on => Sys2Proof.Machine.execAutoSingle place on s
  | .autoIdle place on => Sys2Proof.Machine.execAutoIdle place on s
  | .tripReset place => Sys2Proof.Machine.execTripReset place s
  | .guidanceOn place => Sys2Proof.Machine.execGuidanceOn place s
  | .guidanceOff place => Sys2Proof.Machine.execGuidanceOff place s
  | .assistOn place => Sys2Proof.Machine.execAssistOn place s
  | .assistOff place => Sys2Proof.Machine.execAssistOff place s
  | .targetLoad place target => Sys2Proof.Machine.execTargetLoad place target s
  | .targetAdvance place => Sys2Proof.Machine.execTargetAdvance place s
  | .targetClear place => Sys2Proof.Machine.execTargetClear place s
  | .zoneEdit place index fields => Sys2Proof.Machine.execZoneEdit place index fields s
  | .zoneSuspend place index seconds => Sys2Proof.Machine.execZoneSuspend place index seconds s
  | .reminderAck place item => Sys2Proof.Machine.execReminderAck place item s
  | .cabItemDone place item => Sys2Proof.Machine.execCabItemDone place item s
  | .requestBlock block => Sys2Proof.Machine.execRequestBlock block s
  | .shortBlock block => Sys2Proof.Machine.execShortBlock block s
  | .linkBusyRefusal block => Sys2Proof.Machine.execLinkBusyRefusal block s
  | .answerRead => Sys2Proof.Machine.execAnswerRead s
  | .maintenanceEnableChange high => Sys2Proof.Machine.execMaintenanceEnableChange high s
  | .unknownOperation => Sys2Proof.Machine.execUnknownOperation s
  | .levelRefusal => Sys2Proof.Machine.execLevelRefusal s
  | .selectTable table index => Sys2Proof.Machine.execSelectTable table index s
  | .readEntries n => Sys2Proof.Machine.execReadEntries n s
  | .writeEntries n data => Sys2Proof.Machine.execWriteEntries n data s
  | .itemDone item => Sys2Proof.Machine.execItemDone item s
  | .meterPreset meter value => Sys2Proof.Machine.execMeterPreset meter value s
  | .suspendZone index seconds => Sys2Proof.Machine.execSuspendZone index seconds s
  | .clearHold => Sys2Proof.Machine.execClearHold s
  | .clearFailed engine => Sys2Proof.Machine.execClearFailed engine s
  | .commitConfig => Sys2Proof.Machine.execCommitConfig s
  | .restart => Sys2Proof.Machine.execRestart s
  | .takeNotice => Sys2Proof.Machine.execTakeNotice s
  | .envCabFreshness => Sys2Proof.Machine.execEnvCabFreshness s

end Sys2Proof.Machine
end

