-- ==== Sys2Proof/Machine/Step.lean ====
section
/-! DEFINITION. One step of the part: the command at the front of the queue; with an empty queue the oldest delivery
in flight; with neither, nothing. -/

namespace Sys2Proof.Machine

open Sys2Proof

/-- The front of the queue is taken and run on the state with the queue's rest. On an empty queue the oldest delivery
between blocks that is in flight is taken, and with none in flight the part idles (DESIGN CHOICE, log 3). -/
def step (s : State) : Host.Outcome State Fault Refusal :=
  match s.pending with
  | c :: rest => exec c { s with pending := rest }
  | [] =>
    match s.inFlight with
    | c :: _ => exec c s
    | [] => .next s

/-- The command a table word spells, put at the front of the queue; no word spells one. -/
def State.withFetchWord (s : State) (nbits w : Nat) : State :=
  match decodeTableWord nbits w with
  | some c => { s with pending := c :: s.pending }
  | none => s

end Sys2Proof.Machine
end

