-- ==== Sys2Proof/Safety.lean ====
section
/-! DEFINITION. What every reachable state of the part keeps, in the terms the statements use: one predicate for each
promise spec/ makes of the whole machine. -/

namespace Sys2Proof.Machine

open Sys2Proof

/-- All four ceilings are percentages. -/
def ceilingsOk (c : Ceilings) : Prop := c.left ≤ 100 ∧ c.right ≤ 100 ∧ c.raise ≤ 100 ∧ c.lower ≤ 100

/-- The store queue (R168): at most four entries, never two for the same record. -/
def queueOk (n : Nvc) : Prop := n.queue.length ≤ 4 ∧ (n.queue.map StoreEntry.record).Nodup

/-- A write goes to the copy R165 names, with the generation it names: beside a newer passing copy the other one, with
the next generation; with none copy A, with generation 1. It carries the record's id and its check code. -/
def writeChosen (a : NvArray) (w : NvWrite) : Prop :=
  let pair := a.pair w.record
  let written (g : Nat) : Prop :=
    (w.copy.content?.map fun c => NvCopy.written w.record.number g c (checkCode w.record.number g c)) = some w.copy
  match pair.newer w.record with
  | some b => w.toB = !b ∧ written (((pair.copy b).generation + 1) % 65536)
  | none => w.toB = false ∧ written 1

/-- The write in flight (R165, R168): it is that of the head entry, and goes to the copy R165 names, which is never the
newer passing one. -/
def writeOk (n : Nvc) : Prop :=
  ∀ w, n.write = some w →
    (n.queue.head?).map StoreEntry.record = some w.record ∧ (n.array.pair w.record).newer w.record ≠ some w.toB
      ∧ writeChosen n.array w

/-- The store controller keeps its queue and its stored copies (R165, R168). -/
def storesOk (s : State) : Prop := queueOk s.nvc ∧ writeOk s.nvc

/-- The power state (R171): READY_OFF, in which SHUTDOWN_READY is asserted, exactly while out of RUN with the queue empty,
no write in flight and the key-off list empty; in RUN there is no key-off list. -/
def powerOk (s : State) : Prop :=
  (s.nvc.power = .readyOff ↔ s.nvc.power ≠ .run ∧ s.nvc.queue = [] ∧ s.nvc.write = none ∧ s.nvc.keyList = [])
    ∧ (s.shutdownReady = true ↔ s.nvc.power = .readyOff) ∧ (s.nvc.power = .run → s.nvc.keyList = [])

/-- A notice table: eleven kinds, each counted in 0..15 (R181, R195). -/
def noticeTableOk (counts : List Nat) : Prop := counts.length = 11 ∧ ∀ n ∈ counts, n ≤ 15

/-- Both notice tables, and no more than four result places (R181, R183, R195). -/
def noticesOk (s : State) : Prop :=
  noticeTableOk s.portA.counts ∧ noticeTableOk s.sli.counts ∧ s.portA.results.length ≤ 4

/-- The target queue (R51, R65): at most two targets, each in its ranges, and the pass counter below the passes that
complete the ACTIVE target, 0 with the queue empty. -/
def targetsOk (s : State) : Prop :=
  s.ggu.targets.length ≤ 2 ∧ (∀ t ∈ s.ggu.targets, targetInRange t = true)
    ∧ (match s.ggu.targets with
      | [] => s.ggu.passes = 0
      | t :: _ => (s.ggu.passes : Int) < t.passCycles)

/-- The fault ring and the hold state (R154, R155, R158, R159): at most sixteen records, an active list without
repeats, and an escalation count in 0..255 that is 0 while CLEAR. -/
def holdOk (s : State) : Prop :=
  s.fhu.ring.length ≤ 16 ∧ s.fhu.active.Nodup ∧ s.fhu.escalation ≤ 255
    ∧ (s.fhu.held = none → s.fhu.escalation = 0)

/-- What every ALLOTMENT keeps (R104, R105). -/
def allotmentOk (c : LevCfg) (a : Allotment) : Prop :=
  ceilingsOk a.ceilings ∧ a.assist ≤ a.ceilings.raise ∧ a.allowance ≤ 4000
    ∧ (a.hold = true →
      a.ceilings.left = 0 ∧ a.ceilings.right = 0 ∧ a.ceilings.raise = 0 ∧ a.ceilings.lower ≤ c.holdLower ∧ a.assist = 0)

/-- The limit evaluator: its ceilings are percentages, and so is every value of its latest ALLOTMENT (R90, R104). -/
def limitsOk (s : State) : Prop :=
  s.settings.lev.fallback ≤ 100 ∧ s.epc.allowance ≤ 4000 ∧ ceilingsOk s.lev.lastCeil
    ∧ (∀ j, s.lev.join = some j → ∀ c, j.ceilings = some c → ceilingsOk c)
    ∧ ∀ a, s.lev.latest = some a → allotmentOk s.settings.lev a

/-- A plan that names a lead (R116). -/
def leadNamed : Plan → Bool
  | .none => false
  | .twin => false
  | .cooldown => true
  | .single => true
  | .starting => true

/-- The engine plan (R116, R117, R130): a lead exactly in the plan states that name one, a starting engine exactly in
PLAN_STARTING, neither ever FAILED or EXCLUDED; with the key-off mark set, PLAN_NONE and both engines commanded STOP;
the trail of a cooldown, and the running engine of a swap, not FAILED. -/
def planOk (p : Epc) : Prop :=
  (p.lead.isSome = leadNamed p.plan) ∧ (p.starting.isSome = decide (p.plan = .starting))
    ∧ (∀ e, p.lead = some e → p.avail e = .available)
    ∧ (∀ e, p.starting = some e → p.avail e = .available)
    ∧ (p.keyOff = true → p.plan = .none ∧ p.e1.run = false ∧ p.e2.run = false)
    ∧ (∀ e, p.plan = .cooldown → p.lead = some e → (p.eng (otherEngine e)).failed = false)
    ∧ (∀ e, p.starting = some e → p.swap = true ∨ p.lead = some (otherEngine e) → (p.eng (otherEngine e)).failed = false)

/-- A reminder item against its meter (R140): its mark does not exceed the meter, and its state is the classification
of the elapsed count. -/
def itemOk (m : Smu) (i : Item) : Prop :=
  (i.defn.inUse = true → i.mark ≤ m.meter i.defn.basis) ∧ i.state = i.classify (m.meter i.defn.basis)

/-- Meters and items (R133, R139, R140, R142). -/
def itemsOk (s : State) : Prop :=
  s.smu.meters.length = 8 ∧ (∀ v ∈ s.smu.meters, v ≤ 4294967295) ∧ s.smu.items.length = 32
    ∧ (∀ i ∈ s.smu.items, itemOk s.smu i) ∧ s.smu.summary = summaryOf s.smu.items

/-- The longest suspension of an entry's owner (R79, R80). -/
def suspensionTop (i : Nat) : Nat := if i < 8 then 3600 else 600

/-- Suspensions (R71, R79, R80): sixteen entries, each with no suspension or one of at least a second and at most the
longest its owner may set. -/
def suspensionsOk (s : State) : Prop :=
  s.env.entries.length = 16
    ∧ ∀ i e n, s.env.entries[i]? = some e → e.suspension = some n → 1 ≤ n ∧ n ≤ suspensionTop i

/-- The allowance is the one R128 gives for the engines as they stand, and the commands are those of R117. -/
def allowanceOk (s : State) : Prop :=
  s.epc.allowance = s.epc.allowanceOf s.settings.epc
    ∧ ∀ e, (s.epc.eng e).run = s.epc.runFor e

/-- In HOLD the engines stand low (R129): while the hold mark is set the allowance is at most hold_kW, and every engine
commanded RUN is commanded idle_rpm. -/
def heldLowOk (s : State) : Prop :=
  s.epc.hold = true →
    s.epc.allowance ≤ s.settings.epc.holdKw
      ∧ ∀ e, (s.epc.eng e).run = true → (s.epc.eng e).cmdSpeed = s.settings.epc.idleRpm

/-- A record restores the content `x` (R166). -/
def restores (s : State) (r : RecordId) : Option Content := (s.nvc.array.pair r).restored r

/-! ## The starting state (R17, R32, R48, R68, R87, R108, R132, R150, R163, R171, R173, R188, R196) -/

/-- SPU, GEU and CYT as they start (R17, R32, R48). -/
def frontStarted (s : State) : Prop :=
  s.spu.poll = none ∧ s.spu.replies = [] ∧ s.spu.disagree = false ∧ s.spu.overrun = false ∧ s.spu.counter = 0
    ∧ s.spu.slots.length = s.settings.spu.slots.length
    ∧ (∀ (i : Nat) (c : SlotCfg) (r : SlotRun), s.settings.spu.slots[i]? = some c → s.spu.slots[i]? = some r →
        (c.role = .unused → r.state = .unused)
        ∧ (c.role ≠ .unused → r = { held := 0, age := s.settings.spu.holdFrames + 1, state := .invalid, reason := none
                                    missing := false, range := false }))
    ∧ s.geu.prev = none ∧ s.geu.current = none ∧ s.geu.rangeFlag = false
    ∧ s.cyt.phase = .idle ∧ s.cyt.timer = 0 ∧ s.cyt.swingRun = 0 ∧ s.cyt.onGrade = 0 ∧ s.cyt.span = none
    ∧ s.cyt.travel = false ∧ s.cyt.pcu = .unheard

/-- The zones of a record of the array: the definitions it restores, or the empty state for one that fails its check
(R70, R87, R166). -/
def zonesFrom (a : NvArray) (r : RecordId) : List ZoneDef :=
  match (a.pair r).restored r with
  | some (.zones l) => l
  | _ => List.replicate 8 emptyZone

/-- The items of the ITEMS record, each with its mark: what it restores, or no item in use (R150, R166). -/
def itemsFrom (a : NvArray) : List (ItemDef × Nat) :=
  match (a.pair .items).restored .items with
  | some (.items l) => l
  | _ => List.replicate 32 (ItemDef.empty, 0)

/-- The meters of the METERS record: what it restores, or eight zeros (R150, R166). -/
def metersFrom (a : NvArray) : List Nat :=
  match (a.pair .meters).restored .meters with
  | some (.meters l) => l
  | _ => List.replicate 8 0

/-- The CONFIG record restores the usable configuration `f` (R167): its check, its layout version, every field. -/
def usableConfig (a : NvArray) (f : List Int) : Prop :=
  (a.pair .config).restored .config = some (.config Config.layoutVersion f) ∧ firstFailingField f = none

/-- GGU, ENV and LEV as they start from the array `a` (R68, R87, R108). -/
def aidsStarted (a : NvArray) (s : State) : Prop :=
  s.ggu.targets = [] ∧ s.ggu.passes = 0 ∧ s.ggu.join = none ∧ s.ggu.guidance = s.settings.ggu.guidanceDefault
    ∧ s.ggu.assist = s.settings.ggu.assistDefault
    ∧ s.ggu.record = { frame := 0, targetId := 0, d := 0, floorLimited := false, depth := 0, passes := 0
                       cue := if s.settings.ggu.guidanceDefault then .noTarget else .off }
    ∧ s.env.entries.map ZoneEntry.effective = zonesFrom a .zonesSite ++ zonesFrom a .zonesOper
    ∧ (∀ e ∈ s.env.entries, e.pending = none ∧ e.suspension = none ∧ e.recorded = .clear ∧ e.suspMark = false)
    ∧ s.env.unstoredSite = false ∧ s.env.unstoredOper = false ∧ s.env.latest = none
    ∧ s.lev.join = none ∧ s.lev.lastCeil = openCeilings ∧ s.lev.lastRate = 0 ∧ s.lev.prevEval = .none
    ∧ s.lev.zones.length = 16
    ∧ (∀ z ∈ s.lev.zones,
        z.state = .clear ∧ z.suspended = false ∧ z.deep = false ∧ z.breachRecorded = false ∧ z.copy = none)
    ∧ s.lev.latest = none

/-- An engine record as it starts: commanded RUN at the rated speed of the mode, or STOP with the key off (R130, R132,
R171). -/
def engineStarted (s : State) (r : EngineRec) : Prop :=
  r.reported = .unknown ∧ r.speed = 0 ∧ r.load = 0 ∧ r.fuel = 65535 ∧ r.failed = false ∧ r.excluded = false
    ∧ r.hasRun = false ∧ r.run = s.lines.key
    ∧ r.cmdSpeed = (if s.lines.key then s.settings.epc.ratedSpeed s.settings.epc.modeDefault else 0)

/-- The EPC as it starts (R132), the key-off mark set with the key off (R171). -/
def planStarted (s : State) : Prop :=
  engineStarted s s.epc.e1 ∧ engineStarted s s.epc.e2
    ∧ s.epc.plan = .none ∧ s.epc.lead = none ∧ s.epc.starting = none ∧ s.epc.swap = false ∧ s.epc.runSeen = false
    ∧ s.epc.keyOff = !s.lines.key ∧ s.epc.hold = false ∧ s.epc.capEconomy = false
    ∧ s.epc.modeReq = s.settings.epc.modeDefault ∧ s.epc.autoSingle = s.settings.epc.autoSingleDefault
    ∧ s.epc.autoIdle = s.settings.epc.autoIdleDefault
    ∧ s.epc.filter = 0 ∧ s.epc.lowCount = 0 ∧ s.epc.dwell = 0 ∧ s.epc.cooldown = 0 ∧ s.epc.startTimer = 0
    ∧ s.epc.idle = false ∧ s.epc.neutralCount = 0 ∧ s.epc.pcu = .unheard ∧ s.epc.demand = 0 ∧ s.epc.neutral = false
    ∧ s.epc.allowance = 0 ∧ s.epc.tripFuel = 0 ∧ s.epc.tripResidue = 0 ∧ s.epc.tripCycles = 0

/-- The SMU as it starts from the array `a` (R150): its items restored, each mark no more than its meter, and
classified; the summary of R142, formed from them, handed to the EPC. -/
def metersStarted (a : NvArray) (s : State) : Prop :=
  (∀ r ∈ s.smu.residues, r = 0) ∧ s.smu.travel = false ∧ s.smu.snapCount = 0 ∧ s.smu.snapDue = false
    ∧ s.smu.items.length = (itemsFrom a).length
    ∧ (∀ (n : Nat) (x : ItemDef × Nat) (i : Item), (itemsFrom a)[n]? = some x → s.smu.items[n]? = some i →
        i.defn = x.1 ∧ i.mark = (if x.1.inUse then min x.2 (s.smu.meter x.1.basis) else x.2)
          ∧ i.state = i.classify (s.smu.meter x.1.basis) ∧ i.acked = false)
    ∧ s.smu.summary = summaryOf s.smu.items ∧ (.consequenceSummary s.smu.summary : Instr) ∈ s.inFlight

/-- A notice table as it starts: one FAULT_RECORDED for each start-up record, HOLD_ENTERED where the part is HELD (R156,
R159, R163, R181, R196). -/
def noticesStarted (s : State) (counts : List Nat) : Prop :=
  ∀ k : NoticeKind, noticeCount counts k =
    (match k with
      | .faultRecorded => s.fhu.ring.length
      | .holdEntered => bit s.fhu.held.isSome
      | _ => 0)

/-- The ports and the service link as they start (R188, R196). -/
def linksStarted (s : State) : Prop :=
  s.portA.on = true ∧ s.portA.errors = 0 ∧ s.portA.results = [] ∧ s.portA.assembly = none
    ∧ s.portA.guidance = { waiting := none, replacement := none }
    ∧ s.portA.status = { waiting := none, replacement := none }
    ∧ s.portA.cab = { age := 0, state := .unheard } ∧ noticesStarted s s.portA.counts
    ∧ s.portB = PortB.start
    ∧ s.sli.buffer = .empty true ∧ s.sli.request = none ∧ s.sli.lastTag = 0 ∧ s.sli.table = .ident ∧ s.sli.index = 0
    ∧ noticesStarted s s.sli.counts

/-- The configuration the blocks run on after a start from the array `a` (R167, R194): a usable record's, or the built-in
one, with the part HELD. -/
def configStarted (a : NvArray) (s : State) : Prop :=
  (∀ f, usableConfig a f →
      s.settings = Settings.ofFields f ∧ s.sli.config = f ∧ s.nvc.image = some f ∧ s.nvc.builtIn = false)
    ∧ ((∀ f, ¬usableConfig a f) →
      s.settings = Settings.builtIn ∧ s.sli.config = builtInFields ∧ s.nvc.image = none ∧ s.nvc.builtIn = true
        ∧ s.fhu.held.isSome = true)

/-- The reports of a start from the array `a`, code and detail (R166, R167), oldest first: NV_RESTORE_BAD for each restore
that failed its check, then CFG_INVALID, in the order of log 9. -/
def startReports (a : NvArray) : List (FaultCode × Int) :=
  (failedRecords a).map (fun r => (.nvRestoreBad, (r.number : Int)))
    ++ (configFault a).toList.map (fun k => (.cfgInvalid, (k : Int)))

/-- A record of the fault ring made before the first pose frame, with the plan state PLAN_NONE (R132, R155); it is a second
fault when CFG_INVALID came on a restored hold (R161, R163). -/
def startRecord (a : NvArray) (x : FaultRecord) : Prop :=
  x.frame = 0 ∧ x.slew = 0 ∧ x.reach = 0 ∧ x.height = 0 ∧ x.pose = .none ∧ x.plan = .none
    ∧ (x.second = true ↔ x.code = .cfgInvalid ∧ ((restoredHold a).getD none).isSome = true)

/-- The FHU as it starts from the array `a` (R163): nothing active, nothing unstored, a record for each restore that
failed its check (R166) and one for a CFG_INVALID (R167), which enters HOLD or, with a hold restored, raises the escalation
count and keeps its cause. -/
def faultsStarted (a : NvArray) (s : State) : Prop :=
  s.fhu.active = [] ∧ s.fhu.unstored = false
    ∧ s.fhu.ring.map (fun x => (x.code, x.detail)) = (startReports a).reverse
    ∧ (∀ i x, s.fhu.ring[i]? = some x → x.seq.toNat + i = s.fhu.ring.length ∧ startRecord a x)
    ∧ s.fhu.seq.toNat = s.fhu.ring.length + 1
    ∧ (match (restoredHold a).getD none, configFault a with
      | held, none => s.fhu.held = held ∧ s.fhu.escalation = 0
      | none, some k => s.fhu.held = some { code := .cfgInvalid, detail := k } ∧ s.fhu.escalation = 0
      | some c, some _ => s.fhu.held = some c ∧ s.fhu.escalation = 1)
    ∧ (s.fhu.held.isSome = true → (.levHoldEntry : Instr) ∈ s.inFlight ∧ (.epcHoldEntry : Instr) ∈ s.inFlight)

/-- The NVC as it starts from the array `a` (R167, R171, R173): the array stands, the restart-pending mark and the key-off
list are clear, RUN unless the key reads off, and nothing is stored but a hold just entered and what KEY-off asks for. -/
def storesStarted (a : NvArray) (s : State) : Prop :=
  s.nvc.array = a ∧ s.nvc.restartPending = false ∧ s.nvc.keyList = []
    ∧ s.nvc.builtIn = (configFault a).isSome ∧ s.nvc.image = configImage a
    ∧ (s.nvc.power = .run ↔ s.lines.key = true)
    ∧ (s.lines.key = true → configFault a = none → s.nvc.queue = [] ∧ s.nvc.write = none)

/-- Every block is in its starting state, from the array `a`. -/
def startedOk (a : NvArray) (s : State) : Prop :=
  s.supply = true ∧ frontStarted s ∧ aidsStarted a s ∧ planStarted s ∧ metersStarted a s ∧ linksStarted s
    ∧ configStarted a s ∧ faultsStarted a s ∧ storesStarted a s

/-! ## Entries of the service tables (R74, R147, R149, R157, R191) -/

/-- From byte `pos` on an entry holds the number `v` in `n` bytes, low byte first (12, opening). -/
def holdsNat (b : List Byte) (pos n v : Nat) : Prop :=
  ∀ j, j < n → b[pos + j]? = some (BitVec.ofNat 8 (v / 256 ^ j))

/-- From byte `pos` on an entry holds the signed number `v` in `n` bytes, low byte first. -/
def holdsInt (b : List Byte) (pos n : Nat) (v : Int) : Prop := holdsNat b pos n (v % (256 : Int) ^ n).toNat

/-- The low `k` bits of byte `pos` hold the number `v`. -/
def holdsBits (b : List Byte) (pos k v : Nat) : Prop := ∃ x, b[pos]? = some x ∧ x.toNat % 2 ^ k = v

/-- The fault codes by code number, from 1 (R153). -/
def faultCodes : List FaultCode :=
  [.frameOverrun, .sensorMissing, .sensorRange, .sensorDisagree, .geometryRange, .poseLostMoving, .zoneBreach,
    .breachDeep, .engineLost, .startFailed, .gov1Stale, .gov2Stale, .pcuStale, .cabStale, .busAOff, .busBOff,
    .nvWriteFail, .nvRestoreBad, .cfgInvalid]

/-- Byte `pos` holds the number of a fault code. -/
def holdsCode (b : List Byte) (pos : Nat) (c : FaultCode) : Prop :=
  ∃ n, faultCodes[n]? = some c ∧ holdsNat b pos 1 (n + 1)

/-- The IDENT entry (R191). -/
def identShown (s : State) (b : List Byte) : Prop :=
  holdsNat b 0 2 7420 ∧ holdsNat b 2 1 1 ∧ holdsNat b 3 1 1 ∧ holdsNat b 4 1 136 ∧ holdsBits b 5 1 (bit s.nvc.builtIn)
    ∧ holdsNat b 6 2 0

/-- A ZONES entry (R74). -/
def zoneShown (s : State) (i : Nat) (e : ZoneEntry) (b : List Byte) : Prop :=
  let d := e.effective
  holdsNat b 0 1 (match d.kind with | .slewWall => 0 | .ceiling => 1 | .floor => 2)
    ∧ holdsNat b 1 1 (match d.mode with | .off => 0 | .warn => 1 | .enforce => 2)
    ∧ holdsNat b 2 2 d.s.toNat ∧ holdsNat b 4 2 d.e.toNat ∧ holdsNat b 6 2 d.reachMin ∧ holdsNat b 8 2 d.reachMax
    ∧ holdsInt b 10 2 d.limit ∧ holdsNat b 12 2 d.stop ∧ holdsNat b 14 2 d.band
    ∧ holdsNat b 16 1 (match e.recorded with | .clear => 0 | .approach => 1 | .limiting => 2 | .breached => 3)
    ∧ holdsNat b 17 1 (bit e.suspMark + 2 * bit e.pending.isSome
        + 4 * bit (if i < 8 then s.env.unstoredSite else s.env.unstoredOper))
    ∧ holdsNat b 18 2 (e.suspension.getD 0) ∧ holdsNat b 20 1 (if i < 8 then 0 else 1) ∧ holdsNat b 21 1 i
    ∧ holdsNat b 22 2 0

/-- An ITEMS entry (R147). -/
def itemShown (x : Item) (b : List Byte) : Prop :=
  let state : Nat := match x.state with | none => 0 | some .ok => 0 | some .dueSoon => 1 | some .due => 2 | some .overdue => 3
  holdsNat b 0 1 (bit x.defn.inUse + 2 * bit x.defn.operatorReset + 4 * bit x.acked + 16 * state)
    ∧ holdsNat b 1 1 x.defn.basis
    ∧ holdsNat b 2 1 (match x.defn.consequence with | .none => 0 | .capEconomy => 1 | .excludeE1 => 2 | .excludeE2 => 3)
    ∧ b[3]? = some x.defn.label ∧ holdsNat b 4 4 x.defn.interval ∧ holdsNat b 8 4 x.defn.lead
    ∧ holdsNat b 12 4 x.defn.grace ∧ holdsNat b 16 4 x.mark

/-- A METERS entry (R149, R191): the residue is that of a meter that has one; meter 6 has none (R133, log 36). -/
def meterShown (s : State) (i : Nat) (b : List Byte) : Prop :=
  holdsNat b 0 1 i ∧ holdsNat b 1 1 0 ∧ (i ≠ 6 → holdsNat b 2 2 (s.smu.residue i)) ∧ holdsNat b 4 4 (s.smu.meter i)

/-- A FAULTS entry that holds a record (R157). -/
def faultShown (r : FaultRecord) (b : List Byte) : Prop :=
  holdsNat b 0 4 r.seq.toNat ∧ holdsCode b 4 r.code
    ∧ holdsNat b 5 1 ((match faultClass r.code with | .advisory => 0 | .recoverable => 1 | .latching => 2)
        + 4 * bit r.second + 8 * (match r.pose with | .none => 0 | .valid => 1 | .invalid => 2))
    ∧ holdsNat b 6 1 (match r.plan with | .none => 0 | .twin => 1 | .cooldown => 2 | .single => 3 | .starting => 4)
    ∧ holdsNat b 7 1 0 ∧ holdsInt b 8 2 r.detail ∧ holdsNat b 10 4 r.frame.toNat ∧ holdsNat b 14 2 r.slew.toNat
    ∧ holdsInt b 16 2 r.reach ∧ holdsInt b 18 2 r.height ∧ holdsNat b 20 4 0

/-- A TARGETS entry that holds a target (R191). The codes of its auto-advance byte are a DESIGN CHOICE (log 34). -/
def targetShown (x : Target) (b : List Byte) : Prop :=
  holdsNat b 0 1 1 ∧ holdsInt b 1 1 x.id ∧ holdsInt b 2 2 x.r0 ∧ holdsInt b 4 2 x.z0 ∧ holdsInt b 6 2 x.slope
    ∧ holdsInt b 8 2 x.tol ∧ holdsInt b 10 2 x.near ∧ holdsInt b 12 2 x.guard ∧ holdsInt b 14 1 x.auto
    ∧ holdsInt b 15 1 x.passCycles ∧ holdsInt b 16 1 x.onGradeFrames ∧ holdsNat b 18 6 0

/-- The STATUS entry (R191). Its attention label is of the items as they stand, a DESIGN CHOICE (log 37). -/
def statusShown (s : State) (b : List Byte) : Prop :=
  let mode (m : Mode) : Nat := match m with | .economy => 0 | .standard => 1 | .power => 2
  let avail (e : Engine) : Nat := match s.epc.avail e with | .available => 0 | .excluded => 1 | .failed => 2
  let count (st : ItemState) : Nat := s.smu.items.countP fun i => i.state == some st
  let asks (st : ItemState) (i : Item) : Bool := i.state == some st && !i.acked
  let label := ((s.smu.items.find? (asks .overdue)).or ((s.smu.items.find? (asks .due)).or
    (s.smu.items.find? (asks .dueSoon)))).map fun i => i.defn.label
  holdsNat b 0 1 (bit s.fhu.held.isSome)
    ∧ (∀ c, s.fhu.held = some c → holdsCode b 1 c.code ∧ holdsInt b 2 2 c.detail) ∧ (s.fhu.held = none → holdsNat b 1 1 0)
    ∧ holdsNat b 4 1 s.fhu.escalation
    ∧ holdsBits b 5 4 (bit s.fhu.unstored + 2 * bit s.env.unstoredSite + 4 * bit s.env.unstoredOper
        + 8 * bit s.nvc.restartPending)
    ∧ holdsNat b 6 1 (match s.nvc.power with | .run => 0 | .shuttingDown => 1 | .readyOff => 2)
    ∧ holdsNat b 7 1 (match s.epc.plan with | .none => 0 | .twin => 1 | .cooldown => 2 | .single => 3 | .starting => 4)
    ∧ holdsNat b 8 1 (match s.epc.lead with | none => 0 | some .e1 => 1 | some .e2 => 2)
    ∧ holdsNat b 9 1 (avail .e1) ∧ holdsNat b 10 1 (avail .e2) ∧ holdsNat b 11 1 (mode s.epc.effMode)
    ∧ holdsNat b 12 1 (mode s.epc.modeReq) ∧ holdsNat b 13 1 (count .ok) ∧ holdsNat b 14 1 (count .dueSoon)
    ∧ holdsNat b 15 1 (count .due) ∧ holdsNat b 16 1 (count .overdue)
    ∧ holdsNat b 17 1 (s.smu.items.countP fun i => asks .dueSoon i || asks .due i || asks .overdue i)
    ∧ (∀ l, label = some l → b[18]? = some l) ∧ holdsBits b 19 1 (bit label.isSome)
    ∧ (∀ r, s.geu.current = some r → holdsNat b 20 4 r.pose.frame.toNat)
    ∧ holdsNat b 24 2 (if s.epc.tripCycles = 0 then 65535 else min 65534 (100 * s.epc.tripFuel / s.epc.tripCycles))
    ∧ holdsNat b 26 2 s.epc.e1.speed ∧ holdsNat b 28 2 s.epc.e2.speed ∧ holdsNat b 30 1 s.epc.e1.load
    ∧ holdsNat b 31 1 s.epc.e2.load

/-- What entry `i` of a table holds as its owner has it (R74, R147, R149, R157, R191). A field to which no rule gives a
value is not named: it is a free value (log 11). -/
def entryShown (t : Table) (i : Nat) (s : State) (b : List Byte) : Prop :=
  b.length = entrySize t
    ∧ match t with
      | .ident => identShown s b
      | .config => (i = 0 → holdsNat b 0 4 0) ∧ (1 ≤ i → holdsInt b 0 4 (s.sli.config.getD (i - 1) 0))
      | .zones => ∀ e, s.env.entries[i]? = some e → zoneShown s i e b
      | .items => itemShown (s.smu.item i) b
      | .meters => meterShown s i b
      | .faults => (∀ r, s.fhu.ring[i]? = some r → faultShown r b) ∧ (s.fhu.ring[i]? = none → ∀ x ∈ b, x = 0)
      | .targets =>
        (∀ x, s.ggu.targets[i]? = some x → targetShown x b) ∧ (s.ggu.targets[i]? = none → holdsNat b 0 1 0 ∧ holdsNat b 18 6 0)
          ∧ (i = 0 → holdsNat b 17 1 s.ggu.passes)
      | .status => statusShown s b

/-! ## Entries written through the service link (R74, R147, R194) -/

/-- Entry `j` of the data of a write of `size`-byte entries (R192). -/
def pieceOf (size j : Nat) (data : List Byte) : List Byte := (data.drop (j * size)).take size

/-- The fields of an ITEMS entry are in range (R147, step 1). -/
def itemFits (b : List Byte) : Bool :=
  decide ((b.getD 1 0).toNat ≤ 7) && decide ((b.getD 2 0).toNat ≤ 3) && decide (1 ≤ natAt b 4 4)
    && decide (natAt b 4 4 ≤ 1000000) && decide (natAt b 8 4 ≤ natAt b 4 4) && decide (natAt b 12 4 ≤ natAt b 4 4)

/-- The item an ITEMS entry defines in place of `old` (R147, step 3): its fields, the mark at the meter where it comes into
use or its basis changes, the acknowledged flag clear, classified anew. -/
def itemWrittenAs (meter : Nat → Nat) (old : Item) (b : List Byte) (i : Item) : Prop :=
  let basis := (b.getD 1 0).toNat
  let cons := (b.getD 2 0).toNat
  i.defn = { inUse := (b.getD 0 0).getLsbD 0, operatorReset := (b.getD 0 0).getLsbD 1, basis := basis, label := b.getD 3 0
             interval := natAt b 4 4, lead := natAt b 8 4, grace := natAt b 12 4
             consequence := if cons = 0 then .none else if cons = 1 then .capEconomy else if cons = 2 then .excludeE1
               else .excludeE2 }
    ∧ i.mark = (if old.defn.inUse = false ∧ i.defn.inUse = true ∨ old.defn.basis ≠ basis then meter basis else old.mark)
    ∧ i.acked = false ∧ i.state = i.classify (meter basis)

/-- The change of an item raises REMINDER_CHANGED: another classification, or in use before and after on another basis
(R141). -/
def reminderOf (old new : Item) : List NoticeKind :=
  if old.state ≠ new.state ∨ (old.defn.inUse = true ∧ new.defn.inUse = true ∧ old.defn.basis ≠ new.defn.basis) then
    [.reminderChanged]
  else []

/-- What the owner of the cursor table answers to a written entry for index `i` (R74, R147, R194): for ITEMS, `takes` says
whether the store queue takes its request. -/
def writeResult (t : Table) (takes : Bool) (i : Nat) (b : List Byte) : ResultCode :=
  match t with
  | .zones => if 8 ≤ i then .refusedNotOwner else if (zoneDefOf (zoneFieldsAt b)).isSome then .accepted else .refusedRange
  | .items => if !itemFits b then .refusedRange else if takes then .accepted else .refusedBusy
  | .config => if i = 0 then .refusedRange else .accepted
  | _ => .refusedNotOwner

/-! ## The ALLOTMENT of a frame (R104, R105, R107) -/

/-- The ALLOTMENT built for frame `m` from its ceilings and an assist request: outside HOLD the ceilings, the assist capped
at the raise ceiling and 0 for an invalid pose, the allowance of the EPC; in HOLD the hold values. -/
def allotmentBuilt (s : State) (m : FrameNo) (valid : Bool) (c : Ceilings) (assist : Nat) (a : Allotment) : Prop :=
  a.frame = m.setWidth 16 ∧ a.poseValid = valid ∧ a.hold = s.fhu.held.isSome
    ∧ (s.fhu.held = none →
        a.ceilings = c ∧ a.assist = (if valid then min assist c.raise else 0) ∧ a.allowance = s.epc.allowance)
    ∧ (s.fhu.held.isSome = true →
        a.ceilings = { left := 0, right := 0, raise := 0, lower := min c.lower s.settings.lev.holdLower }
          ∧ a.assist = 0 ∧ a.allowance = min s.epc.allowance s.settings.epc.holdKw)

/-! ## An engine that becomes EXCLUDED (R124) -/

/-- The first case of R124 that matches, for an engine `e` that has become EXCLUDED in the EPC `p`, `o` the other engine:
`q` is the EPC it leaves, with the commands and the allowance re-formed. -/
def exclusionMoves (c : EpcCfg) (e o : Engine) (p q : Epc) : Prop :=
  (p.plan = .starting → p.starting = some e →
      (p.avail o = .available → q = Epc.reform c { p with
        plan := .single, lead := some o, starting := none, swap := false, startTimer := 0 })
      ∧ (p.avail o ≠ .available → q = Epc.reform c { p with
        plan := .twin, lead := none, starting := none, swap := false, startTimer := 0, lowCount := 0 }))
    ∧ (p.plan = .starting → p.starting = some o → p.lead = some e →
      q = Epc.reform c { p with lead := some o, swap := true })
    ∧ (p.plan = .cooldown → p.lead = some e →
      q = Epc.reform c { p with lead := some o, starting := none, cooldown := c.cooldownIntervals })
    ∧ (p.plan = .single → p.lead = some e →
      (p.avail o = .available → p.hold = false → q = Epc.reform c { p with
        plan := .starting, lead := some o, starting := some o, swap := true, startTimer := c.startIntervals })
      ∧ (p.avail o ≠ .available ∨ p.hold = true → q = Epc.reform c { p with
        plan := .twin, lead := none, starting := none, lowCount := 0 }))
    ∧ (p.plan = .none ∨ p.plan = .twin ∨ (p.plan ≠ .starting ∧ p.lead ≠ some e)
        ∨ (p.plan = .starting ∧ p.starting = some o ∧ p.lead ≠ some e) → q = p.reform c)

/-! ## Records of the fault ring (R155) -/

/-- The record the FHU makes of a report in the state `s` (R155): the next sequence number, the report's code, detail and
frame number, else that of the current pose record, the pose of that record, or zeros and NONE before the first, and the
plan state. -/
def recordMade (r : FaultReport) (second : Bool) (s : State) (x : FaultRecord) : Prop :=
  x.seq = s.fhu.seq ∧ x.code = r.code ∧ x.detail = r.detail ∧ x.second = second ∧ x.plan = s.epc.plan
    ∧ (∀ m, r.frame = some m → x.frame = m)
    ∧ (s.geu.current = none →
        (r.frame = none → x.frame = 0) ∧ x.slew = 0 ∧ x.reach = 0 ∧ x.height = 0 ∧ x.pose = .none)
    ∧ ∀ p, s.geu.current = some p →
        (r.frame = none → x.frame = p.pose.frame) ∧ x.slew = p.pose.slew.value ∧ x.reach = p.reach ∧ x.height = p.height
          ∧ x.pose = (if p.pose.valid then .valid else .invalid)

/-- From `s` to `t` the report is recorded at the head of the ring, whose oldest record beyond sixteen is lost, and the
sequence counter goes on by one, passing over 0 (R155). -/
def recorded (r : FaultReport) (second : Bool) (s t : State) : Prop :=
  (∃ x, recordMade r second s x ∧ t.fhu.ring = (x :: s.fhu.ring).take 16)
    ∧ t.fhu.seq = (if s.fhu.seq = 4294967295 then 1 else s.fhu.seq + 1)

/-! ## Notices raised (R181, R195) -/

/-- Port A after notices raised into its table, one after the other (R181). -/
def PortA.raisedAll (l : List NoticeKind) (p : PortA) : PortA := l.foldl (fun q k => q.raised k) p

/-- A service notice table after notices raised into it, one after the other (R195). -/
def countsAfter (l : List NoticeKind) (counts : List Nat) : List Nat := l.foldl noticeRaised counts

/-- From `s` to `t` the notices `cab` are raised into the cab port's table and `link` into the service link's, and nothing
else of port A and of the service link changes. -/
def noticesRaised (cab link : List NoticeKind) (s t : State) : Prop :=
  t.portA = s.portA.raisedAll cab ∧ t.sli = { s.sli with counts := countsAfter link s.sli.counts }

/-- The PLAN_CHANGED of a change of the plan state or of the lead (R116). -/
def planNotices (before after : Epc) : List NoticeKind :=
  if after.plan ≠ before.plan ∨ after.lead ≠ before.lead then [.planChanged] else []

/-- The MODE_CAPPED of a change of the cap that changes the effective mode (R114). -/
def capNotices (before after : Epc) : List NoticeKind :=
  if (after.capEconomy || (after.e1.excluded && after.e2.excluded))
        ≠ (before.capEconomy || (before.e1.excluded && before.e2.excluded)) ∧ after.effMode ≠ before.effMode
    then [.modeCapped] else []

/-- The number of items whose classification differs (R141). -/
def itemsMoved (before after : List Item) : Nat :=
  (List.zip before after).countP fun x => decide (x.1.state ≠ x.2.state)

/-- From `s` to `t` classifications change: REMINDER_CHANGED is raised into both tables, once for each change, and a changed
summary is handed to the EPC (R141, R142). With `once`, each item is classified anew once at most. -/
def remindersRaised (once : Prop) (s t : State) : Prop :=
  (∃ n, noticesRaised (List.replicate n .reminderChanged) (List.replicate n .reminderChanged) s t
      ∧ itemsMoved s.smu.items t.smu.items ≤ n ∧ (once → n = itemsMoved s.smu.items t.smu.items))
    ∧ (t.smu.summary ≠ s.smu.summary → (.consequenceSummary t.smu.summary : Instr) ∈ t.inFlight)

/-! ## Reports of a flag (R10, R16, R26) -/

/-- The report of a fault flag that went from `before` to `after` in a frame: a raising, a clearing, or none. -/
def flagReports (code : FaultCode) (detail : Nat) (frame : FrameNo) (before after : Bool) : List Instr :=
  if before = after then []
  else [.faultReport { code := code, clearing := before, detail := detail, frame := some frame }]

/-! ## Places of the ports (R178, R179) -/

/-- A message waits in this place of port A. -/
def waitsA (p : PortA) : OfferA → Bool
  | .guidance => p.guidance.waiting.isSome
  | .result => p.resultReady
  | .status => p.status.waiting.isSome
  | .notice => p.notice.isSome

/-- A message waits in this place of port B. -/
def waitsB (p : PortB) : OfferB → Bool
  | .allotment => p.allotment.waiting.isSome
  | .demand1 => p.demand1.waiting.isSome
  | .demand2 => p.demand2.waiting.isSome

/-- A place after its transmission has ended (R179): the message left it, or failed and was dropped, in favour of the
replacement; else it waits still. -/
def placeAfter {α : Type} (ok : Bool) (p : Place α) : Place α :=
  { waiting := if ok = true ∨ p.replacement.isSome = true then p.replacement else p.waiting, replacement := none }

/-- The NOTICE place just filled (R181, R182): empty only with every count 0, else with the kind of the highest priority
among the counts above 0, and its count. -/
def noticeChosen (p : PortA) : Prop :=
  (p.notice = none ↔ ∀ k, noticeCount p.counts k = 0)
    ∧ ∀ n, p.notice = some n → n.count = noticeCount p.counts n.kind ∧ 1 ≤ n.count
        ∧ ∀ k, n.kind.priority < k.priority → noticeCount p.counts k = 0

/-- Port A offers the waiting message of the lowest identifier, and none when none waits (R179). -/
def offersLowestA (p : PortA) : Prop :=
  (p.offering = none ↔ ∀ o, waitsA p o = false)
    ∧ ∀ o, p.offering = some o → waitsA p o = true ∧ ∀ q, waitsA p q = true → o.header.1 ≤ q.header.1

/-- Port B offers the waiting message of the lowest identifier, of the two ENGINE_DEMANDs that for GOV1 (R179). -/
def offersLowestB (p : PortB) : Prop :=
  (p.offering = none ↔ ∀ o, waitsB p o = false)
    ∧ ∀ o, p.offering = some o → waitsB p o = true
      ∧ ∀ q, waitsB p q = true → o.header.1 ≤ q.header.1 ∧ (o = .demand2 → q ≠ .demand1)

end Sys2Proof.Machine
end

