-- ==== Sys2Proof/WellFormed.lean ====
section
/-! DEFINITION. Which commands the spec admits: the ranges of their operands, and what makes an arrival the row it is
named for. The machine gives every command a next state, well-formed or not. -/

namespace Sys2Proof

open Sys2Proof.Machine (within takenIn faultClass)

/-- `n` is at most `top`. -/
def upTo (top n : Nat) : Bool := decide (n ≤ top)

/-- A pose frame the SPU forms (R2, R12, R14). -/
def poseFrameOk (p : PoseFrame) : Bool :=
  let five := [p.slew, p.boom, p.arm, p.bucket, p.pitch]
  let bad := five.any fun r => r.state == .invalid
  within 1 255 p.periods && p.late == decide (1 < p.periods) && five.all (fun r => r.state != .unused)
    && p.valid == (!bad && !p.disagree)
    && p.cause == (if bad then (if p.disagree then .both else .angleInvalid)
        else (if p.disagree then .disagree else .none))

/-- A pose record the GEU forms (R25, R28 to R30). -/
def poseRecordOk (r : PoseRecord) : Bool :=
  poseFrameOk r.pose && within 0 32767 r.reach && within (-32768) 32767 r.height && within (-2047) 2047 r.rate
    && (!r.rateUnknown || r.rate == 0) && r.slewInc.isSome == !r.rateUnknown && upTo 32768 (r.slewInc.getD 0)

/-- A zone definition in its ranges (R69, R72). -/
def zoneDefOk (d : ZoneDef) : Bool :=
  upTo 32767 d.reachMin && upTo 32767 d.reachMax && decide (d.reachMin ≤ d.reachMax) && within (-32768) 32767 d.limit
    && Machine.stopInRange d.kind d.stop
    && Machine.bandInRange d.kind d.band

/-- A floor-list entry: one of the sixteen zones, with the ranges of a FLOOR (R60, R69, R76). -/
def floorOk (f : FloorZone) : Bool :=
  upTo 15 f.index && upTo 32767 f.reachMin && upTo 32767 f.reachMax && within (-32768) 32767 f.floorZ
    && upTo 5000 f.stop

/-- A fault report: detail in 16 bits, a clearing of a recoverable code only (R152, R155). -/
def reportOk (r : FaultReport) : Bool :=
  within (-32768) 32767 r.detail && (!r.clearing || decide (Machine.faultClass r.code = .recoverable))

/-- Operands a cab frame of a kind and part carries (R183). -/
def operandCount (kind part : Byte) : Nat :=
  if kind = 9 then (if part = 0 then 4 else 6)
  else if kind = 12 then 5
  else if kind = 13 then 2
  else if kind = 1 ∨ kind = 2 ∨ kind = 3 ∨ kind = 14 ∨ kind = 15 then 1
  else 0

/-- A two-part request kind (R183). -/
def twoPartKind (kind : Byte) : Bool := kind == 9 || kind == 12

/-- The command is one the spec admits. -/
def wellFormed : Instr → Bool
  | .powerOn => true
  | .supplyLoss => true
  | .frameTimerExpiry => true
  | .transferComplete bits => bits.length == 16 || bits.length == 24 || bits.length == 32
  | .geuPoseFrame pose => poseFrameOk pose
  | .cytPoseRecord rec => poseRecordOk rec
  | .cueResult _ _ => true
  | .cytPumpStatus _ => true
  | .cytPcuStaleness => true
  | .cytPcuFreshness => true
  | .gguPoseRecord rec => poseRecordOk rec
  | .floorList _ floors => floors.all floorOk && upTo 16 floors.length
  | .phaseReport _ _ => true
  | .gguCycleEnd onGrade => upTo 255 onGrade
  | .envPoseRecord rec => poseRecordOk rec
  | .suspensionTimerExpiry => true
  | .envCabStaleness => true
  | .stateReport _ states => states.length == 16
  | .levPoseRecord rec => poseRecordOk rec
  | .frameZoneSet _ zones => zones.length == 16 && zones.all fun z => zoneDefOk z.zone
  | .assistRequest _ percent => upTo 100 percent
  | .levHoldEntry => true
  | .levHoldClear => true
  | .planIntervalExpiry => true
  | .epcEngineStatus _ _ load speed fuel => upTo 100 load && upTo 65535 speed && upTo 65535 fuel
  | .epcPumpStatus demand _ => upTo 65535 demand
  | .epcPcuStaleness => true
  | .epcPcuFreshness => true
  | .governorStaleness _ => true
  | .governorFreshness _ => true
  | .consequenceSummary _ => true
  | .epcHoldEntry => true
  | .epcHoldClear => true
  | .epcCycleEnd => true
  | .tripFuelIncrement units => upTo 131068 units
  | .smuOneSecondStep => true
  | .slewIncrement bau => upTo 32768 bau
  | .smuCycleEnd => true
  | .smuPumpStatus _ => true
  | .smuPcuStaleness => true
  | .smuPcuFreshness => true
  | .faultReport report => reportOk report
  | .nvWriteComplete _ => true
  | .keyOff => true
  | .keyOn => true
  | .pwrfailAssert => true
  | .pwrfailDeassert => true
  | .supervisorRestart => true
  | .stepTimerExpiry _ => true
  | .ignoredFrame rx => !takenIn rx
  | .pumpStatus data => data.length == 8
  | .engineStatus _ data => data.length == 8
  | .cabRequest request => request.ops.length == operandCount request.kind request.part
  | .transmissionEnd _ _ => true
  | .busRejoin _ => true
  | .statusTimerExpiry => true
  | .presence _ => true
  | .unknownRequestKind _ kind => decide (15 < kind.toNat)
  | .requestPart0 _ kind ops => twoPartKind kind && ops.length == operandCount kind 0
  | .unmatchedPart1 _ kind ops => twoPartKind kind && ops.length == operandCount kind 1
  | .setMode _ _ => true
  | .autoSingle _ _ => true
  | .autoIdle _ _ => true
  | .tripReset _ => true
  | .guidanceOn _ => true
  | .guidanceOff _ => true
  | .assistOn _ => true
  | .assistOff _ => true
  | .targetLoad _ _ => true
  | .targetAdvance _ => true
  | .targetClear _ => true
  | .zoneEdit _ _ _ => true
  | .zoneSuspend _ _ seconds => upTo 65535 seconds
  | .reminderAck _ item => upTo 255 item
  | .cabItemDone _ item => upTo 255 item
  | .requestBlock block => decide (2 ≤ block.length)
  | .shortBlock block => decide (block.length < 2)
  | .linkBusyRefusal block => decide (2 ≤ block.length)
  | .answerRead => true
  | .maintenanceEnableChange _ => true
  | .unknownOperation => true
  | .levelRefusal => true
  | .selectTable table index => upTo 255 table && upTo 65535 index
  | .readEntries n => upTo 255 n
  | .writeEntries n data => upTo 255 n && upTo 61 data.length
  | .itemDone item => upTo 255 item
  | .meterPreset meter value => upTo 255 meter && upTo 4294967295 value
  | .suspendZone index seconds => upTo 255 index && upTo 65535 seconds
  | .clearHold => true
  | .clearFailed engine => upTo 255 engine
  | .commitConfig => true
  | .restart => true
  | .takeNotice => true
  | .envCabFreshness => true

end Sys2Proof
end

