-- ==== Sys2Proof/Certificates/Slice0/Obligations.lean ====
section
/-! DEFINITION. The statements for the provers. In each, `s.supply = true` says that the part has its supply; a
delivery's command leaves the deliveries in flight (log 2). -/

open Sys2Proof Sys2Proof.Machine

/-! ## The step and the whole machine -/

/-- A step takes the command at the front of the queue and runs it on the state with the queue's rest. -/
def Obligations.StepRunsTheFrontCommand : Prop :=
  ∀ (c : Instr) (rest : List Instr) (s : State),
    step { s with pending := c :: rest } = exec c { s with pending := rest }

/-- Every command answers a next state and leaves the queue as it is; without supply every command but POWER_ON leaves
everything but the lines as it is, and only the five line events change those (log 5). -/
def Obligations.EveryCommandCompletesAndKeepsTheQueue : Prop :=
  (∀ (c : Instr) (s : State), ∃ t, exec c s = .next t ∧ t.pending = s.pending)
    ∧ ∀ (c : Instr) (s : State), s.supply = false → c ≠ .powerOn →
      ∃ l, exec c s = .next { s with lines := l }
        ∧ (c ≠ .keyOff → c ≠ .keyOn → c ≠ .pwrfailAssert → c ≠ .pwrfailDeassert →
            (∀ h, c ≠ .maintenanceEnableChange h) → l = s.lines)

/-- R168: the store queue holds at most four entries and never two for one record; R165: the write in flight is that of
the head entry, never goes to the newer passing copy, and carries the record id, the next generation (1 with no copy
passing, then into copy A) and its check code. Every step keeps this. -/
def Obligations.StoreQueueAndCopiesAreKept : Prop :=
  ∀ s t : State, storesOk s → step s = .next t → storesOk t

/-- R181, R195: every notice count of both tables lies in 0..15; R178: no more than four result places. Every step
keeps this. -/
def Obligations.NoticeCountsStayInRange : Prop :=
  ∀ s t : State, noticesOk s → step s = .next t → noticesOk t

/-- R51, R65: at most two targets, each in its ranges, and a pass counter below the ACTIVE target's pass_cycles. That
the range of auto-advance is the codes 0 and 1 is the model's choice (log 34). Every step keeps this. -/
def Obligations.TargetQueueStaysLegal : Prop :=
  ∀ s t : State, targetsOk s → step s = .next t → targetsOk t

/-- R154, R155, R158, R159: at most sixteen fault records, no fault twice in the active list, and an escalation count
that is 0 while the hold state is CLEAR. Every step keeps this. -/
def Obligations.HoldAndRingStayConsistent : Prop :=
  ∀ s t : State, holdOk s → step s = .next t → holdOk t

/-- R104, R105: in the latest ALLOTMENT every ceiling is a percentage, the boom assist never exceeds the raise ceiling,
and with the hold flag set the hold values stand. Every step keeps this. -/
def Obligations.AllotmentsKeepTheirLimits : Prop :=
  ∀ s t : State, limitsOk s → step s = .next t → limitsOk t

/-- R116: neither a FAILED nor an EXCLUDED engine is ever the lead or the starting engine; a lead and a starting engine
exist exactly in the plan states that name them; R130: the key-off mark keeps PLAN_NONE with both engines commanded
STOP. Every step keeps this. -/
def Obligations.PlanKeepsAFitLead : Prop :=
  ∀ s t : State, planOk s.epc → step s = .next t → planOk t.epc

/-- R128: the pump power allowance is that of the engines as they stand, and R117: each engine's run command is that of
the plan. That a FAILED engine is commanded STOP in every plan state, PLAN_STARTING included, is the model's choice
(log 16). Every step keeps this. -/
def Obligations.AllowanceFollowsTheEngines : Prop :=
  ∀ s t : State, allowanceOk s → step s = .next t → allowanceOk t

/-- R140: for every in-use item the mark does not exceed the meter and the state is the classification of meter less
mark; R142: the consequence summary is that of the items. Every step keeps this. -/
def Obligations.ItemsStayClassified : Prop :=
  ∀ s t : State, itemsOk s → step s = .next t → itemsOk t

/-- R79, R80: a suspension in force has at least one second left, and at most 3600 for a SITE entry or 600 for an
OPERATOR entry. Every step keeps this. -/
def Obligations.SuspensionsStayInTime : Prop :=
  ∀ s t : State, suspensionsOk s → step s = .next t → suspensionsOk t

/-- The state right after reset meets every promise the steps keep. -/
def Obligations.ResetMeetsEveryPromise : Prop :=
  storesOk State.reset ∧ noticesOk State.reset ∧ targetsOk State.reset ∧ holdOk State.reset ∧ limitsOk State.reset
    ∧ planOk State.reset.epc ∧ allowanceOk State.reset ∧ itemsOk State.reset ∧ suspensionsOk State.reset
    ∧ heldLowOk State.reset ∧ powerOk State.reset

/-- R133: no basis meter decreases, except at power-on after a supply loss. -/
def Obligations.MetersNeverDecrease : Prop :=
  ∀ (c : Instr) (s t : State) (k : Nat), itemsOk s → c ≠ .powerOn → c ≠ .supplyLoss → exec c s = .next t →
    s.smu.meter k ≤ t.smu.meter k

/-- R76: an effective copy changes at a pose frame arrival, at a power-on or at a restart, and at no other moment;
the parameters in use change at the start alone. -/
def Obligations.ZonesInForceChangeOnlyAtFrames : Prop :=
  ∀ (c : Instr) (s t : State), c ≠ .powerOn → c ≠ .supplyLoss → c ≠ .supervisorRestart → exec c s = .next t →
    t.settings = s.settings
      ∧ ((∀ r, c ≠ .envPoseRecord r) →
          t.env.entries.map ZoneEntry.effective = s.env.entries.map ZoneEntry.effective)

/-! ## Start and stored records -/

/-- Power-on and a due restart put every block in the starting state of its chapter: a usable CONFIG record is the
configuration the blocks run on, and with none the built-in one is, with the part HELD (R167); the zones and the
items, each mark no more than its meter, are those the records restore (R87, R150); the meters are the METERS record's
at power-on (R150) and stand at a restart (R151); the FHU and the NVC stand after their start-up reports, each
recorded with its code and detail (R155) and announced (R156, R163, R166, R171, R173). That the reports are taken within
the start and in this order, which field a condition that joins several fails on, and the filler residue of meter 6 are
the model's choice (logs 9, 19 and 36). -/
def Obligations.StartPutsEveryBlockInItsStartingState : Prop :=
  (∀ s : State, s.supply = false →
      ∃ t, exec .powerOn s = .next t ∧ startedOk s.nvc.array t ∧ t.smu.meters = metersFrom s.nvc.array
        ∧ t.lines = s.lines)
    ∧ ∀ s : State, s.supply = true → s.restartDue = true →
      ∃ t, exec .supervisorRestart s = .next t ∧ startedOk s.nvc.array t ∧ t.smu.meters = s.smu.meters
        ∧ t.lines = s.lines

/-- R168: a request for a record with its write in flight sets the entry's again mark, one for a waiting record is
absorbed, a head request moving the entry behind the write in flight, or first; a record without an entry joins there
or at the tail, and a full queue refuses it. A service request sets the service mark. R171: a request taken in READY_OFF
returns to SHUTTING_DOWN. R169: a completed write is what its record restores, and no other record changes; a write that
fails verify is reported, with the unstored mark of its owner; either completion raises STORE_DONE for an entry with the
service mark, removes the entry, or with the again mark keeps it, both marks clear, and the head entry's write begins
with the content as it stands (R165). R170: then the first listed record is requested, once. A write that fails verify,
or one cut by a loss of supply (whose copy is free, log 6), leaves the record restoring what it did before, or its new
content. That the next write begins before the listed record is requested, that a completion with no write in flight
changes nothing, and that the restart that falls due is a delivery, which a loss of supply drops, are the model's choice
(logs 17, 22 and 26). -/
def Obligations.WritesKeepAStoredRecord : Prop :=
  let done (s : State) : List NoticeKind :=
    if ∃ e, s.nvc.queue.head? = some e ∧ e.service = true then [.storeDone] else []
  (∀ (r : RecordId) (head service : Bool) (n : Nvc), queueOk n → writeOk n →
      let q := n.requested r head service
      let ahead (e : StoreEntry) (l : List StoreEntry) : List StoreEntry :=
        if n.write = none then e :: l else l.take 1 ++ e :: l.drop 1
      let new : StoreEntry := { record := r, again := false, service := service }
      let stands : Prop := r ∈ n.queue.map StoreEntry.record
      q = { n with queue := q.queue, power := q.power }
      ∧ (stands ∨ n.queue.length < 4 → q.power = (if n.power = .readyOff then .shuttingDown else n.power))
      ∧ (∀ w, n.write = some w → w.record = r → q.queue = n.queue.map (fun e =>
          if e.record = r then { e with again := true, service := e.service || service } else e))
      ∧ (∀ e ∈ n.queue, e.record = r → (∀ w, n.write = some w → w.record ≠ r) →
          (head = true → q.queue =
            ahead { e with service := e.service || service } (n.queue.filter fun x => x.record ≠ r))
          ∧ (head = false → q.queue = n.queue.map (fun x =>
            if x.record = r then { x with service := x.service || service } else x)))
      ∧ (¬stands → n.queue.length < 4 → q.queue = (if head then ahead new n.queue else n.queue ++ [new]))
      ∧ (¬stands → n.queue.length = 4 → q = n))
    ∧ (∀ (s : State) (w : NvWrite) (x : Content), s.supply = true → s.nvc.write = some w → writeChosen s.nvc.array w →
      w.copy.content? = some x → contentFits w.record x = true →
      ∃ t, exec (.nvWriteComplete true) s = .next t ∧ restores t w.record = some x
        ∧ (∀ q, q ≠ w.record → restores t q = restores s q)
        ∧ t = { s with nvc := t.nvc, smu := t.smu, env := t.env, sli := t.sli, inFlight := t.inFlight, fhu := t.fhu }
        ∧ t.smu.meters = s.smu.meters ∧ t.smu.items = s.smu.items ∧ t.env.entries = s.env.entries
        ∧ t.fhu.held = s.fhu.held ∧ noticesRaised [] (done s) s t)
    ∧ (∀ s : State, s.supply = true → storesOk s →
        ∃ t, exec (.nvWriteComplete false) s = .next t ∧ (∀ q, restores t q = restores s q)
          ∧ (s.nvc.write = none → t = s)
          ∧ ∀ w, s.nvc.write = some w → noticesRaised [] (done s) s t
              ∧ (.faultReport { code := .nvWriteFail, clearing := false, detail := w.record.number, frame := none } : Instr)
                  ∈ t.inFlight
              ∧ (s.nvc.keyList = [] →
                  t.env.unstoredSite = (s.env.unstoredSite || w.record == .zonesSite)
                  ∧ t.env.unstoredOper = (s.env.unstoredOper || w.record == .zonesOper)
                  ∧ t.fhu.unstored = (s.fhu.unstored || w.record == .hold)))
    ∧ (∀ (ok : Bool) (e : StoreEntry) (rest : List StoreEntry) (s : State), s.supply = true → storesOk s → powerOk s →
      s.nvc.queue = e :: rest → s.nvc.write.isSome = true →
      let left := (if e.again then [{ e with again := false, service := false }] else []) ++ rest
      ∃ t, exec (.nvWriteComplete ok) s = .next t
        ∧ (s.nvc.keyList = [] → t.nvc.queue = left ∧ t.nvc.keyList = [])
        ∧ (∀ r l, s.nvc.keyList = r :: l →
            (left.head?.map StoreEntry.record = some r → t.nvc.keyList = l
              ∧ t.nvc.queue = left.map (fun x => if x.record = r then { x with again := true } else x))
            ∧ (r ∈ (left.drop 1).map StoreEntry.record → t.nvc.keyList = l ∧ t.nvc.queue = left)
            ∧ (r ∉ left.map StoreEntry.record → left.length < 4 →
                t.nvc.keyList = l ∧ t.nvc.queue = left ++ [{ record := r, again := false, service := false }])
            ∧ (r ∉ left.map StoreEntry.record → left.length = 4 →
                t.nvc.keyList = s.nvc.keyList ∧ t.nvc.queue = left))
        ∧ t.nvc.write.map NvWrite.record = t.nvc.queue.head?.map StoreEntry.record
        ∧ (∀ w, t.nvc.write = some w →
            writeChosen t.nvc.array w ∧ w.copy.content? = some (t.contentOf w.record))
        ∧ t.nvc.power =
            (if s.nvc.power = .shuttingDown ∧ t.nvc.queue = [] ∧ t.nvc.keyList = [] then .readyOff else s.nvc.power)
        ∧ (s.nvc.restartPending = true → t.nvc.queue = [] → (.supervisorRestart : Instr) ∈ t.inFlight))
    ∧ ∀ s : State, s.supply = true → storesOk s →
        ∃ t, exec .supplyLoss s = .next t ∧ t.supply = false ∧ t.nvc.write = none ∧ t.inFlight = []
          ∧ ∀ q, restores t q = restores s q
              ∨ ∃ w, s.nvc.write = some w ∧ w.record = q ∧ restores t q = w.copy.content?

/-! ## Sensor ring -/

/-- R1, R2: a frame timer expiry starts a poll when IDLE; while POLLING it adds a period, saturating at 255, sets the
overrun flag, and reports FRAME_OVERRUN when that was clear. R5: a transfer that completes before the last one keeps its
word in the reply area and starts the next used slot's transfer; the slot table and everything else is unchanged. -/
def Obligations.PollsStartAndKeepTheirReplies : Prop :=
  (∀ s : State, s.supply = true → s.spu.poll = none →
      exec .frameTimerExpiry s = .next { s with
        spu := { s.spu with poll := some s.settings.spu.usedSlots, periods := 1, replies := [] } })
    ∧ (∀ (s : State) (l : List Nat), s.supply = true → s.spu.poll = some l →
      exec .frameTimerExpiry s = .next { s with
        spu := { s.spu with periods := min 255 (s.spu.periods + 1), overrun := true }
        inFlight := s.inFlight ++
          (if s.spu.overrun then []
           else [.faultReport { code := .frameOverrun, clearing := false, detail := 0, frame := some (s.spu.counter + 1) }]) })
    ∧ ∀ (s : State) (k j : Nat) (rest : List Nat) (c : SlotCfg) (bits : List Bool),
      s.supply = true → s.spu.poll = some (k :: j :: rest) → s.settings.spu.slots[k]? = some c →
      exec (.transferComplete bits) s = .next { s with
        spu := { s.spu with poll := some (j :: rest), replies := s.spu.replies ++ [(k, c.assemble bits)] } }

/-- R1, R5, R8 to R16: the last transfer closes the poll: IDLE, the counter one on, every used slot closed with its
reply, the boom cross-check made where both boom slots are FRESH, each change of a fault flag reported (in an order of
the model's choice, log 28), and one pose frame, numbered with the new count, delivered after the reports; only the
SPU and the deliveries change. -/
def Obligations.LastTransferDeliversThePoseFrame : Prop :=
  ∀ (s : State) (k : Nat) (c : SlotCfg) (bits : List Bool),
    s.supply = true → s.spu.poll = some [k] → s.settings.spu.slots[k]? = some c →
    ∃ t p, exec (.transferComplete bits) s = .next t
      ∧ t = { s with spu := t.spu, inFlight := t.inFlight }
      ∧ t.spu.poll = none ∧ t.spu.replies = [] ∧ t.spu.counter = s.spu.counter + 1
      ∧ t.spu.overrun = (if s.spu.periods = 1 then false else s.spu.overrun)
      ∧ (∀ (i : Nat) (ci : SlotCfg) (r : SlotRun), s.settings.spu.slots[i]? = some ci → s.spu.slots[i]? = some r →
          (ci.role = .unused → t.spu.slots[i]? = some r)
          ∧ (ci.role ≠ .unused → ∀ w,
              (s.spu.replies ++ [(k, c.assemble bits)]).find? (fun x => x.1 == i) = some (i, w) →
              t.spu.slots[i]? = some (r.closed s.settings.spu.holdFrames ci w)))
      ∧ (∀ (i j : Nat) (b x : SlotRun), s.settings.spu.slotOfRole .boom = some i →
          s.settings.spu.slotOfRole .boomCheck = some j → t.spu.slots[i]? = some b → t.spu.slots[j]? = some x →
          (b.state = .fresh → x.state = .fresh →
            p.disagree = decide (s.settings.spu.checkTol < (b.held - x.held).toInt.natAbs)
              ∧ t.spu.disagree = p.disagree)
          ∧ p.check = some { value := x.held, state := x.state }
          ∧ (b.state ≠ .fresh ∨ x.state ≠ .fresh → p.disagree = false ∧ t.spu.disagree = s.spu.disagree))
      ∧ (s.settings.spu.slotOfRole .boomCheck = none →
          p.check = none ∧ p.disagree = false ∧ t.spu.disagree = s.spu.disagree)
      ∧ t.inFlight = s.inFlight
          ++ (List.zip s.spu.slots t.spu.slots).zipIdx.flatMap (fun x =>
              flagReports .sensorMissing x.2 t.spu.counter x.1.1.missing x.1.2.missing
                ++ flagReports .sensorRange x.2 t.spu.counter x.1.1.range x.1.2.range)
          ++ flagReports .sensorDisagree ((s.settings.spu.slotOfRole .boomCheck).getD 0) t.spu.counter s.spu.disagree
              t.spu.disagree
          ++ [.geuPoseFrame p]
      ∧ p.frame = s.spu.counter + 1 ∧ p.periods = s.spu.periods ∧ p.late = decide (1 < s.spu.periods)
      ∧ p.short = t.spu.slots.any (fun r => r.state == .held || r.state == .invalid)
      ∧ (∀ x ∈ [(Role.slew, p.slew), (.boom, p.boom), (.arm, p.arm), (.bucket, p.bucket), (.pitch, p.pitch)],
          ∀ i r, s.settings.spu.slotOfRole x.1 = some i → t.spu.slots[i]? = some r →
            x.2 = { value := r.held, state := r.state })
      ∧ (p.valid = true ↔
          (∀ r ∈ [p.slew, p.boom, p.arm, p.bucket, p.pitch], r.state = .fresh ∨ r.state = .held) ∧ p.disagree = false)

/-- R6: the conversion of a reply word; R7: its class; R8, R9, R15: what each class does to a slot and its two fault
flags at the close. -/
def Obligations.RepliesAreConvertedAndHeld : Prop :=
  ∀ (c : SlotCfg) (w : BitVec 32) (hold : Nat) (r : SlotRun),
    let raw := w.toNat / 2 ^ c.pos % 2 ^ c.width
    let scaled := if c.width ≤ 16 then raw * 2 ^ (16 - c.width) else raw / 2 ^ (c.width - 16)
    let x := (scaled % 65536 + 65536 - c.zero.toNat) % 65536
    (c.convert w).toNat = (if c.negate then (65536 - x) % 65536 else x)
      ∧ (c.classify w = some .missing ↔ w.toNat = 2 ^ c.wordSize - 1 ∨ w.getLsbD c.okPos = false)
      ∧ (c.classify w = some .outOfRange ↔ c.classify w ≠ some .missing
          ∧ ((c.convert w).toInt < c.pmin ∨ c.pmax < (c.convert w).toInt))
      ∧ (c.classify w = none →
          (r.closed hold c w).held = c.convert w ∧ (r.closed hold c w).age = 0 ∧ (r.closed hold c w).state = .fresh
            ∧ (r.closed hold c w).missing = false ∧ (r.closed hold c w).range = false)
      ∧ (∀ why, c.classify w = some why →
          (r.closed hold c w).held = r.held ∧ (r.closed hold c w).age = min (hold + 1) (r.age + 1)
            ∧ (r.closed hold c w).state = (if r.age < hold then .held else .invalid)
            ∧ (r.closed hold c w).reason = some why
            ∧ ((r.closed hold c w).missing = true ↔ r.missing = true ∨ hold ≤ r.age ∧ why = .missing)
            ∧ ((r.closed hold c w).range = true ↔ r.range = true ∨ hold ≤ r.age ∧ why = .outOfRange))

/-! ## Geometry -/

/-- R22: the cosine is the sine a quarter turn on, both lie in −32767..32767, and the folding is exactly symmetric. -/
def Obligations.SineAndCosineAreSymmetric : Prop :=
  ∀ a : Angle, cosine a = sine (a + 16384) ∧ sine (32768 - a) = sine a ∧ sine (-a) = -sine a
    ∧ -32767 ≤ sine a ∧ sine a ≤ 32767 ∧ -32767 ≤ cosine a ∧ cosine a ≤ 32767

/-- R23 to R31: a pose frame gives one pose record with its angles summed modulo 65,536, reach and height as R24 sums
them and R25 moves them to their bounds, the slew rate and increment of R28 and R29; the GEOMETRY_RANGE flag follows
each valid record and is reported as it changes (R26); the record becomes the current one, its slew and validity the
previous ones, and it goes to the CYT, GGU, ENV and LEV, its increment to the SMU. -/
def Obligations.PoseFrameGivesAPoseRecord : Prop :=
  ∀ (p : PoseFrame) (s : State), s.supply = true →
    s.settings.geu.reachMin ≤ s.settings.geu.reachMax → s.settings.geu.zMin ≤ s.settings.geu.zMax →
    ∃ t r, ∃ rawR rawZ : Int, exec (.geuPoseFrame p) s = .next t
      ∧ t = { s with geu := t.geu, inFlight := t.inFlight }
      ∧ r.pose = p ∧ r.phi1 = p.pitch.value + p.boom.value ∧ r.phi2 = r.phi1 + p.arm.value
      ∧ r.phi3 = r.phi2 + p.bucket.value
      ∧ rawR = s.settings.geu.footReach + (s.settings.geu.boomLen * cosine r.phi1 + 16384) / 32768
          + (s.settings.geu.armLen * cosine r.phi2 + 16384) / 32768
          + (s.settings.geu.bucketLen * cosine r.phi3 + 16384) / 32768
      ∧ rawZ = s.settings.geu.footHeight + (s.settings.geu.boomLen * sine r.phi1 + 16384) / 32768
          + (s.settings.geu.armLen * sine r.phi2 + 16384) / 32768
          + (s.settings.geu.bucketLen * sine r.phi3 + 16384) / 32768
      ∧ r.reach = max s.settings.geu.reachMin (min rawR s.settings.geu.reachMax)
      ∧ r.height = max s.settings.geu.zMin (min rawZ s.settings.geu.zMax)
      ∧ (r.limited = .no ↔ r.reach = rawR ∧ r.height = rawZ) ∧ (r.limited = .reach ↔ r.reach ≠ rawR ∧ r.height = rawZ)
      ∧ (r.limited = .height ↔ r.reach = rawR ∧ r.height ≠ rawZ)
      ∧ (r.limited = .both ↔ r.reach ≠ rawR ∧ r.height ≠ rawZ)
      ∧ t.geu.rangeFlag = (if p.valid then decide (r.limited ≠ .no) else s.geu.rangeFlag)
      ∧ (p.valid = true → r.limited ≠ .no → s.geu.rangeFlag = false →
          (.faultReport { code := .geometryRange, clearing := false, frame := some p.frame
                          detail := if r.limited = .reach then 1 else if r.limited = .height then 2 else 3 } : Instr)
            ∈ t.inFlight)
      ∧ (p.valid = true → r.limited = .no → s.geu.rangeFlag = true →
          ∃ d, (.faultReport { code := .geometryRange, clearing := true, detail := d, frame := some p.frame } : Instr)
            ∈ t.inFlight)
      ∧ (p.valid = false ∨ (s.geu.rangeFlag = true ↔ r.limited ≠ .no) →
          ∀ f, (.faultReport f : Instr) ∈ t.inFlight → (.faultReport f : Instr) ∈ s.inFlight)
      ∧ (p.valid = false ∨ s.geu.prev = none ∨ (∃ q, s.geu.prev = some q ∧ q.valid = false) →
          r.rate = 0 ∧ r.rateUnknown = true ∧ r.slewInc = none)
      ∧ (∀ q, p.valid = true → s.geu.prev = some q → q.valid = true →
          r.rate = clamp (Int.tdiv (p.slew.value - q.slew).toInt p.periods) (-2047) 2047 ∧ r.rateUnknown = false
            ∧ r.slewInc = some (p.slew.value - q.slew).toInt.natAbs)
      ∧ t.geu.prev = some { slew := p.slew.value, valid := p.valid } ∧ t.geu.current = some r
      ∧ (∀ c ∈ ([.cytPoseRecord r, .gguPoseRecord r, .envPoseRecord r, .levPoseRecord r] : List Instr),
          c ∈ t.inFlight)
      ∧ (∀ n, r.slewInc = some n → (.slewIncrement n : Instr) ∈ t.inFlight)

/-! ## Bucket cycles -/

/-- R37, R43, R46: a record with an invalid pose abandons the cycle and is reported as IDLE; nothing is counted. R41: a
usable record in DUMP at or below the end threshold ends the cycle: SWING_BACK, the deliveries to the SMU, the EPC and,
with the on-grade count as it stands, the GGU, in flight in this order and before the phase report (the model's choice,
log 28); then count, span and timer are cleared. -/
def Obligations.RecordsAbandonOrEndTheCycle : Prop :=
  (∀ (r : PoseRecord) (s : State), s.supply = true → r.pose.valid = false →
    exec (.cytPoseRecord r) s = .next { s with
      cyt := { s.cyt with
        phase := .idle, timer := 0, swingRun := 0, onGrade := 0, span := none, lastFrame := r.pose.frame }
      inFlight := s.inFlight.erase (.cytPoseRecord r) ++ [.phaseReport r.pose.frame .idle] })
    ∧ ∀ (r : PoseRecord) (s : State), s.supply = true → r.pose.valid = true → r.limited = .no → s.cyt.phase = .dump →
      r.pose.bucket.value.toNat ≤ s.settings.cyt.dumpOpen - s.settings.cyt.dumpHyst →
      exec (.cytPoseRecord r) s = .next { s with
        cyt := { s.cyt with
          phase := .swingBack, timer := 0, onGrade := 0, span := none, lastFrame := r.pose.frame
          swingRun := if r.rateUnknown then 0 else s.cyt.swingRun }
        inFlight := s.inFlight.erase (.cytPoseRecord r) ++
          [.smuCycleEnd, .epcCycleEnd, .gguCycleEnd s.cyt.onGrade, .phaseReport r.pose.frame .swingBack] }

/-- R38 to R40: a usable record enters DIG from IDLE or SWING_BACK, SWING_OUT from DIG at the swing_frames-th record
of a swing run (the span closed with the frame of the record before, log 14), DUMP from SWING_OUT at an open bucket.
R42: a valid record that takes none of these, nor the transition of R41, adds its period count to the phase timer and
past phase_max abandons the cycle. R44, R45, R47: what a PUMP_STATUS, a staleness or freshness event for the PCU, and
a cue result do, with the dig span closed, open (across the wrap of the frame number the model's choice, log 14) or
absent. -/
def Obligations.CycleTrackerTakesItsInputs : Prop :=
  (∀ (r : PoseRecord) (s : State), s.supply = true → r.pose.valid = true →
      let k := s.settings.cyt
      let run := if r.rateUnknown then 0 else s.cyt.swingRun
      let digs : Prop := r.height < k.digZ ∧ r.rateUnknown = false ∧ r.rate.natAbs ≤ k.digSlewMax
        ∧ (s.cyt.phase = .idle → s.cyt.pcu = .fresh ∧ s.cyt.travel = false)
      let swings : Prop := k.digZ ≤ r.height ∧ r.rateUnknown = false ∧ k.swingMin ≤ r.rate.natAbs
      let toDig : Prop := r.limited = .no ∧ (s.cyt.phase = .idle ∨ s.cyt.phase = .swingBack) ∧ digs
      let toSwing : Prop := r.limited = .no ∧ s.cyt.phase = .dig ∧ swings ∧ s.cyt.swingRun + 1 = k.swingFrames
      let toDump : Prop := r.limited = .no ∧ s.cyt.phase = .swingOut ∧ k.dumpOpen ≤ r.pose.bucket.value.toNat
      let ends : Prop := r.limited = .no ∧ s.cyt.phase = .dump ∧ r.pose.bucket.value.toNat ≤ k.dumpOpen - k.dumpHyst
      let moved (c : Cyt) : State := { s with
        cyt := { c with lastFrame := r.pose.frame }
        inFlight := s.inFlight.erase (.cytPoseRecord r) ++ [.phaseReport r.pose.frame c.phase] }
      let time := min 65535 (s.cyt.timer + r.pose.periods)
      (toDig → exec (.cytPoseRecord r) s = .next (moved { s.cyt with
          phase := .dig, timer := 0, swingRun := 0, onGrade := 0, span := some { first := r.pose.frame, last := none } }))
      ∧ (toSwing → exec (.cytPoseRecord r) s = .next (moved { s.cyt with
          phase := .swingOut, timer := 0, swingRun := 0
          span := s.cyt.span.map fun d => { d with last := some s.cyt.lastFrame } }))
      ∧ (toDump → exec (.cytPoseRecord r) s = .next (moved { s.cyt with phase := .dump, timer := 0, swingRun := run }))
      ∧ (¬toDig → ¬toSwing → ¬toDump → ¬ends →
          ∃ n, (n = if r.limited ≠ .no then 0 else if s.cyt.phase ≠ .dig then run else if swings then s.cyt.swingRun + 1 else 0)
            ∧ (s.cyt.phase = .idle →
                exec (.cytPoseRecord r) s = .next (moved { s.cyt with timer := 0, swingRun := n }))
            ∧ (s.cyt.phase ≠ .idle → time ≤ k.phaseMax →
                exec (.cytPoseRecord r) s = .next (moved { s.cyt with timer := time, swingRun := n }))
            ∧ (s.cyt.phase ≠ .idle → k.phaseMax < time →
                exec (.cytPoseRecord r) s = .next (moved { s.cyt with
                  phase := .idle, timer := 0, swingRun := 0, onGrade := 0, span := none }))))
    ∧ (∀ (travel : Bool) (s : State), s.supply = true →
      exec (.cytPumpStatus travel) s = .next { s with
        inFlight := s.inFlight.erase (.cytPumpStatus travel)
        cyt := if travel = true ∧ s.cyt.phase ≠ .idle then
            { s.cyt with travel := travel, pcu := .fresh, phase := .idle, timer := 0, swingRun := 0, onGrade := 0, span := none }
          else { s.cyt with travel := travel, pcu := .fresh } })
    ∧ (∀ s : State, s.supply = true →
      exec .cytPcuStaleness s = .next { s with
        inFlight := s.inFlight.erase .cytPcuStaleness
        cyt := { s.cyt with pcu := .stale, phase := .idle, timer := 0, swingRun := 0, onGrade := 0, span := none } })
    ∧ (∀ s : State, s.supply = true →
      exec .cytPcuFreshness s = .next { s with
        inFlight := s.inFlight.erase .cytPcuFreshness, cyt := { s.cyt with pcu := .fresh } })
    ∧ ∀ (m : FrameNo) (cue : Cue) (s : State), s.supply = true →
      let counted (b : Bool) : State := { s with
        inFlight := s.inFlight.erase (.cueResult m cue)
        cyt := { s.cyt with onGrade := if b then min 255 (s.cyt.onGrade + 1) else s.cyt.onGrade } }
      (s.cyt.span = none → exec (.cueResult m cue) s = .next (counted false))
      ∧ (∀ first, s.cyt.span = some { first := first, last := none } →
          exec (.cueResult m cue) s = .next (counted (decide (cue = .onGrade ∧ (m - first).toNat ≤ 2147483647))))
      ∧ ∀ first last, s.cyt.span = some { first := first, last := some last } →
          exec (.cueResult m cue) s = .next
            (counted (decide (cue = .onGrade ∧ (m - first).toNat ≤ (last - first).toNat)))

/-! ## Grade targets and digging aids -/

/-- R56: the four switch requests set their switch and are answered ACCEPTED; nothing else changes. R52: a target out
of range is refused whatever the queue; one in range becomes ACTIVE, or NEXT, or is refused by a full queue. That
auto-advance is in range as 0 (clear) or 1 (set) and out of it as any other value is the model's choice (log 34). -/
def Obligations.SwitchesAndTargetLoad : Prop :=
  ∀ (k : Nat) (x : Target) (s : State), s.supply = true →
    (targetInRange x = true ↔
      (0 ≤ x.id ∧ x.id ≤ 255) ∧ (0 ≤ x.r0 ∧ x.r0 ≤ 30000) ∧ (-20000 ≤ x.z0 ∧ x.z0 ≤ 20000)
        ∧ (-1000 ≤ x.slope ∧ x.slope ≤ 1000) ∧ (0 ≤ x.tol ∧ x.tol ≤ 500) ∧ (x.tol + 1 ≤ x.near ∧ x.near ≤ 5000)
        ∧ (50 ≤ x.guard ∧ x.guard ≤ 2000) ∧ (x.auto = 0 ∨ x.auto = 1) ∧ (1 ≤ x.passCycles ∧ x.passCycles ≤ 255)
        ∧ (1 ≤ x.onGradeFrames ∧ x.onGradeFrames ≤ 255))
    ∧ exec (.guidanceOn k) s = .next (State.answerCab k .accepted
      { s with inFlight := s.inFlight.erase (.guidanceOn k), ggu := { s.ggu with guidance := true } })
    ∧ exec (.guidanceOff k) s = .next (State.answerCab k .accepted
      { s with inFlight := s.inFlight.erase (.guidanceOff k), ggu := { s.ggu with guidance := false } })
    ∧ exec (.assistOn k) s = .next (State.answerCab k .accepted
      { s with inFlight := s.inFlight.erase (.assistOn k), ggu := { s.ggu with assist := true } })
    ∧ exec (.assistOff k) s = .next (State.answerCab k .accepted
      { s with inFlight := s.inFlight.erase (.assistOff k), ggu := { s.ggu with assist := false } })
    ∧ (targetInRange x = false → exec (.targetLoad k x) s = .next (State.answerCab k .refusedRange
        { s with inFlight := s.inFlight.erase (.targetLoad k x) }))
    ∧ (targetInRange x = true → s.ggu.targets = [] → exec (.targetLoad k x) s = .next (State.answerCab k .accepted
        { s with inFlight := s.inFlight.erase (.targetLoad k x), ggu := { s.ggu with targets := [x], passes := 0 } }))
    ∧ (∀ a, targetInRange x = true → s.ggu.targets = [a] →
        exec (.targetLoad k x) s = .next (State.answerCab k .accepted
          { s with inFlight := s.inFlight.erase (.targetLoad k x), ggu := { s.ggu with targets := [a, x] } }))
    ∧ (∀ a b, targetInRange x = true → s.ggu.targets = [a, b] →
        exec (.targetLoad k x) s = .next (State.answerCab k .refusedFull
          { s with inFlight := s.inFlight.erase (.targetLoad k x) }))

/-- R54 (with the retirement of R53) and R55: an advance with the queue empty is refused and changes nothing; with a
target ACTIVE it retires that target, raises TARGET_RETIRED into the cab's table and is accepted. A clear empties the
queue, is accepted, and raises nothing. That the notice comes before the answer is the model's choice (log 28). -/
def Obligations.AdvanceAndClearTheTargets : Prop :=
  ∀ (k : Nat) (s : State), s.supply = true →
    (s.ggu.targets = [] → exec (.targetAdvance k) s = .next (State.answerCab k .refusedState
        { s with inFlight := s.inFlight.erase (.targetAdvance k) }))
    ∧ (∀ a rest, s.ggu.targets = a :: rest → exec (.targetAdvance k) s = .next (State.answerCab k .accepted
        (State.raiseCab .targetRetired
          { s with inFlight := s.inFlight.erase (.targetAdvance k)
                   ggu := { s.ggu with targets := rest, passes := 0 } })))
    ∧ exec (.targetClear k) s = .next (State.answerCab k .accepted
        { s with inFlight := s.inFlight.erase (.targetClear k), ggu := { s.ggu with targets := [], passes := 0 } })

/-- R65: a cycle end changes nothing with the queue empty, with auto-advance clear, or with too few on-grade frames;
else it adds a pass, and the pass that equals pass_cycles retires the target. That auto-advance is set as 1 is the
model's choice (log 34). -/
def Obligations.CycleEndCreditsTheTarget : Prop :=
  ∀ (n : Nat) (s : State), s.supply = true →
    (s.ggu.targets = [] ∨ (∃ a rest, s.ggu.targets = a :: rest ∧ (a.auto ≠ 1 ∨ (n : Int) < a.onGradeFrames)) →
      exec (.gguCycleEnd n) s = .next { s with inFlight := s.inFlight.erase (.gguCycleEnd n) })
    ∧ ∀ a rest, s.ggu.targets = a :: rest → a.auto = 1 → a.onGradeFrames ≤ (n : Int) →
      ((s.ggu.passes : Int) + 1 ≠ a.passCycles → exec (.gguCycleEnd n) s = .next { s with
          inFlight := s.inFlight.erase (.gguCycleEnd n), ggu := { s.ggu with passes := s.ggu.passes + 1 } })
      ∧ ((s.ggu.passes : Int) + 1 = a.passCycles → exec (.gguCycleEnd n) s = .next (State.raiseCab .targetRetired
          { s with inFlight := s.inFlight.erase (.gguCycleEnd n)
                   ggu := { s.ggu with targets := rest, passes := 0 } }))

/-- R57, R91: with no join held, a part for frame m opens one for m that holds it, and nothing is formed yet; with one
held for a later frame the part is discarded. R58, R92: a part for a later frame than the held join's closes that join
first: an assist request of 0 for its frame where none was formed, and the ALLOTMENT of its ceilings with an assist of
0 where one was not yet built. -/
def Obligations.FirstPartOpensTheJoin : Prop :=
  ∀ (m : FrameNo) (r : PoseRecord) (l : List FloorZone) (ph : Phase) (z : List FrameZone) (n : Nat) (s : State),
    s.supply = true → r.pose.frame = m →
    let later (j : FrameNo) : Prop := 1 ≤ (m - j).toNat ∧ (m - j).toNat ≤ 2147483647
    (∀ x ∈ ([
        (.gguPoseRecord r,
          { frame := m, pose := some r, floors := none, phase := none, cue := none, assistFormed := false }),
        (.floorList m l,
          { frame := m, pose := none, floors := some l, phase := none, cue := none, assistFormed := false }),
        (.phaseReport m ph,
          { frame := m, pose := none, floors := none, phase := some ph, cue := none, assistFormed := false })] :
        List (Instr × GguJoin)),
      (s.ggu.join = none → exec x.1 s = .next { s with
        inFlight := s.inFlight.erase x.1, ggu := { s.ggu with join := some x.2 } })
      ∧ ∀ j, s.ggu.join = some j →
        (later j.frame → exec x.1 s = .next { s with
          inFlight := s.inFlight.erase x.1 ++ (if j.assistFormed then [] else [.assistRequest j.frame 0])
          ggu := { s.ggu with join := some x.2 } })
        ∧ (m ≠ j.frame → ¬later j.frame → exec x.1 s = .next { s with inFlight := s.inFlight.erase x.1 }))
    ∧ ∀ x ∈ ([
        (.levPoseRecord r,
          { frame := m, pose := some r, zones := none, assist := none, ceilings := none, built := false }),
        (.frameZoneSet m z,
          { frame := m, pose := none, zones := some z, assist := none, ceilings := none, built := false }),
        (.assistRequest m n,
          { frame := m, pose := none, zones := none, assist := some n, ceilings := none, built := false })] :
        List (Instr × LevJoin)),
      (s.lev.join = none → exec x.1 s = .next { s with
        inFlight := s.inFlight.erase x.1, lev := { s.lev with join := some x.2 } })
      ∧ ∀ j, s.lev.join = some j →
        (later j.frame → j.ceilings = none ∨ j.built = true → exec x.1 s = .next { s with
          inFlight := s.inFlight.erase x.1, lev := { s.lev with join := some x.2 } })
        ∧ (∀ c, later j.frame → j.ceilings = some c → j.built = false →
          ∃ a, exec x.1 s = .next { s with
              inFlight := s.inFlight.erase x.1, lev := { s.lev with join := some x.2, latest := some a }
              portB := s.portB.handAllotment (allotmentFrame s.settings.ports.pcuOrder a) }
            ∧ a.frame = j.frame.setWidth 16 ∧ a.poseValid = ((j.pose.map fun q => q.pose.valid).getD false) ∧ a.assist = 0
            ∧ a.hold = s.fhu.held.isSome
            ∧ (s.fhu.held = none → a.ceilings = c ∧ a.allowance = s.epc.allowance)
            ∧ (s.fhu.held.isSome = true →
                a.ceilings = { left := 0, right := 0, raise := 0, lower := min c.lower s.settings.lev.holdLower }
                  ∧ a.allowance = min s.epc.allowance s.settings.epc.holdKw))
        ∧ (m ≠ j.frame → ¬later j.frame → exec x.1 s = .next { s with inFlight := s.inFlight.erase x.1 })

/-- R57, R62 to R64, R67: the pose record or the floor list that comes last of the two, with the phase report there or
still to come, forms the cue: a cue result, the guidance record of the frame, on an even frame a GUIDANCE handed to port
A, and with the phase report the assist request; else the phase report forms it at its arrival. The request is 0 outside
DIG or with the assist switch OFF; with the guidance switch OFF the cue is OFF, with the queue empty NO_TARGET, with the
pose invalid or geometry-limited NO_POSE. R59 to R61: otherwise the target height at the reach is raised to the highest
stop height of the floors that apply and exceed it (FLOOR_LIMITED), and the cue is the band of the distance. That the
cue result is in flight before the assist request is the model's choice (log 28). -/
def Obligations.FloorListFormsCueAndAssist : Prop :=
  (∀ (m : FrameNo) (r : PoseRecord) (l : List FloorZone) (ph : Option Phase) (c : Instr) (s : State), s.supply = true →
    (c = .floorList m l ∧ s.ggu.join = some
        { frame := m, pose := some r, floors := none, phase := ph, cue := none, assistFormed := false })
      ∨ (c = .gguPoseRecord r ∧ r.pose.frame = m ∧ s.ggu.join = some
        { frame := m, pose := none, floors := some l, phase := ph, cue := none, assistFormed := false }) →
    ∃ cue d floorLimited id, ∃ pct : Nat, ∃ kept : KeptCue, exec c s = .next { s with
        inFlight := s.inFlight.erase c ++ [.cueResult m cue] ++ (if ph = none then [] else [.assistRequest m pct])
        ggu := { s.ggu with
          join := some { frame := m, pose := some r, floors := some l, phase := ph, cue := some kept
                         assistFormed := ph.isSome }
          record := { frame := m, targetId := id, d := d, cue := cue, floorLimited := floorLimited
                      depth := s.ggu.targets.length, passes := s.ggu.passes } }
        portA := if m.getLsbD 0 then s.portA
          else s.portA.handGuidance
            { frame := m.setWidth 16, targetId := id, d := d, cue := cue, floorLimited := floorLimited
              passes := s.ggu.passes, depth := s.ggu.targets.length, assistSwitch := s.ggu.assist } }
      ∧ (s.ggu.targets = [] → id = 0) ∧ (∀ a rest, s.ggu.targets = a :: rest → id = a.id ∧ kept.guard = a.guard)
      ∧ kept.d = d ∧ kept.cue = cue
      ∧ (s.ggu.guidance = false → cue = .off ∧ d = 0 ∧ floorLimited = false)
      ∧ (s.ggu.guidance = true → s.ggu.targets = [] → cue = .noTarget ∧ d = 0 ∧ floorLimited = false)
      ∧ (∀ a rest, s.ggu.guidance = true → s.ggu.targets = a :: rest → r.pose.valid = false ∨ r.limited ≠ .no →
          cue = .noPose ∧ d = 0 ∧ floorLimited = false)
      ∧ (∀ a rest, s.ggu.guidance = true → s.ggu.targets = a :: rest → r.pose.valid = true → r.limited = .no →
          let q := a.slope * (r.reach - a.r0)
          let grade := a.z0 + (if q < 0 then -((-q + 500) / 1000) else (q + 500) / 1000)
          let raises (f : FloorZone) : Prop := (inSector r.pose.slew.value f.s f.e = true)
            ∧ (f.reachMin : Int) ≤ r.reach ∧ r.reach ≤ f.reachMax ∧ grade < f.floorZ + f.stop
          ∃ zt : Int, d = max (-32767) (min (r.height - zt) 32767)
            ∧ (floorLimited = true ↔ ∃ f ∈ l, raises f)
            ∧ (floorLimited = false → zt = grade)
            ∧ (floorLimited = true → (∃ f ∈ l, raises f ∧ zt = f.floorZ + f.stop)
                ∧ ∀ f ∈ l, raises f → f.floorZ + f.stop ≤ zt)
            ∧ cue = (if a.near < d then .aboveFar else if a.tol < d then .aboveNear else if -a.tol ≤ d then .onGrade
                else if -a.near ≤ d then .belowNear else .belowFar))
      ∧ (s.ggu.assist = false ∨ ph ≠ some .dig ∨ cue = .off ∨ cue = .noTarget ∨ cue = .noPose → pct = 0)
      ∧ (∀ a rest, s.ggu.targets = a :: rest → s.ggu.assist = true → ph = some .dig → (cue ≠ .off ∧ cue ≠ .noPose) →
          (a.guard ≤ d → pct = 0)
          ∧ (d < a.guard → (pct : Int) = clamp (100 * (a.guard - d) / (2 * a.guard)) 0 100)))
    ∧ ∀ (m : FrameNo) (r : PoseRecord) (l : List FloorZone) (ph : Phase) (kept : KeptCue) (s : State), s.supply = true →
      s.ggu.join = some
        { frame := m, pose := some r, floors := some l, phase := none, cue := some kept, assistFormed := false } →
      ∃ pct : Nat, exec (.phaseReport m ph) s = .next { s with
          inFlight := s.inFlight.erase (.phaseReport m ph) ++ [.assistRequest m pct]
          ggu := { s.ggu with
            join := some { frame := m, pose := some r, floors := some l, phase := some ph, cue := some kept
                           assistFormed := true } } }
        ∧ (s.ggu.assist = false ∨ ph ≠ .dig ∨ kept.cue = .off ∨ kept.cue = .noTarget ∨ kept.cue = .noPose
            ∨ kept.guard ≤ kept.d → pct = 0)
        ∧ (s.ggu.assist = true → ph = .dig → kept.cue ≠ .off → kept.cue ≠ .noTarget → kept.cue ≠ .noPose →
            kept.d < kept.guard → (pct : Int) = clamp (100 * (kept.guard - kept.d) / (2 * kept.guard)) 0 100)

/-! ## Work envelope zones -/

/-- R76: at a pose record every pending copy becomes effective and absent, and its entry starts CLEAR and unsuspended
(R77); the frame zone set of the frame is formed from the table as it then stands and handed to the LEV; to the GGU goes
the floor list, one element for each FLOOR entry in ENFORCE and not suspended, with its index, sector, band of reach,
floor height and stop margin (R60; by rising index, the model's choice, log 28); an entry without a pending copy is
unchanged. A suspension so ended raises SUSPENSION_ENDED into both tables, a recorded pair reset ZONE_STATE into the
cab's (in the order of the entries, the model's choice, log 28).
R78: the store of a record some of whose entries changed is requested, and its unstored mark is clear when the queue
takes it and set when it is refused (ZONES_SITE first, the model's choice, log 35). -/
def Obligations.PoseFramePutsEditsInForce : Prop :=
  ∀ (r : PoseRecord) (s : State), s.supply = true →
    ∃ t zones, exec (.envPoseRecord r) s = .next t
      ∧ t.env.entries = s.env.entries.map (fun e =>
          match e.pending with
          | some d => { effective := d, pending := none, suspension := none, recorded := .clear, suspMark := false }
          | none => e)
      ∧ zones = t.env.entries.map (fun e => { zone := e.effective, suspended := e.suspension.isSome })
      ∧ t.env.latest = some { frame := r.pose.frame, zones := zones }
      ∧ (.frameZoneSet r.pose.frame zones : Instr) ∈ t.inFlight
      ∧ (∃ l, (.floorList r.pose.frame l : Instr) ∈ t.inFlight ∧ l.Pairwise (fun f g => f.index < g.index)
          ∧ ∀ f : FloorZone, f ∈ l ↔ ∃ i e, t.env.entries[i]? = some e ∧ e.effective.kind = .floor
              ∧ e.effective.mode = .enforce ∧ e.suspension = none
              ∧ f = { index := i, s := e.effective.s, e := e.effective.e, reachMin := e.effective.reachMin
                      reachMax := e.effective.reachMax, floorZ := e.effective.limit, stop := e.effective.stop })
      ∧ t = { s with env := t.env, inFlight := t.inFlight, portA := t.portA, sli := t.sli, nvc := t.nvc }
      ∧ noticesRaised
          (s.env.entries.flatMap fun e => if e.pending = none then [] else
            (if e.suspension = none then [] else [.suspensionEnded])
              ++ (if e.recorded ≠ .clear ∨ e.suspMark = true then [.zoneState] else []))
          (s.env.entries.flatMap fun e => if e.pending = none ∨ e.suspension = none then [] else [.suspensionEnded]) s t
      ∧ (storesOk s →
          let site := (s.env.entries.take 8).any fun e => e.pending.isSome
          let oper := (s.env.entries.drop 8).any fun e => e.pending.isSome
          let places := s.nvc.queue.length + (if site = true ∧ s.nvc.queued .zonesSite = false then 1 else 0)
          (site = true → t.nvc.queued .zonesSite = (s.nvc.queued .zonesSite || decide (s.nvc.queue.length < 4))
            ∧ t.env.unstoredSite = !t.nvc.queued .zonesSite)
          ∧ (oper = true → t.nvc.queued .zonesOper = (s.nvc.queued .zonesOper || decide (places < 4))
            ∧ t.env.unstoredOper = !t.nvc.queued .zonesOper)
          ∧ (site = false → t.env.unstoredSite = s.env.unstoredSite)
          ∧ (oper = false → t.env.unstoredOper = s.env.unstoredOper)
          ∧ (site = false → oper = false → t.nvc.queue = s.nvc.queue))

/-- R72, R73: a cab edit of an index above 15, of a SITE entry, or one that is not valid is refused, in that order,
and changes nothing in the table; any other becomes the pending copy of its entry. R69, R72: the fields of an edit are a
definition exactly when each lies in the range of its kind and reach_min does not exceed reach_max. That a cab edit's kind and mode are
coded as R74 codes them, and so which codes are valid, is the model's choice (log 39). -/
def Obligations.CabEditsWaitAsPendingCopies : Prop :=
  ∀ (k : Nat) (i : Int) (f : ZoneFields) (s : State), s.supply = true →
    let s' := { s with inFlight := s.inFlight.erase (.zoneEdit k i f) }
    (∀ d, zoneDefOf f = some d ↔
      f.kind = (match d.kind with | .slewWall => 0 | .ceiling => 1 | .floor => 2)
      ∧ f.mode = (match d.mode with | .off => 0 | .warn => 1 | .enforce => 2)
      ∧ d.s = f.s ∧ d.e = f.e ∧ f.reachMin = d.reachMin ∧ f.reachMax = d.reachMax ∧ f.limit = d.limit
      ∧ f.stop = d.stop ∧ f.band = d.band
      ∧ d.reachMin ≤ d.reachMax ∧ d.reachMax ≤ 32767 ∧ -32768 ≤ d.limit ∧ d.limit ≤ 32767
      ∧ (d.kind = .slewWall → d.stop ≤ 16383 ∧ d.band ≤ 32767)
      ∧ (d.kind ≠ .slewWall → d.stop ≤ 5000 ∧ 1 ≤ d.band ∧ d.band ≤ 10000))
    ∧ (i < 0 ∨ 15 < i → exec (.zoneEdit k i f) s = .next (s'.answerCab k .refusedRange))
    ∧ (0 ≤ i → i ≤ 7 → exec (.zoneEdit k i f) s = .next (s'.answerCab k .refusedNotOwner))
    ∧ (8 ≤ i → i ≤ 15 → zoneDefOf f = none → exec (.zoneEdit k i f) s = .next (s'.answerCab k .refusedRange))
    ∧ (∀ d, 8 ≤ i → i ≤ 15 → zoneDefOf f = some d →
        exec (.zoneEdit k i f) s = .next (State.answerCab k .accepted { s' with
          env := { s.env with entries := s.env.entries.modify i.toNat (fun e => { e with pending := some d }) } }))

/-- R79, R80: suspensions of the cab (8 to 15, cut to 600 seconds) and of the service link (0 to 7, cut to 3600):
refused for an index out of range and for the other owner's entry. A duration of 0 ends a suspension in force, with
SUSPENSION_ENDED, and is refused for an entry that has none; any other is refused for an entry not in ENFORCE, and
sets the suspension anew. -/
def Obligations.SuspensionRequests : Prop :=
  ∀ (k i n : Nat) (e : ZoneEntry) (s : State), s.supply = true →
    let cab := { s with inFlight := s.inFlight.erase (.zoneSuspend k i n) }
    let link := { s with inFlight := s.inFlight.erase (.suspendZone i n) }
    let set (x : Option Nat) : Env :=
      { s.env with entries := s.env.entries.modify i (fun e => { e with suspension := x }) }
    (15 < i → exec (.zoneSuspend k i n) s = .next (cab.answerCab k .refusedRange)
        ∧ exec (.suspendZone i n) s = .next (link.answerPlain .refusedRange))
    ∧ (i < 8 → exec (.zoneSuspend k i n) s = .next (cab.answerCab k .refusedNotOwner))
    ∧ (8 ≤ i → i ≤ 15 → exec (.suspendZone i n) s = .next (link.answerPlain .refusedNotOwner))
    ∧ (8 ≤ i → i ≤ 15 → s.env.entries[i]? = some e →
        (n = 0 → e.suspension = none → exec (.zoneSuspend k i n) s = .next (cab.answerCab k .refusedState))
        ∧ (n = 0 → e.suspension.isSome = true → exec (.zoneSuspend k i n) s = .next (State.answerCab k .accepted
            (State.raiseBoth .suspensionEnded { cab with env := set none })))
        ∧ (1 ≤ n → e.effective.mode ≠ .enforce →
            exec (.zoneSuspend k i n) s = .next (cab.answerCab k .refusedState))
        ∧ (1 ≤ n → e.effective.mode = .enforce → exec (.zoneSuspend k i n) s = .next (State.answerCab k .accepted
            { cab with env := set (some (min n 600)) })))
    ∧ (i < 8 → s.env.entries[i]? = some e →
        (n = 0 → e.suspension = none → exec (.suspendZone i n) s = .next (link.answerPlain .refusedState))
        ∧ (n = 0 → e.suspension.isSome = true → exec (.suspendZone i n) s = .next (State.answerPlain .accepted
            (State.raiseBoth .suspensionEnded { link with env := set none })))
        ∧ (1 ≤ n → e.effective.mode ≠ .enforce →
            exec (.suspendZone i n) s = .next (link.answerPlain .refusedState))
        ∧ (1 ≤ n → e.effective.mode = .enforce → exec (.suspendZone i n) s = .next (State.answerPlain .accepted
            { link with env := set (some (min n 3600)) })))

/-- R81, R82: at the one-second expiry every suspension loses a second and one with none left ends; a stale cab ends
every OPERATOR suspension and leaves those of SITE entries; each suspension ended raises SUSPENSION_ENDED into both
notice tables. A fresh cab changes nothing. -/
def Obligations.SuspensionsRunOutAndEndWithTheCab : Prop :=
  (∀ s : State, s.supply = true → s.env.entries.length = 16 →
      ∃ t, exec .suspensionTimerExpiry s = .next t
        ∧ t = { s with env := t.env, portA := t.portA, sli := t.sli }
        ∧ t.env.entries = s.env.entries.map (fun e =>
            { e with suspension := match e.suspension with
                | some n => if n ≤ 1 then none else some (n - 1)
                | none => none })
        ∧ ∃ l, noticesRaised l l s t
            ∧ l = s.env.entries.flatMap (fun e => match e.suspension with
                | some n => if n ≤ 1 then [.suspensionEnded] else []
                | none => []))
    ∧ (∀ s : State, s.supply = true → s.env.entries.length = 16 →
      ∃ t, exec .envCabStaleness s = .next t
        ∧ t = { s with env := t.env, portA := t.portA, sli := t.sli, inFlight := s.inFlight.erase .envCabStaleness }
        ∧ t.env.entries = s.env.entries.mapIdx (fun i e => if i < 8 then e else { e with suspension := none })
        ∧ ∃ l, noticesRaised l l s t
            ∧ l = (s.env.entries.drop 8).flatMap (fun e => if e.suspension = none then [] else [.suspensionEnded]))
    ∧ ∀ s : State, s.supply = true →
      exec .envCabFreshness s = .next { s with inFlight := s.inFlight.erase .envCabFreshness }

/-- R84: a state report for the frame of the latest set is recorded, an OFF entry as CLEAR with the mark clear; a
report for any other frame is discarded whole. R85: each entry whose pair of state and mark changed raises ZONE_STATE
into the cab's table; R86: an entry newly BREACHED with the mark clear, in ENFORCE, raises ZONE_BREACHED into both (in
the order of the entries, the model's choice, log 28). -/
def Obligations.StateReportsAreTakenByFrame : Prop :=
  (∀ (m : FrameNo) (l : List ZoneState) (s : State), s.supply = true →
      (∀ z, s.env.latest = some z → z.frame ≠ m) →
      exec (.stateReport m l) s = .next { s with inFlight := s.inFlight.erase (.stateReport m l) })
    ∧ ∀ (m : FrameNo) (l : List ZoneState) (zones : List FrameZone) (s : State), s.supply = true →
      s.env.latest = some { frame := m, zones := zones } → s.env.entries.length = 16 → zones.length = 16 →
      l.length = 16 →
      ∃ t, exec (.stateReport m l) s = .next t
        ∧ t = { s with env := t.env, portA := t.portA, sli := t.sli, inFlight := s.inFlight.erase (.stateReport m l) }
        ∧ ∀ (i : Nat) (e : ZoneEntry) (z : FrameZone) (x : ZoneState), s.env.entries[i]? = some e → zones[i]? = some z → l[i]? = some x →
            t.env.entries[i]? = some (if z.zone.mode = .off then { e with recorded := .clear, suspMark := false }
              else { e with recorded := x, suspMark := z.suspended })
        ∧ ∃ changes : List (List NoticeKind × List NoticeKind),
            changes = (List.zip (List.zip s.env.entries zones) l).map (fun x =>
              let before := (x.1.1.recorded, x.1.1.suspMark)
              let after := if x.1.2.zone.mode = .off then (.clear, false) else (x.2, x.1.2.suspended)
              let breached : List NoticeKind :=
                if after = (.breached, false) ∧ x.1.2.zone.mode = .enforce ∧ before ≠ (.breached, false) then
                  [.zoneBreached]
                else []
              ((if before ≠ after then [.zoneState] else []) ++ breached, breached))
            ∧ noticesRaised (changes.flatMap Prod.fst) (changes.flatMap Prod.snd) s t

/-! ## Slew and height limiting -/

/-- R93: a slew angle is placed against a sector; the distances outside and the depths inside. -/
def Obligations.SectorsArePlacedModularly : Prop :=
  ∀ psi s e : Angle,
    (inSector psi s e = true ↔ (psi - s).toNat ≤ (e - s).toNat ∨ s = e)
    ∧ (inSector psi s e = false →
        leftDistance psi s = (65536 + s.toNat - psi.toNat) % 65536
          ∧ rightDistance psi e = (65536 + psi.toNat - e.toNat) % 65536
          ∧ 1 ≤ leftDistance psi s ∧ leftDistance psi s ≤ 65535 ∧ 1 ≤ rightDistance psi e ∧ rightDistance psi e ≤ 65535)
    ∧ (inSector psi s e = true → s ≠ e →
        rightDepth psi s = (65536 + psi.toNat - s.toNat) % 65536 ∧ leftDepth psi e = (65536 + e.toNat - psi.toNat) % 65536
          ∧ leftDepth psi e + rightDepth psi s = (65536 + e.toNat - s.toNat) % 65536)

/-- R97, R103: the height computation of a CEILING or FLOOR: BREACHED with a motion ceiling of 0 at or past the limit,
deep beyond deep_z; short of it the motion ceiling of the gap, LIMITING below 100, APPROACH within stop and band. R96:
the slew ceiling of a direction is 0 with no effective distance, else the largest whole percentage, at most 100, of
the full rate that the allowed rate reaches; the allowed rate is the integer root of the braking product. R94, R95,
R103: which computation a zone takes, by its wall condition and by where the slew angle stands; the slew ceilings of a
wall outside its sector, and of a SLEW_WALL breached inside it, deep past deep_margin_bau from its nearer edge. -/
def Obligations.ZonesLimitTheirMotions : Prop :=
  (∀ (c : LevCfg) (d m : Nat) (rate : Int), 1 ≤ c.slewDecel → c.slewDecel ≤ 4095 → 1 ≤ c.rateFull → d ≤ 65535 →
    (d ≤ m + rate.natAbs * c.reactFrames → slewCeiling c d m rate = 0)
    ∧ (m + rate.natAbs * c.reactFrames < d →
        ∃ w, w * w ≤ c.slewDecel * (d - m - rate.natAbs * c.reactFrames) / 8
          ∧ c.slewDecel * (d - m - rate.natAbs * c.reactFrames) / 8 < (w + 1) * (w + 1)
          ∧ slewCeiling c d m rate = min 100 (100 * w / c.rateFull)))
    ∧ (∀ (c : LevCfg) (z : ZoneDef) (height gap : Int), z.kind ≠ .slewWall → 1 ≤ z.band →
      gap = (if z.kind = .ceiling then z.limit - height else height - z.limit) →
      ∃ m, (heightEval c z height).ceilings = (if z.kind = .ceiling then { left := 100, right := 100, raise := m, lower := 100 }
              else { left := 100, right := 100, raise := 100, lower := m })
        ∧ (gap ≤ 0 → m = 0 ∧ (heightEval c z height).state = .breached
            ∧ ((heightEval c z height).deep = true ↔ gap < -(c.deepZ : Int)))
        ∧ (0 < gap → gap ≤ z.stop → m = 0 ∧ (heightEval c z height).state = .limiting)
        ∧ (z.stop < gap → (m : Int) = min 100 (100 * (gap - z.stop) / z.band)
            ∧ (heightEval c z height).state =
                (if m < 100 then .limiting else if gap ≤ z.stop + z.band then .approach else .clear))
        ∧ (0 < gap → (heightEval c z height).deep = false))
    ∧ ∀ (c : LevCfg) (z : ZoneDef) (r : PoseRecord),
      let psi := r.pose.slew.value
      let inside := inSector psi z.s z.e
      let band : Prop := (z.reachMin : Int) ≤ r.reach ∧ r.reach ≤ z.reachMax
      let wall : Prop :=
        z.kind = .slewWall ∧ (z.reachMin : Int) ≤ r.reach ∧ z.limit ≤ r.height
          ∨ z.kind = .ceiling ∧ band ∧ z.limit - z.stop ≤ r.height
          ∨ z.kind = .floor ∧ band ∧ r.height ≤ z.limit + z.stop
      let margin := if z.kind = .slewWall then z.stop else 910
      let warn := if z.kind = .slewWall then z.band else 1820
      let clear : ZoneEval := { state := .clear, ceilings := { left := 100, right := 100, raise := 100, lower := 100 }
                                deep := false }
      (inside = false → wall → ∃ left right,
          left = slewCeiling c (z.s - psi).toNat margin r.rate ∧ right = slewCeiling c (psi - z.e).toNat margin r.rate
          ∧ evalZone c z r =
            { state := if left < 100 ∨ right < 100 then .limiting
                else if min (z.s - psi).toNat (psi - z.e).toNat ≤ warn then .approach else .clear
              ceilings := { left := left, right := right, raise := 100, lower := 100 }, deep := false })
      ∧ (∀ dl dr : Nat, inside = true → z.kind = .slewWall → wall → dl = (z.e - psi).toNat → dr = (psi - z.s).toNat →
          evalZone c z r =
            { state := .breached
              ceilings := { left := if z.s = z.e ∨ dr < dl then 0 else c.exitCeiling
                            right := if z.s ≠ z.e ∧ dr < dl then c.exitCeiling else 0, raise := 100, lower := 100 }
              deep := decide (z.s ≠ z.e ∧ c.deepBau < min dl dr) })
      ∧ (inside = true → z.kind ≠ .slewWall → band → evalZone c z r = heightEval c z r.height)
      ∧ (inside = true → z.kind ≠ .slewWall → ¬band → evalZone c z r = clear)
      ∧ (inside = false ∨ z.kind = .slewWall → ¬wall → evalZone c z r = clear)

/-- R104, R105, R107: the assist request that completes a join with its ceilings formed builds the ALLOTMENT: outside
HOLD the ceilings formed, the assist capped at the raise ceiling (0 for an invalid pose), the allowance of the EPC; in
HOLD the hold values. It is handed to port B and kept as the latest. -/
def Obligations.AssistRequestBuildsTheAllotment : Prop :=
  ∀ (m : FrameNo) (r : PoseRecord) (z : List FrameZone) (c : Ceilings) (n : Nat) (s : State), s.supply = true →
    n ≤ 100 →
    s.lev.join = some
      { frame := m, pose := some r, zones := some z, assist := none, ceilings := some c, built := false } →
    ∃ t a, exec (.assistRequest m n) s = .next t
      ∧ t.lev = { s.lev with
          latest := some a
          join := some
            { frame := m, pose := some r, zones := some z, assist := some n, ceilings := some c, built := true } }
      ∧ t = { s with lev := t.lev, portB := s.portB.handAllotment (allotmentFrame s.settings.ports.pcuOrder a)
                     inFlight := s.inFlight.erase (.assistRequest m n) }
      ∧ allotmentBuilt s m r.pose.valid c n a

/-- R91, R98 to R100: the pose record of a valid pose or its frame zone set, whichever comes last, forms ceilings that
are, motion by motion, no more than that of any zone and either 100 or that of one; an entry in OFF is CLEAR, and one that
is suspended, in WARN or OFF, limits nothing; the states are reported to the ENV under the frame's number, and an
enforced zone that is BREACHED with its breach-recorded flag clear, or its copy changed, is reported as ZONE_BREACH.
An entry in ENFORCE with the suspended mark clear limits as its zone evaluates. R103: its deep flag is that of its
evaluation, and clear for any other entry; a flag that comes up is reported as BREACH_DEEP. Nothing else is reported
(their order is the model's choice, log 28). R91, R104: with the assist request there already, the ALLOTMENT is built at
once, handed to port B and kept as the latest. -/
def Obligations.ValidPoseFormsTheCeilings : Prop :=
  ∀ (r : PoseRecord) (zones : List FrameZone) (n : Option Nat) (x : Instr) (s : State), s.supply = true →
    r.pose.valid = true → zones.length = 16 → s.lev.zones.length = 16 →
    (x = .levPoseRecord r ∧ s.lev.join = some
        { frame := r.pose.frame, pose := none, zones := some zones, assist := n, ceilings := none, built := false })
      ∨ (x = .frameZoneSet r.pose.frame zones ∧ s.lev.join = some
        { frame := r.pose.frame, pose := some r, zones := none, assist := n, ceilings := none, built := false }) →
    ∃ t c, exec x s = .next t
      ∧ t = { s with lev := t.lev, inFlight := t.inFlight, portB := t.portB }
      ∧ t.lev.lastCeil = c ∧ t.lev.lastRate = r.rate ∧ t.lev.prevEval = .valid
      ∧ (n = none → t.lev.latest = s.lev.latest ∧ t.portB = s.portB)
      ∧ (∀ k, n = some k → k ≤ 100 → ∃ a, t.lev.latest = some a ∧ allotmentBuilt s r.pose.frame true c k a
          ∧ t.portB = s.portB.handAllotment (allotmentFrame s.settings.ports.pcuOrder a))
      ∧ t.lev.join = some
          { frame := r.pose.frame, pose := some r, zones := some zones, assist := n, ceilings := some c
            built := n.isSome }
      ∧ (∀ z ∈ zones, c.left ≤ (zoneEval s.settings.lev r z).ceilings.left
          ∧ c.right ≤ (zoneEval s.settings.lev r z).ceilings.right
          ∧ c.raise ≤ (zoneEval s.settings.lev r z).ceilings.raise
          ∧ c.lower ≤ (zoneEval s.settings.lev r z).ceilings.lower)
      ∧ (c.left = 100 ∨ ∃ z ∈ zones, c.left = (zoneEval s.settings.lev r z).ceilings.left)
      ∧ (c.right = 100 ∨ ∃ z ∈ zones, c.right = (zoneEval s.settings.lev r z).ceilings.right)
      ∧ (c.raise = 100 ∨ ∃ z ∈ zones, c.raise = (zoneEval s.settings.lev r z).ceilings.raise)
      ∧ (c.lower = 100 ∨ ∃ z ∈ zones, c.lower = (zoneEval s.settings.lev r z).ceilings.lower)
      ∧ (∀ z ∈ zones, z.zone.mode ≠ .enforce ∨ z.suspended = true →
          (zoneEval s.settings.lev r z).ceilings = { left := 100, right := 100, raise := 100, lower := 100 })
      ∧ (∀ (i : Nat) (z : FrameZone) (l : LevZone), zones[i]? = some z → t.lev.zones[i]? = some l →
          l.copy = some z.zone ∧ l.state = (if z.zone.mode = .off then .clear else (evalZone s.settings.lev z.zone r).state))
      ∧ t.inFlight.getLast? = some (.stateReport r.pose.frame (t.lev.zones.map LevZone.state))
      ∧ (∀ (i : Nat) (z : FrameZone) (l : LevZone), zones[i]? = some z → s.lev.zones[i]? = some l →
          z.zone.mode = .enforce → z.suspended = false → (evalZone s.settings.lev z.zone r).state = .breached →
          l.breachRecorded = false ∨ l.copy ≠ some z.zone →
          (.faultReport { code := .zoneBreach, clearing := false, detail := i, frame := some r.pose.frame } : Instr)
            ∈ t.inFlight)
      ∧ (∀ z ∈ zones, z.zone.mode = .enforce → z.suspended = false →
          (zoneEval s.settings.lev r z).ceilings = (evalZone s.settings.lev z.zone r).ceilings)
      ∧ (∀ (i : Nat) (z : FrameZone) (l : LevZone), zones[i]? = some z → t.lev.zones[i]? = some l →
          (z.zone.mode = .enforce → z.suspended = false →
            l.deep = (evalZone s.settings.lev z.zone r).deep
              ∧ (l.breachRecorded = true ↔ (evalZone s.settings.lev z.zone r).state = .breached))
          ∧ (z.zone.mode ≠ .enforce ∨ z.suspended = true → l.deep = false ∧ l.breachRecorded = false))
      ∧ t.inFlight = s.inFlight.erase x
          ++ (List.zip (List.zip zones s.lev.zones) t.lev.zones).zipIdx.flatMap (fun y =>
              (if y.1.2.breachRecorded = true ∧ (y.1.1.2.breachRecorded = false ∨ y.1.1.2.copy ≠ some y.1.1.1.zone) then
                [.faultReport { code := .zoneBreach, clearing := false, detail := y.2, frame := some r.pose.frame }]
              else [])
              ++ (if y.1.2.deep = true ∧ y.1.1.2.deep = false then
                [.faultReport { code := .breachDeep, clearing := false, detail := y.2, frame := some r.pose.frame }]
              else []))
          ++ [.stateReport r.pose.frame (t.lev.zones.map LevZone.state)]

/-- R91, R101, R102: the pose record of an invalid pose or its frame zone set, whichever comes last, forms ceilings that
are the smaller of the last valid ones and the fallback; POSE_LOST_MOVING is reported exactly when the previous evaluated
pose was VALID and the last valid rate exceeds 8; no zone is evaluated. R91, R104: with the assist request there already,
the ALLOTMENT is built at once, with an assist of 0, handed to port B and kept as the latest; nothing else changes. -/
def Obligations.InvalidPoseFallsBack : Prop :=
  ∀ (r : PoseRecord) (z : List FrameZone) (n : Option Nat) (x : Instr) (s : State), s.supply = true →
    r.pose.valid = false →
    (x = .levPoseRecord r ∧ s.lev.join = some
        { frame := r.pose.frame, pose := none, zones := some z, assist := n, ceilings := none, built := false })
      ∨ (x = .frameZoneSet r.pose.frame z ∧ s.lev.join = some
        { frame := r.pose.frame, pose := some r, zones := none, assist := n, ceilings := none, built := false }) →
    ∃ a c, exec x s = .next { s with
      inFlight := s.inFlight.erase x ++
        (if s.lev.prevEval = .valid ∧ 8 < s.lev.lastRate.natAbs then
          [.faultReport { code := .poseLostMoving, clearing := false, detail := s.lev.lastRate, frame := some r.pose.frame }]
         else [])
      portB := if n = none then s.portB else s.portB.handAllotment (allotmentFrame s.settings.ports.pcuOrder a)
      lev := { s.lev with
        prevEval := .invalid
        latest := if n = none then s.lev.latest else some a
        join := some
          { frame := r.pose.frame, pose := some r, zones := some z, assist := n, ceilings := some c
            built := n.isSome } } }
      ∧ c = { left := min s.lev.lastCeil.left s.settings.lev.fallback
              right := min s.lev.lastCeil.right s.settings.lev.fallback
              raise := min s.lev.lastCeil.raise s.settings.lev.fallback
              lower := min s.lev.lastCeil.lower s.settings.lev.fallback }
      ∧ (∀ k, n = some k → allotmentBuilt s r.pose.frame false c k a)

/-- R106: at the entry into HOLD the hold ALLOTMENT is built at once from the latest one, or with none from the
fallback, handed to port B and kept; at the clearing nothing is built. That an entry taken after the hold has been
cleared still builds it is the model's choice (log 27). -/
def Obligations.HoldEntryBuildsTheHoldAllotment : Prop :=
  (∀ s : State, s.supply = true →
      ∃ t a, exec .levHoldEntry s = .next t
        ∧ t = { s with
            lev := { s.lev with latest := some a }, inFlight := s.inFlight.erase .levHoldEntry
            portB := s.portB.handAllotment (allotmentFrame s.settings.ports.pcuOrder a) }
        ∧ a.hold = true ∧ a.assist = 0 ∧ a.ceilings.left = 0 ∧ a.ceilings.right = 0 ∧ a.ceilings.raise = 0
        ∧ (s.fhu.held.isSome = true → a.allowance = min s.epc.allowance s.settings.epc.holdKw)
        ∧ (∀ b, s.lev.latest = some b → a.frame = b.frame ∧ a.poseValid = b.poseValid
            ∧ a.ceilings.lower = min b.ceilings.lower s.settings.lev.holdLower)
        ∧ (s.lev.latest = none → a.frame = 0 ∧ a.poseValid = false
            ∧ a.ceilings.lower = min s.settings.lev.fallback s.settings.lev.holdLower))
    ∧ ∀ s : State, s.supply = true →
      exec .levHoldClear s = .next { s with inFlight := s.inFlight.erase .levHoldClear }

/-! ## Engine plan -/

/-- R110, R113, R118: what a PUMP_STATUS, the staleness and freshness of the PCU, and those of a governor leave in the
EPC: the fields they name, and the commands and the allowance re-formed, which changes nothing else. R117: an engine
is commanded RUN by the table of plan states, at idle_rpm in HOLD, as the trail of a cooldown and in the idle state,
else at the rated speed of the effective mode. R128: the allowance is the sum of the engines RUNNING, commanded RUN
and not the trail of a cooldown, less the reserve, in 0..4000, and in HOLD at most hold_kW. That a FAILED engine is
commanded STOP in every plan state is the model's choice (log 16). -/
def Obligations.EpcTakesPcuAndGovernorEvents : Prop :=
  (∀ (c : EpcCfg) (p : Epc), p.reform c = { p with
      e1 := { p.e1 with
        run := p.runFor .e1, cmdSpeed := if p.runFor .e1 then p.runSpeed c .e1 else 0, hasRun := p.runFor .e1 && p.e1.hasRun }
      e2 := { p.e2 with
        run := p.runFor .e2, cmdSpeed := if p.runFor .e2 then p.runSpeed c .e2 else 0, hasRun := p.runFor .e2 && p.e2.hasRun }
      allowance := (p.reform c).allowance })
    ∧ (∀ (p : Epc) (e : Engine),
      (p.keyOff = true ∨ p.avail e = .failed → p.runFor e = false)
      ∧ (p.keyOff = false → p.avail e ≠ .failed →
          (p.plan = .none → (p.runFor e = false ↔ p.avail e = .excluded ∧ p.runSeen = true))
          ∧ (p.plan = .twin → (p.runFor e = false ↔ p.avail e = .excluded ∧ (p.eng e).hasRun = false))
          ∧ (p.plan = .cooldown ∨ p.plan = .starting → p.runFor e = true)
          ∧ (p.plan = .single → (p.runFor e = true ↔ p.lead = some e))))
    ∧ (∀ (c : EpcCfg) (p : Epc) (e : Engine), p.runSpeed c e =
        if p.hold = true ∨ (p.plan = .cooldown ∧ p.lead ≠ some e) ∨ p.idle = true then c.idleRpm
        else match p.effMode with
          | .economy => c.ecoSpeed
          | .standard => c.stdSpeed
          | .power => c.powSpeed)
    ∧ (∀ (c : EpcCfg) (p : Epc),
        let ratio := match p.effMode with
          | .economy => c.ecoRatio
          | .standard => c.stdRatio
          | .power => c.powRatio
        let counts (e : Engine) : Prop :=
          (p.eng e).reported = .running ∧ p.runFor e = true ∧ ¬(p.plan = .cooldown ∧ p.lead ≠ some e)
        ∃ n1 n2 : Nat, (counts .e1 → n1 = c.ratedE1 * ratio / 100) ∧ (¬counts .e1 → n1 = 0)
          ∧ (counts .e2 → n2 = c.ratedE2 * ratio / 100) ∧ (¬counts .e2 → n2 = 0)
          ∧ (p.hold = false → (p.reform c).allowance = min 4000 (n1 + n2 - c.reserve))
          ∧ (p.hold = true → (p.reform c).allowance = min (min 4000 (n1 + n2 - c.reserve)) c.holdKw))
    ∧ ∀ (demand : Nat) (neutral : Bool) (g : Engine) (s : State), s.supply = true →
      exec (.epcPumpStatus demand neutral) s = .next { s with
        inFlight := s.inFlight.erase (.epcPumpStatus demand neutral)
        epc := Epc.reform s.settings.epc { s.epc with
          demand := min 4000 demand, neutral := neutral, pcu := .fresh
          idle := if neutral then s.epc.idle else false
          neutralCount := if neutral then s.epc.neutralCount else 0 } }
      ∧ exec .epcPcuStaleness s = .next { s with
        inFlight := s.inFlight.erase .epcPcuStaleness
        epc := Epc.reform s.settings.epc { s.epc with pcu := .stale, idle := false, neutralCount := 0 } }
      ∧ exec .epcPcuFreshness s = .next { s with
        inFlight := s.inFlight.erase .epcPcuFreshness, epc := Epc.reform s.settings.epc { s.epc with pcu := .fresh } }
      ∧ exec (.governorStaleness .e1) s = .next { s with
        inFlight := s.inFlight.erase (.governorStaleness .e1)
        epc := Epc.reform s.settings.epc { s.epc with e1 := { s.epc.e1 with reported := .unknown, fuel := 65535 } } }
      ∧ exec (.governorStaleness .e2) s = .next { s with
        inFlight := s.inFlight.erase (.governorStaleness .e2)
        epc := Epc.reform s.settings.epc { s.epc with e2 := { s.epc.e2 with reported := .unknown, fuel := 65535 } } }
      ∧ exec (.governorFreshness g) s = .next { s with inFlight := s.inFlight.erase (.governorFreshness g) }

/-- R109, R119, R123, R125: an ENGINE_STATUS replaces state, speed, load and fuel of its engine; a RUNNING report from
an engine commanded RUN takes PLAN_NONE to PLAN_TWIN with no lead, and from the starting engine completes
PLAN_STARTING into PLAN_COOLDOWN (a swap) or PLAN_TWIN with the restart dwell; a STOPPED or FAULTED report from an
engine commanded RUN that has run makes it FAILED, commanded STOP, is reported as ENGINE_LOST, and moves the plan by
the table of R125; any other report moves no plan. The has-run mark comes up with a RUNNING report of an engine
commanded RUN (which stays commanded RUN, where the commands were those of the plan, R117) and goes with STOP; of the
other engine's record only the commands and that mark can change. R116: a change of the plan state or of the lead raises
PLAN_CHANGED into both notice tables. That R125's PLAN_TWIN, taken in PLAN_TWIN, is an entry that zeroes the low-demand
count (R119) is the model's choice (log 40). -/
def Obligations.EngineStatusIsTaken : Prop :=
  ∀ (g o : Engine) (code : Byte) (load speed fuel : Nat) (s : State), s.supply = true → o ≠ g →
    let c : Instr := .epcEngineStatus g code load speed fuel
    ∃ t, exec c s = .next t
      ∧ (t.epc.eng g).reported =
          (if code = 0 then .stopped else if code = 1 then .cranking else if code = 2 then .running else .faulted)
      ∧ (t.epc.eng g).load = load ∧ (t.epc.eng g).speed = speed ∧ (t.epc.eng g).fuel = fuel
      ∧ (code = 2 → (s.epc.eng g).run = true → s.epc.plan = .none →
          t.epc.plan = .twin ∧ t.epc.lead = none ∧ t.epc.runSeen = true ∧ t.epc.lowCount = 0 ∧ t.epc.dwell = s.epc.dwell)
      ∧ (code = 2 → (s.epc.eng g).run = true → s.epc.plan = .starting → s.epc.starting = some g →
          t.epc.startTimer = 0 ∧ t.epc.swap = false ∧ t.epc.starting = none
            ∧ (s.epc.swap = true → t.epc.plan = .cooldown ∧ t.epc.lead = some g
                ∧ t.epc.cooldown = s.settings.epc.cooldownIntervals ∧ t.epc.dwell = s.epc.dwell)
            ∧ (s.epc.swap = false → t.epc.plan = .twin ∧ t.epc.lead = none
                ∧ t.epc.dwell = s.settings.epc.restartDwell ∧ t.epc.lowCount = 0))
      ∧ (code = 2 →
          (s.epc.eng g).run = false ∨ (s.epc.plan ≠ .none ∧ (s.epc.plan ≠ .starting ∨ s.epc.starting ≠ some g)) →
          t.epc = { s.epc with e1 := t.epc.e1, e2 := t.epc.e2, allowance := t.epc.allowance })
      ∧ (code = 2 → (s.epc.eng g).run = true →
          (t.epc.eng g).hasRun = (t.epc.eng g).run ∧ (allowanceOk s → (t.epc.eng g).run = true))
      ∧ (code ≠ 2 ∨ (s.epc.eng g).run = false →
          (t.epc.eng g).hasRun = ((s.epc.eng g).hasRun && (t.epc.eng g).run))
      ∧ t.epc.eng o = { s.epc.eng o with
          run := (t.epc.eng o).run, cmdSpeed := (t.epc.eng o).cmdSpeed
          hasRun := (s.epc.eng o).hasRun && (t.epc.eng o).run }
      ∧ (t.epc.eng g).excluded = (s.epc.eng g).excluded
      ∧ (code = 2 → (t.epc.eng g).failed = (s.epc.eng g).failed ∧ t.inFlight = s.inFlight.erase c)
      ∧ (code ≠ 1 → code ≠ 2 → (s.epc.eng g).run = true → (s.epc.eng g).hasRun = true →
          (t.epc.eng g).failed = true ∧ (t.epc.eng g).run = false ∧ (t.epc.eng g).cmdSpeed = 0
            ∧ t.inFlight = s.inFlight.erase c ++
                [.faultReport { code := .engineLost, clearing := false, detail := engineNumber g, frame := none }]
            ∧ (s.epc.plan = .starting → s.epc.starting = some o →
                t.epc.plan = .starting ∧ t.epc.starting = some o ∧ t.epc.lead = some o ∧ t.epc.swap = false
                  ∧ t.epc.startTimer = s.epc.startTimer)
            ∧ (s.epc.plan ≠ .starting ∨ s.epc.starting ≠ some o → t.epc.starting = none
                ∧ ((s.epc.eng o).reported = .running → s.epc.avail o = .available →
                    t.epc.plan = .single ∧ t.epc.lead = some o)
                ∧ ((s.epc.eng o).reported = .running → s.epc.avail o = .excluded →
                    t.epc.plan = .twin ∧ t.epc.lead = none ∧ t.epc.lowCount = 0)
                ∧ ((s.epc.eng o).reported ≠ .running ∨ s.epc.avail o = .failed →
                    t.epc.plan = .none ∧ t.epc.lead = none)))
      ∧ (code = 1 ∨ code ≠ 2 ∧ ((s.epc.eng g).run = false ∨ (s.epc.eng g).hasRun = false) →
          t.epc = { s.epc with e1 := t.epc.e1, e2 := t.epc.e2, allowance := t.epc.allowance }
            ∧ (t.epc.eng g).failed = (s.epc.eng g).failed ∧ t.inFlight = s.inFlight.erase c)
      ∧ t.epc = { s.epc with
          e1 := t.epc.e1, e2 := t.epc.e2, plan := t.epc.plan, lead := t.epc.lead, starting := t.epc.starting
          swap := t.epc.swap, runSeen := t.epc.runSeen, startTimer := t.epc.startTimer, cooldown := t.epc.cooldown
          lowCount := t.epc.lowCount, dwell := t.epc.dwell, allowance := t.epc.allowance }
      ∧ t = { s with epc := t.epc, inFlight := t.inFlight, portA := t.portA, sli := t.sli }
      ∧ noticesRaised (planNotices s.epc t.epc) (planNotices s.epc t.epc) s t

/-- R113, R119, R127: a plan interval forms the raw demand and the filter, takes one from the restart dwell, and hands
port B one ENGINE_DEMAND for each governor from the records as they then stand. R118: with auto-idle ON, the PCU FRESH
and neutral it adds one to the neutral count, saturating, and brings the idle state on at idle_delay (a count already
above it brings it on too, the model's choice, log 15); else it changes neither. R119, R129: the low-demand count is 0
in HOLD; outside it, in PLAN_TWIN, it gains one, saturating, with the filtered demand below single_enter, else it is 0;
in the other plan states it stays, but for an entry into PLAN_TWIN, which zeroes it. R116: a change of the plan state or
of the lead raises PLAN_CHANGED into both notice tables. -/
def Obligations.PlanIntervalFiltersAndDemands : Prop :=
  ∀ s : State, s.supply = true →
    ∃ t, exec .planIntervalExpiry s = .next t
      ∧ t.epc.filter = s.epc.filter - s.epc.filter / 8
          + (if s.epc.pcu = .fresh then s.epc.demand + s.settings.epc.reserve else 4000)
      ∧ t.epc.dwell = s.epc.dwell - 1
      ∧ (s.epc.autoIdle = true → s.epc.pcu = .fresh → s.epc.neutral = true →
          t.epc.neutralCount = min 65535 (s.epc.neutralCount + 1)
            ∧ (t.epc.idle = true ↔ s.epc.idle = true ∨ s.settings.epc.idleDelay ≤ t.epc.neutralCount))
      ∧ (s.epc.autoIdle = false ∨ s.epc.pcu ≠ .fresh ∨ s.epc.neutral = false →
          t.epc.neutralCount = s.epc.neutralCount ∧ t.epc.idle = s.epc.idle)
      ∧ (s.epc.hold = true → t.epc.lowCount = 0)
      ∧ (s.epc.hold = false → s.epc.plan = .twin → t.epc.lowCount =
          if t.epc.filter / 8 < s.settings.epc.singleEnter then min 65535 (s.epc.lowCount + 1) else 0)
      ∧ (s.epc.hold = false → s.epc.plan ≠ .twin → t.epc.lowCount = if t.epc.plan = .twin then 0 else s.epc.lowCount)
      ∧ t.epc = { s.epc with
          e1 := t.epc.e1, e2 := t.epc.e2, plan := t.epc.plan, lead := t.epc.lead, starting := t.epc.starting
          swap := t.epc.swap, startTimer := t.epc.startTimer, cooldown := t.epc.cooldown, lowCount := t.epc.lowCount
          dwell := t.epc.dwell, filter := t.epc.filter, neutralCount := t.epc.neutralCount, idle := t.epc.idle
          allowance := t.epc.allowance }
      ∧ (∀ g, t.epc.eng g = { s.epc.eng g with
          failed := (t.epc.eng g).failed, run := (t.epc.eng g).run, cmdSpeed := (t.epc.eng g).cmdSpeed
          hasRun := (s.epc.eng g).hasRun && (t.epc.eng g).run })
      ∧ t.portB = (s.portB.handDemand .e1 (engineDemandFrame s.settings.ports.gov1Order
            { engine := .e1, run := t.epc.e1.run, speed := t.epc.e1.cmdSpeed
              idle := t.epc.e1.run && t.epc.e1.cmdSpeed == s.settings.epc.idleRpm
              plan := t.epc.plan, lead := t.epc.lead == some .e1 })).handDemand .e2
          (engineDemandFrame s.settings.ports.gov2Order
            { engine := .e2, run := t.epc.e2.run, speed := t.epc.e2.cmdSpeed
              idle := t.epc.e2.run && t.epc.e2.cmdSpeed == s.settings.epc.idleRpm
              plan := t.epc.plan, lead := t.epc.lead == some .e2 })
      ∧ t = { s with epc := t.epc, inFlight := t.inFlight, portA := t.portA, portB := t.portB, sli := t.sli }
      ∧ noticesRaised (planNotices s.epc t.epc) (planNotices s.epc t.epc) s t

/-- What a plan interval does in each plan state. R120: with both engines RUNNING and AVAILABLE, AUTO_SINGLE set, no
hold, the dwell run out and the demand low for long enough, PLAN_TWIN passes to PLAN_COOLDOWN with the engine of fewer
hours as the lead, E1 when they are equal; R124: an EXCLUDED engine that has run forces the cooldown, with the other
AVAILABLE and RUNNING; where a condition fails, a count still short of down_intervals too, PLAN_TWIN stays. R121: a cooldown
returns to PLAN_TWIN on demand, counts down and ends in PLAN_SINGLE, and stands still in HOLD. R122: a demand start or
a swap enters PLAN_STARTING. R123: there the start timer counts down, and at its end the starting engine is FAILED,
commanded STOP, and reported as START_FAILED. PLAN_NONE stays. -/
def Obligations.PlanIntervalMovesThePlan : Prop :=
  ∀ s : State, s.supply = true →
    let c := s.settings.epc
    let other (e : Engine) : Engine := if e = .e1 then .e2 else .e1
    let raw := if s.epc.pcu = .fresh then s.epc.demand + c.reserve else 4000
    let hours (e : Engine) := if e = .e1 then s.smu.meter 0 else s.smu.meter 1
    ∃ t, exec .planIntervalExpiry s = .next t
      ∧ (s.epc.plan = .none → t.epc.plan = .none ∧ t.epc.lead = s.epc.lead)
      ∧ (s.epc.plan = .twin → s.epc.autoSingle = true → s.epc.hold = false → s.epc.dwell ≤ 1 →
          c.downIntervals ≤ min 65535 (s.epc.lowCount + 1) →
          t.epc.filter / 8 < c.singleEnter →
          (∀ e, s.epc.avail e = .available ∧ (s.epc.eng e).reported = .running) →
          t.epc.plan = .cooldown ∧ t.epc.lead = some (if s.smu.meter 1 < s.smu.meter 0 then .e2 else .e1)
            ∧ t.epc.cooldown = c.cooldownIntervals)
      ∧ (∀ e, s.epc.plan = .twin → s.epc.avail e = .excluded → (s.epc.eng e).hasRun = true →
          s.epc.avail (other e) = .available → (s.epc.eng (other e)).reported = .running →
          t.epc.plan = .cooldown ∧ t.epc.lead = some (other e) ∧ t.epc.cooldown = c.cooldownIntervals)
      ∧ (s.epc.plan = .twin → (∀ e, s.epc.avail e ≠ .excluded) →
          s.epc.autoSingle = false ∨ s.epc.hold = true ∨ 2 ≤ s.epc.dwell
            ∨ c.singleEnter ≤ t.epc.filter / 8 ∧ 1 ≤ c.downIntervals
            ∨ t.epc.filter / 8 < c.singleEnter ∧ s.epc.lowCount + 1 < c.downIntervals
            ∨ (∃ e, s.epc.avail e ≠ .available ∨ (s.epc.eng e).reported ≠ .running) →
          t.epc.plan = .twin ∧ t.epc.lead = s.epc.lead)
      ∧ (∀ e, s.epc.plan = .twin → s.epc.avail e = .excluded →
          (s.epc.eng e).hasRun = false ∨ s.epc.avail (other e) ≠ .available ∨ (s.epc.eng (other e)).reported ≠ .running →
          t.epc.plan = .twin ∧ t.epc.lead = s.epc.lead)
      ∧ (∀ l, s.epc.plan = .cooldown → s.epc.lead = some l →
          (s.epc.hold = true → t.epc.plan = .cooldown ∧ t.epc.lead = some l ∧ t.epc.cooldown = s.epc.cooldown)
          ∧ (s.epc.hold = false → c.twinEnter < t.epc.filter / 8 → s.epc.avail (other l) ≠ .excluded →
              t.epc.plan = .twin ∧ t.epc.lead = none ∧ t.epc.cooldown = 0 ∧ t.epc.lowCount = 0)
          ∧ (s.epc.hold = false → t.epc.filter / 8 ≤ c.twinEnter ∨ s.epc.avail (other l) = .excluded →
              t.epc.lead = some l ∧ t.epc.cooldown = s.epc.cooldown - 1
                ∧ t.epc.plan = (if s.epc.cooldown ≤ 1 then .single else .cooldown)))
      ∧ (∀ l, s.epc.plan = .single → s.epc.lead = some l → t.epc.lead = some l
          ∧ (s.epc.hold = true ∨ s.epc.avail (other l) ≠ .available → t.epc.plan = .single)
          ∧ (s.epc.hold = false → s.epc.avail (other l) = .available →
              (c.twinEnter < t.epc.filter / 8 ∨ 95 * s.epc.allowance < 100 * raw →
                t.epc.plan = .starting ∧ t.epc.starting = some (other l) ∧ t.epc.swap = false
                  ∧ t.epc.startTimer = c.startIntervals)
              ∧ (t.epc.filter / 8 ≤ c.twinEnter → 100 * raw ≤ 95 * s.epc.allowance →
                (hours (other l) + c.balanceUnits < hours l →
                  t.epc.plan = .starting ∧ t.epc.starting = some (other l) ∧ t.epc.swap = true
                    ∧ t.epc.startTimer = c.startIntervals)
                ∧ (hours l ≤ hours (other l) + c.balanceUnits → t.epc.plan = .single))))
      ∧ (∀ e, s.epc.plan = .starting → s.epc.starting = some e → s.epc.startTimer ≤ 1 →
          (t.epc.eng e).failed = true ∧ (t.epc.eng e).run = false ∧ t.epc.plan ≠ .starting ∧ t.epc.starting = none
            ∧ t.epc.swap = false
            ∧ (s.epc.avail (other e) = .available → t.epc.plan = .single ∧ t.epc.lead = some (other e))
            ∧ (s.epc.avail (other e) = .excluded → t.epc.plan = .twin ∧ t.epc.lead = none)
            ∧ (s.epc.avail (other e) = .failed → t.epc.plan = .none ∧ t.epc.lead = none)
            ∧ (.faultReport { code := .startFailed, clearing := false, detail := engineNumber e, frame := none } : Instr)
                ∈ t.inFlight)
      ∧ (∀ e, s.epc.plan = .starting → s.epc.starting = some e → 2 ≤ s.epc.startTimer →
          t.epc.plan = .starting ∧ t.epc.startTimer = s.epc.startTimer - 1 ∧ t.epc.lead = s.epc.lead
            ∧ t.inFlight = s.inFlight)

/-- R111, R114, R124: a consequence summary sets the excluded flags and the cap mark, and moves the plan where an
engine becomes EXCLUDED, by the first case of R124 that matches; a change of the cap that changes the effective mode
raises MODE_CAPPED into the cab's table, and a change of the plan state or of the lead PLAN_CHANGED into both (R116),
in that order by the model's choice (log 28). R129: the entry into HOLD sets the hold mark, holds the low-demand count
at 0 and leaves the plan; its clearing clears the mark; every step keeps it that while the mark is set every engine
commanded RUN is at idle speed and the allowance is at most hold_kW. -/
def Obligations.ConsequencesAndHoldReachThePlan : Prop :=
  (∀ (m : Consequences) (s : State), s.supply = true →
      let c := s.settings.epc
      let p := { s.epc with
        capEconomy := m.capEconomy, e1 := { s.epc.e1 with excluded := m.excludeE1 }
        e2 := { s.epc.e2 with excluded := m.excludeE2 } }
      ∃ t, exec (.consequenceSummary m) s = .next t
        ∧ t = { s with epc := t.epc, portA := t.portA, sli := t.sli
                       inFlight := s.inFlight.erase (.consequenceSummary m) }
        ∧ noticesRaised (capNotices s.epc t.epc ++ planNotices s.epc t.epc) (planNotices s.epc t.epc) s t
        ∧ t.epc.e1.excluded = m.excludeE1 ∧ t.epc.e2.excluded = m.excludeE2 ∧ t.epc.capEconomy = m.capEconomy
        ∧ (m.capEconomy = true ∨ m.excludeE1 = true ∧ m.excludeE2 = true → t.epc.effMode = .economy)
        ∧ (m.capEconomy = false → m.excludeE1 = false ∨ m.excludeE2 = false → t.epc.effMode = s.epc.modeReq)
        ∧ (s.epc.keyOff = true ∨ (∀ e, p.avail e = .excluded → s.epc.avail e = .excluded) → t.epc = p.reform c)
        ∧ ∀ e o : Engine, o ≠ e → s.epc.keyOff = false → p.avail e = .excluded → s.epc.avail e ≠ .excluded →
          exclusionMoves c e o p t.epc)
    ∧ (∀ s : State, s.supply = true →
      ∃ t, exec .epcHoldEntry s = .next t
        ∧ t = { s with epc := Epc.reform s.settings.epc { s.epc with hold := true, lowCount := 0 }
                       inFlight := s.inFlight.erase .epcHoldEntry }
        ∧ t.epc.hold = true ∧ t.epc.lowCount = 0 ∧ t.epc.plan = s.epc.plan ∧ t.epc.lead = s.epc.lead
        ∧ t.epc.allowance ≤ s.settings.epc.holdKw
        ∧ ∀ e, (t.epc.eng e).cmdSpeed = (if (t.epc.eng e).run then s.settings.epc.idleRpm else 0))
    ∧ (∀ s : State, s.supply = true →
      exec .epcHoldClear s = .next { s with
        inFlight := s.inFlight.erase .epcHoldClear, epc := Epc.reform s.settings.epc { s.epc with hold := false } })
    ∧ ∀ s t : State, heldLowOk s → step s = .next t → heldLowOk t

/-- R111: CLEAR_FAILED is refused for a number that is no engine and for an engine that is not FAILED; else the flag
is cleared, the clearing of both its faults is reported, and the commands and the allowance are re-formed, R124 applied
to an engine that becomes EXCLUDED by it. R115, R126: SET_MODE is refused for a value that is no
mode, then REFUSED_HOLD while the hold mark is set; AUTO_SINGLE is refused only while it is set, and set OFF it ends a
cooldown whose trail is not EXCLUDED in PLAN_TWIN and starts an AVAILABLE trail of PLAN_SINGLE; AUTO_IDLE is never
refused. R154: the clearing of the two faults is one report; that it bears the code ENGINE_LOST is the model's
choice (log 38). R116: a change of the plan state or of the lead raises PLAN_CHANGED into both notice tables, and that an
AUTO_SINGLE raises it before it is answered is the model's choice (log 28). -/
def Obligations.EngineRequests : Prop :=
  ∀ (k n : Nat) (v : Int) (on : Bool) (s : State), s.supply = true →
    let c := s.settings.epc
    let cleared (g : Engine) : Epc := s.epc.onEng g (fun r => { r with failed := false })
    let switched : Epc := { s.epc with autoSingle := on }
    (n ≠ 1 → n ≠ 2 → exec (.clearFailed n) s = .next (State.answerPlain .refusedRange
        { s with inFlight := s.inFlight.erase (.clearFailed n) }))
    ∧ (∀ g, engineNumber g = n →
      ((s.epc.eng g).failed = false → exec (.clearFailed n) s = .next (State.answerPlain .refusedState
        { s with inFlight := s.inFlight.erase (.clearFailed n) }))
      ∧ ((s.epc.eng g).failed = true →
        ∃ t : State, exec (.clearFailed n) s = .next (t.answerPlain .accepted)
          ∧ t = { s with epc := t.epc, inFlight := t.inFlight, portA := t.portA, sli := t.sli }
          ∧ (t.epc.eng g).failed = false
          ∧ (s.epc.keyOff = true ∨ (cleared g).avail g ≠ .excluded → t.epc = Epc.reform c (cleared g))
          ∧ (∀ o, o ≠ g → s.epc.keyOff = false → (cleared g).avail g = .excluded → exclusionMoves c g o (cleared g) t.epc)
          ∧ noticesRaised (planNotices s.epc t.epc) (planNotices s.epc t.epc) s t
          ∧ t.inFlight = s.inFlight.erase (.clearFailed n) ++
              [.faultReport { code := .engineLost, clearing := true, detail := n, frame := none }]))
    ∧ (v < 0 ∨ 2 < v → exec (.setMode k v) s = .next (State.answerCab k .refusedRange
        { s with inFlight := s.inFlight.erase (.setMode k v) }))
    ∧ (0 ≤ v → v ≤ 2 → s.epc.hold = true → exec (.setMode k v) s = .next (State.answerCab k .refusedHold
        { s with inFlight := s.inFlight.erase (.setMode k v) }))
    ∧ (0 ≤ v → v ≤ 2 → s.epc.hold = false →
        ∃ m : Mode, (v = 0 → m = .economy) ∧ (v = 1 → m = .standard) ∧ (v = 2 → m = .power)
          ∧ exec (.setMode k v) s = .next (State.answerCab k .accepted { s with
            epc := Epc.reform c { s.epc with modeReq := m }, inFlight := s.inFlight.erase (.setMode k v) }))
    ∧ (s.epc.hold = true → exec (.autoSingle k on) s = .next (State.answerCab k .refusedHold
        { s with inFlight := s.inFlight.erase (.autoSingle k on) }))
    ∧ (s.epc.hold = false →
        ∃ t, exec (.autoSingle k on) s = .next (State.answerCab k .accepted t)
          ∧ t = { s with epc := t.epc, portA := t.portA, sli := t.sli
                         inFlight := s.inFlight.erase (.autoSingle k on) }
          ∧ noticesRaised (planNotices s.epc t.epc) (planNotices s.epc t.epc) s t
          ∧ (on = true ∨ (s.epc.plan ≠ .cooldown ∧ s.epc.plan ≠ .single) → t.epc = switched.reform c)
          ∧ ∀ l o : Engine, o ≠ l → on = false → s.epc.lead = some l →
              (s.epc.plan = .cooldown → s.epc.avail o ≠ .excluded → t.epc = Epc.reform c { switched with
                plan := .twin, lead := none, starting := none, lowCount := 0 })
              ∧ (s.epc.plan = .single → s.epc.avail o = .available → t.epc = Epc.reform c { switched with
                plan := .starting, starting := some o, swap := false, startTimer := c.startIntervals })
              ∧ ((s.epc.plan = .cooldown ∧ s.epc.avail o = .excluded) ∨ (s.epc.plan = .single ∧ s.epc.avail o ≠ .available) →
                  t.epc = switched.reform c))
    ∧ exec (.autoIdle k on) s = .next (State.answerCab k .accepted { s with
        inFlight := s.inFlight.erase (.autoIdle k on)
        epc := Epc.reform c { s.epc with
          autoIdle := on, idle := if on then s.epc.idle else false
          neutralCount := if on then s.epc.neutralCount else 0 } })

/-! ## Service meters and items -/

/-- R134, R136, R138: at a one-second step the residue of an hours meter gains a second while its condition holds, and
of a fuel meter its rate unless that is 65535; whole units go to the meter; the EPC gets the sum of the units added.
The snapshot count gains one while an engine is RUNNING and at 360 sets the snapshot-due mark; while the mark is set
the step requests a METERS store, which clears mark and count when the queue takes it and leaves both when it refuses
it. R141: each change of a classification raises REMINDER_CHANGED into both notice tables (unit by unit, the model's
choice, log 18). -/
def Obligations.OneSecondStepAccrues : Prop :=
  ∀ s : State, s.supply = true → s.smu.meters.length = 8 → s.smu.residues.length = 8 →
    ∃ t, exec .smuOneSecondStep s = .next t
      ∧ (∀ g : Engine, (s.epc.eng g).reported ≠ .running → ∀ k, k = (if g = .e1 then 0 else 1) →
          t.smu.residue k = s.smu.residue k ∧ t.smu.meter k = s.smu.meter k)
      ∧ (∀ g : Engine, (s.epc.eng g).reported = .running → ∀ k, k = (if g = .e1 then 0 else 1) →
          s.smu.meter k < 4294967295 → s.smu.residue k < 36 →
          36 * t.smu.meter k + t.smu.residue k = 36 * s.smu.meter k + s.smu.residue k + 1 ∧ t.smu.residue k < 36)
      ∧ (∀ g : Engine, ∀ k, k = (if g = .e1 then 3 else 4) → (s.epc.eng g).fuel ≤ 65535 → s.smu.residue k < 36000 →
          s.smu.meter k + 2 < 4294967295 →
          36000 * t.smu.meter k + t.smu.residue k
            = 36000 * s.smu.meter k + s.smu.residue k + (if (s.epc.eng g).fuel = 65535 then 0 else (s.epc.eng g).fuel)
            ∧ t.smu.residue k < 36000)
      ∧ (s.smu.meter 2 < 4294967295 → s.smu.residue 2 < 36 →
          36 * t.smu.meter 2 + t.smu.residue 2 = 36 * s.smu.meter 2 + s.smu.residue 2
            + (if s.epc.e1.reported = .running ∨ s.epc.e2.reported = .running then 1 else 0)
          ∧ t.smu.residue 2 < 36)
      ∧ (s.smu.meter 7 < 4294967295 → s.smu.residue 7 < 36 →
          36 * t.smu.meter 7 + t.smu.residue 7 = 36 * s.smu.meter 7 + s.smu.residue 7 + (if s.smu.travel then 1 else 0)
          ∧ t.smu.residue 7 < 36)
      ∧ (.tripFuelIncrement ((if s.epc.e1.fuel = 65535 then 0 else s.epc.e1.fuel)
            + (if s.epc.e2.fuel = 65535 then 0 else s.epc.e2.fuel)) : Instr) ∈ t.inFlight
      ∧ (∃ (n : Nat) (due : Bool),
          (s.epc.e1.reported = .running ∨ s.epc.e2.reported = .running →
            n = min 360 (s.smu.snapCount + 1) ∧ (due = true ↔ s.smu.snapDue = true ∨ n = 360))
          ∧ (s.epc.e1.reported ≠ .running → s.epc.e2.reported ≠ .running → n = s.smu.snapCount ∧ due = s.smu.snapDue)
          ∧ (due = false → t.smu.snapCount = n ∧ t.smu.snapDue = false ∧ t.nvc.queue = s.nvc.queue)
          ∧ (due = true → s.nvc.takes .meters = true →
              t.smu.snapCount = 0 ∧ t.smu.snapDue = false ∧ (storesOk s → t.nvc.queued .meters = true))
          ∧ (due = true → s.nvc.takes .meters = false →
              t.smu.snapCount = n ∧ t.smu.snapDue = true ∧ t.nvc.queue = s.nvc.queue))
      ∧ remindersRaised (∀ k, t.smu.meter k ≤ s.smu.meter k + 1) s t
      ∧ t = { s with smu := t.smu, inFlight := t.inFlight, portA := t.portA, sli := t.sli, nvc := t.nvc }

/-- R135: the travel flag of the SMU follows each PUMP_STATUS, is cleared by a staleness event for the PCU, is left by a
freshness event, and is clear after power-on and restart. -/
def Obligations.TravelFlagFollowsThePcu : Prop :=
  ∀ (travel : Bool) (s : State), s.supply = true →
    exec (.smuPumpStatus travel) s = .next
      { s with inFlight := s.inFlight.erase (.smuPumpStatus travel), smu := { s.smu with travel := travel } }
    ∧ exec .smuPcuStaleness s = .next
      { s with inFlight := s.inFlight.erase .smuPcuStaleness, smu := { s.smu with travel := false } }
    ∧ exec .smuPcuFreshness s = .next { s with inFlight := s.inFlight.erase .smuPcuFreshness }
    ∧ (∀ u : State, u.supply = false → ∃ t, exec .powerOn u = .next t ∧ t.smu.travel = false)
    ∧ (s.restartDue = true → ∃ t, exec .supervisorRestart s = .next t ∧ t.smu.travel = false)

/-- R137: a slew increment goes to the residue of SLEW_TURNS, a turn to 65,536; a cycle end adds one to BUCKET_CYCLES;
no other meter changes. R141: each item on the meter is classified anew, a change clearing its acknowledged flag and
raising REMINDER_CHANGED into both notice tables (unit by unit, the model's choice, log 18). R131: the trip record
takes a fuel increment a litre to 36,000 units, saturating, counts the cycle ends, and is zeroed by TRIP_RESET. -/
def Obligations.MetersAndTripAdvance : Prop :=
  (∀ (x : Nat) (s : State), s.supply = true → s.smu.meters.length = 8 → s.smu.residues.length = 8 →
      s.smu.meter 5 + (s.smu.residue 5 + x) / 65536 ≤ 4294967295 →
      ∃ t, exec (.slewIncrement x) s = .next t
        ∧ t.smu.residue 5 = (s.smu.residue 5 + x) % 65536
        ∧ t.smu.meter 5 = s.smu.meter 5 + (s.smu.residue 5 + x) / 65536
        ∧ (∀ k, k ≠ 5 → t.smu.meter k = s.smu.meter k ∧ t.smu.residue k = s.smu.residue k)
        ∧ remindersRaised (t.smu.meter 5 ≤ s.smu.meter 5 + 1) s t
        ∧ t = { s with smu := t.smu, inFlight := t.inFlight, portA := t.portA, sli := t.sli })
    ∧ (∀ s : State, s.supply = true → s.smu.meters.length = 8 →
      ∃ t, exec .smuCycleEnd s = .next t
        ∧ t.smu.meter 6 = min 4294967295 (s.smu.meter 6 + 1)
        ∧ (∀ k, k ≠ 6 → t.smu.meter k = s.smu.meter k) ∧ t.smu.residues = s.smu.residues
        ∧ t.smu.items = s.smu.items.map (fun i => if i.defn.basis = 6 then
            { i with state := i.classify (t.smu.meter 6), acked := i.acked && i.state == i.classify (t.smu.meter 6) }
          else i)
        ∧ remindersRaised True s t
        ∧ t = { s with smu := t.smu, inFlight := t.inFlight, portA := t.portA, sli := t.sli })
    ∧ (∀ (u : Nat) (s : State), s.supply = true →
      exec (.tripFuelIncrement u) s = .next { s with
        inFlight := s.inFlight.erase (.tripFuelIncrement u)
        epc := { s.epc with
          tripFuel := min 4294967295 (s.epc.tripFuel + (s.epc.tripResidue + u) / 36000)
          tripResidue := (s.epc.tripResidue + u) % 36000 } })
    ∧ (∀ s : State, s.supply = true →
      exec .epcCycleEnd s = .next { s with
        inFlight := s.inFlight.erase .epcCycleEnd
        epc := { s.epc with tripCycles := min 4294967295 (s.epc.tripCycles + 1) } })
    ∧ ∀ (k : Nat) (s : State), s.supply = true →
      exec (.tripReset k) s = .next (State.answerCab k .accepted { s with
        inFlight := s.inFlight.erase (.tripReset k)
        epc := { s.epc with tripFuel := 0, tripResidue := 0, tripCycles := 0 } })

/-- R144 to R146, R148: the item and meter requests, each answered by its first check that fails. An acknowledgement
is refused for a number above 31, an item not in use, or one that is OK. A reset that is allowed and stored sets the
mark to the meter and clears the flag; the queue's refusal answers REFUSED_BUSY, and a refusal of any kind changes no
item, meter or queue. A preset raises its meter to the value, never lowers it. R141: each change of a classification
raises REMINDER_CHANGED into both notice tables. -/
def Obligations.ItemAndMeterRequests : Prop :=
  (∀ (k n : Nat) (s : State), s.supply = true →
      ∃ code t, exec (.reminderAck k n) s = .next (State.answerCab k code t)
        ∧ t = { s with smu := t.smu, inFlight := s.inFlight.erase (.reminderAck k n) }
        ∧ (31 < n → code = .refusedRange)
        ∧ (n ≤ 31 → (s.smu.item n).defn.inUse = false ∨ (s.smu.item n).state = some .ok → code = .refusedState)
        ∧ (code ≠ .accepted → t.smu = s.smu)
        ∧ (n ≤ 31 → s.smu.items.length = 32 → (s.smu.item n).defn.inUse = true → (s.smu.item n).state ≠ some .ok →
            code = .accepted ∧ (t.smu.item n).acked = true))
    ∧ (∀ (k n : Nat) (s : State), s.supply = true → storesOk s → s.smu.items.length = 32 →
      ∃ code p t, exec (.cabItemDone k n) s = .next t
        ∧ t = { s with smu := t.smu, portA := p.answered k code, sli := t.sli, nvc := t.nvc, inFlight := t.inFlight }
        ∧ (∃ l, l = (if (t.smu.item n).state = (s.smu.item n).state then [] else [.reminderChanged])
            ∧ p = s.portA.raisedAll l ∧ t.sli = { s.sli with counts := countsAfter l s.sli.counts })
        ∧ (31 < n → code = .refusedRange)
        ∧ (n ≤ 31 → (s.smu.item n).defn.inUse = false → code = .refusedState)
        ∧ (n ≤ 31 → (s.smu.item n).defn.inUse = true →
            ((s.smu.item n).defn.operatorReset = false → code = .refusedNotOwner)
            ∧ ((s.smu.item n).defn.operatorReset = true →
                ((s.smu.item n).state = some .ok ∨ (s.smu.item n).state = some .overdue → code = .refusedState)
                ∧ ((s.smu.item n).state = some .dueSoon ∨ (s.smu.item n).state = some .due →
                    code = (if s.nvc.takes .items then .accepted else .refusedBusy))))
        ∧ (code ≠ .accepted → t.smu = s.smu ∧ p = s.portA ∧ t.sli = s.sli ∧ t.nvc.queue = s.nvc.queue)
        ∧ (code = .accepted → t.smu.meters = s.smu.meters ∧ t.smu.residues = s.smu.residues
            ∧ (∀ j, j ≠ n → t.smu.item j = s.smu.item j)
            ∧ (t.smu.item n).mark = s.smu.meter (s.smu.item n).defn.basis ∧ (t.smu.item n).acked = false
            ∧ t.nvc.queued .items = true))
    ∧ (∀ (n : Nat) (s : State), s.supply = true → storesOk s → s.smu.items.length = 32 →
      ∃ code t, exec (.itemDone n) s = .next t
        ∧ t = { s with smu := t.smu, portA := t.portA, sli := t.sli, nvc := t.nvc, inFlight := t.inFlight
                       freeCount := t.freeCount }
        ∧ (∀ tag busy bt, s.sli.buffer = .pending tag busy bt →
            ∃ a, t.sli.buffer = .ready a ∧ a.tag = tag ∧ a.busy = busy ∧ a.busyTag = bt ∧ a.result = code)
        ∧ (31 < n → code = .refusedRange)
        ∧ (n ≤ 31 → (s.smu.item n).defn.inUse = false → code = .refusedState)
        ∧ (n ≤ 31 → (s.smu.item n).defn.inUse = true →
            code = (if s.nvc.takes .items then .accepted else .refusedBusy))
        ∧ (∃ l, l = (if (t.smu.item n).state = (s.smu.item n).state then [] else [.reminderChanged])
            ∧ t.portA = s.portA.raisedAll l ∧ t.sli.counts = countsAfter l s.sli.counts)
        ∧ (code ≠ .accepted → t.smu = s.smu ∧ t.portA = s.portA ∧ t.nvc.queue = s.nvc.queue)
        ∧ (code = .accepted → t.smu.meters = s.smu.meters ∧ t.smu.residues = s.smu.residues
            ∧ (∀ j, j ≠ n → t.smu.item j = s.smu.item j)
            ∧ (t.smu.item n).mark = s.smu.meter (s.smu.item n).defn.basis ∧ (t.smu.item n).acked = false
            ∧ t.nvc.queued .items = true ∧ ∃ e ∈ t.nvc.queue, e.record = .items ∧ e.service = true))
    ∧ ∀ (k v : Nat) (s : State), s.supply = true → storesOk s → s.smu.meters.length = 8 → v ≤ 4294967295 →
      ∃ code t, exec (.meterPreset k v) s = .next t
        ∧ t = { s with smu := t.smu, portA := t.portA, sli := t.sli, nvc := t.nvc, inFlight := t.inFlight
                       freeCount := t.freeCount }
        ∧ (∀ tag busy bt, s.sli.buffer = .pending tag busy bt →
            ∃ a, t.sli.buffer = .ready a ∧ a.tag = tag ∧ a.busy = busy ∧ a.busyTag = bt ∧ a.result = code)
        ∧ (7 < k ∨ v < s.smu.meter k → code = .refusedRange)
        ∧ (k ≤ 7 → s.smu.meter k ≤ v → code = (if s.nvc.takes .meters then .accepted else .refusedBusy))
        ∧ (∃ l, l = List.replicate (itemsMoved s.smu.items t.smu.items) .reminderChanged
            ∧ t.portA = s.portA.raisedAll l ∧ t.sli.counts = countsAfter l s.sli.counts)
        ∧ (code ≠ .accepted → t.smu = s.smu ∧ t.portA = s.portA ∧ t.nvc.queue = s.nvc.queue)
        ∧ (code = .accepted → t.smu.meter k = v ∧ t.smu.residues = s.smu.residues
            ∧ (∀ j, j ≠ k → t.smu.meter j = s.smu.meter j) ∧ t.nvc.queued .meters = true
            ∧ ∃ e ∈ t.nvc.queue, e.record = .meters ∧ e.service = true)

/-! ## Faults and hold -/

/-- R152, R154, R155, R159, R161: what a fault report does, by its class: a record with the next sequence number and
every field of R155 at the head of the ring, the counter going on by one, from 4,294,967,295 to 1, or none for a clearing
and for a fault already raised; a latching report enters HOLD with its code and detail, or while HELD is a second fault
that raises the escalation count, keeps the cause and tells the LEV and the EPC nothing, and requests the HOLD store
again exactly while the unstored mark is set. R154: the key of
four codes is their detail, and one clearing report of ENGINE_LOST or START_FAILED removes both pairs of its engine, any
other its own entry. R156, R159: each record raises FAULT_RECORDED, and an entry into HOLD then HOLD_ENTERED, into both
notice tables, and a store of HOLD as a head request (R160). -/
def Obligations.FaultReportsAreTakenByClass : Prop :=
  ∀ (r : FaultReport) (s : State), s.supply = true →
    ∃ t, exec (.faultReport r) s = .next t
      ∧ t = { s with fhu := t.fhu, portA := t.portA, sli := t.sli, nvc := t.nvc, inFlight := t.inFlight }
      ∧ activeKey r = (r.code,
          if r.code ∈ [.sensorMissing, .sensorRange, .engineLost, .startFailed] then some r.detail else none)
      ∧ (faultClass r.code = .advisory →
          recorded r false s t ∧ t.fhu = { s.fhu with ring := t.fhu.ring, seq := t.fhu.seq })
      ∧ (faultClass r.code = .recoverable → r.clearing = true →
          (r.code ≠ .engineLost → r.code ≠ .startFailed →
            t.fhu = { s.fhu with active := s.fhu.active.filter (fun x => x ≠ activeKey r) })
          ∧ (r.code = .engineLost ∨ r.code = .startFailed →
            t.fhu = { s.fhu with active := s.fhu.active.filter (fun x =>
              x ≠ (.engineLost, some r.detail) ∧ x ≠ (.startFailed, some r.detail)) })
          ∧ noticesRaised [] [] s t)
      ∧ (faultClass r.code = .recoverable → r.clearing = false → activeKey r ∈ s.fhu.active →
          t.fhu = s.fhu ∧ noticesRaised [] [] s t)
      ∧ (faultClass r.code = .advisory ∨ (faultClass r.code = .recoverable ∧ r.clearing = false ∧ activeKey r ∉ s.fhu.active)
          ∨ (faultClass r.code = .latching ∧ s.fhu.held.isSome = true) →
          noticesRaised [.faultRecorded] [.faultRecorded] s t)
      ∧ (faultClass r.code = .latching → s.fhu.held = none →
          noticesRaised [.faultRecorded, .holdEntered] [.faultRecorded, .holdEntered] s t)
      ∧ (faultClass r.code = .recoverable → r.clearing = false → activeKey r ∉ s.fhu.active →
          recorded r false s t
            ∧ t.fhu = { s.fhu with ring := t.fhu.ring, seq := t.fhu.seq, active := s.fhu.active ++ [activeKey r] })
      ∧ (faultClass r.code ≠ .latching → t.nvc.queue = s.nvc.queue)
      ∧ (faultClass r.code = .latching → s.fhu.held = none →
          recorded r false s t
            ∧ t.fhu = { s.fhu with
                ring := t.fhu.ring, seq := t.fhu.seq, held := some { code := r.code, detail := r.detail }
                unstored := !s.nvc.takes .hold }
            ∧ (.levHoldEntry : Instr) ∈ t.inFlight ∧ (.epcHoldEntry : Instr) ∈ t.inFlight
            ∧ t.nvc.queue = (s.nvc.requested .hold true false).queue)
      ∧ (∀ c, faultClass r.code = .latching → s.fhu.held = some c →
          recorded r true s t
            ∧ t.fhu = { s.fhu with
                ring := t.fhu.ring, seq := t.fhu.seq, escalation := min 255 (s.fhu.escalation + 1)
                unstored := s.fhu.unstored && !s.nvc.takes .hold }
            ∧ (s.fhu.unstored = true → t.nvc.queue = (s.nvc.requested .hold true false).queue)
            ∧ (s.fhu.unstored = false → t.nvc.queue = s.nvc.queue)
            ∧ ∀ m ∈ ([.levHoldEntry, .epcHoldEntry] : List Instr), m ∈ t.inFlight → m ∈ s.inFlight)

/-- R162: CLEAR_HOLD while HELD is refused REFUSED_STATE with the sum of the detail bits of the causes present (1 a
pose invalid or not yet formed, 2 a deep breach, 4 the built-in configuration), and with none present is ACCEPTED,
clears the hold and hands the clearing on; while CLEAR it is refused REFUSED_STATE with detail 0 unless the clearing
is still to be stored. The detail of an ACCEPTED one is 0 when its store request, a head request with the service mark
(R168), is taken and 1 when it is refused. The clearing raises HOLD_CLEARED into both notice tables. That the answer
returns 0 entries and no data, as any answer without entries, is the model's choice (log 11). -/
def Obligations.ClearHoldJudgesTheCauses : Prop :=
  ∀ s : State, s.supply = true →
    let pose := match s.geu.current with
      | some r => if r.pose.valid then 0 else 1
      | none => 1
    let deep := if s.lev.zones.any (fun z => z.deep) then 2 else 0
    let sum : Nat := pose + deep + (if s.nvc.builtIn then 4 else 0)
    let stored : Nat := if s.nvc.takes .hold then 0 else 1
    ∃ t code, ∃ detail : Nat, exec .clearHold s = .next t
      ∧ t = { s with fhu := t.fhu, portA := t.portA, sli := t.sli, nvc := t.nvc, inFlight := t.inFlight
                     freeCount := t.freeCount }
      ∧ (∀ tag busy bt, s.sli.buffer = .pending tag busy bt →
          ∃ a, t.sli.buffer = .ready a ∧ a.tag = tag ∧ a.busy = busy ∧ a.busyTag = bt ∧ a.result = code
            ∧ a.detail.toNat = detail ∧ a.returned = 0 ∧ a.data = [])
      ∧ (s.fhu.held.isSome = true → sum ≠ 0 →
          code = .refusedState ∧ detail = sum ∧ t.fhu = s.fhu ∧ t.portA = s.portA ∧ t.nvc.queue = s.nvc.queue
            ∧ t.sli.counts = s.sli.counts)
      ∧ (s.fhu.held.isSome = true → sum = 0 →
          code = .accepted ∧ detail = stored ∧ t.fhu.held = none ∧ t.fhu.escalation = 0 ∧ t.fhu.ring = s.fhu.ring
            ∧ t.fhu.unstored = !s.nvc.takes .hold ∧ t.nvc.queue = (s.nvc.requested .hold true true).queue
            ∧ t.portA = s.portA.raisedAll [.holdCleared] ∧ t.sli.counts = countsAfter [.holdCleared] s.sli.counts
            ∧ (.levHoldClear : Instr) ∈ t.inFlight ∧ (.epcHoldClear : Instr) ∈ t.inFlight)
      ∧ (s.fhu.held = none → s.fhu.unstored = false →
          code = .refusedState ∧ detail = 0 ∧ t.fhu = s.fhu ∧ t.portA = s.portA ∧ t.nvc.queue = s.nvc.queue
            ∧ t.sli.counts = s.sli.counts)
      ∧ (s.fhu.held = none → s.fhu.unstored = true →
          code = .accepted ∧ detail = stored ∧ t.fhu = { s.fhu with unstored := !s.nvc.takes .hold } ∧ t.portA = s.portA
            ∧ t.sli.counts = s.sli.counts ∧ t.nvc.queue = (s.nvc.requested .hold true true).queue)

/-! ## Key, PWRFAIL -/

/-- R130, R170: KEY-off in RUN enters SHUTTING_DOWN, commands STOP to both engines, clears their has-run marks, takes the
plan to PLAN_NONE with swap mark, timers, low-demand count, restart dwell and idle state cleared and the rest of the EPC
kept, and requests METERS, ITEMS and each unstored zone record, in that order: an entry that waits absorbs its request, one with
its write in flight gets its again mark, the free places at the tail go to the first of the others, and what is left
stays on the key-off list (one is retried at each completion, WritesKeepAStoredRecord). The owners' marks follow what was
taken. Elsewhere it changes nothing. R171: KEY-on returns to RUN, empties the list and clears the key-off and run-seen
marks, with the commands and the allowance re-formed and the rest of the EPC kept; every step keeps READY_OFF, with SHUTDOWN_READY, exactly where the queue, the write and the list are empty out of
RUN. R172: PWRFAIL requests METERS as a head request: the entry stands directly behind the write in flight, or first; a
METERS write in flight gets its again mark, and a full queue refuses it; its end changes nothing. R116: KEY-off raises
PLAN_CHANGED into both notice tables where it changes the plan state or the lead. That KEY_OFF, KEY_ON and PWRFAIL_ASSERT
act also where their line already has that level is the model's choice (log 28). -/
def Obligations.KeyAndPwrfailEvents : Prop :=
  (∀ s t : State, powerOk s → step s = .next t → powerOk t)
    ∧ ∀ s : State, s.supply = true → storesOk s →
    let waits (r : RecordId) : Prop := r ∈ s.nvc.queue.map StoreEntry.record
    let inWrite (r : RecordId) : Prop := s.nvc.write.map NvWrite.record = some r
    (∃ t, exec .keyOff s = .next t ∧ t.lines.key = false
      ∧ (s.nvc.power = .run → t.nvc.power = .shuttingDown
          ∧ t.epc = { s.epc with
              keyOff := true, plan := .none, lead := none, starting := none, swap := false, startTimer := 0, cooldown := 0
              lowCount := 0, dwell := 0, idle := false, allowance := 0
              e1 := { s.epc.e1 with run := false, cmdSpeed := 0, hasRun := false }
              e2 := { s.epc.e2 with run := false, cmdSpeed := 0, hasRun := false } }
          ∧ t.env.entries = s.env.entries ∧ t.smu.meters = s.smu.meters ∧ t.smu.items = s.smu.items
          ∧ noticesRaised (planNotices s.epc t.epc) (planNotices s.epc t.epc) s t
          ∧ t = { s with lines := { s.lines with key := false }, nvc := t.nvc, epc := t.epc, env := t.env, smu := t.smu
                         portA := t.portA, sli := t.sli, inFlight := t.inFlight }
          ∧ ∃ listed absent : List RecordId,
              listed = [.meters, .items] ++ (if s.env.unstoredSite then [.zonesSite] else [])
                ++ (if s.env.unstoredOper then [.zonesOper] else [])
              ∧ absent = listed.filter (fun r => ¬waits r)
              ∧ t.nvc.queue = s.nvc.queue.map (fun e =>
                    if e.record ∈ listed ∧ inWrite e.record then { e with again := true } else e)
                  ++ (absent.take (4 - s.nvc.queue.length)).map (fun r => { record := r, again := false, service := false })
              ∧ t.nvc.keyList = absent.drop (4 - s.nvc.queue.length)
              ∧ t.env = { s.env with
                  unstoredSite := decide (.zonesSite ∈ t.nvc.keyList)
                  unstoredOper := decide (.zonesOper ∈ t.nvc.keyList) }
              ∧ t.smu = (if .meters ∈ t.nvc.keyList then s.smu else { s.smu with snapDue := false, snapCount := 0 }))
      ∧ (s.nvc.power ≠ .run → t = { s with lines := { s.lines with key := false } }))
    ∧ (∃ t, exec .keyOn s = .next t ∧ t.lines.key = true ∧ t.nvc.power = .run
      ∧ (s.nvc.power ≠ .run →
          t = { s with lines := { s.lines with key := true }, nvc := { s.nvc with power := .run, keyList := [] }
                       epc := Epc.reform s.settings.epc { s.epc with keyOff := false, runSeen := false } })
      ∧ (s.nvc.power = .run → t = { s with lines := { s.lines with key := true } }))
    ∧ (∃ t, exec .pwrfailAssert s = .next t ∧ t.lines.pwrfail = true ∧ t.nvc.queued .meters = s.nvc.takes .meters
      ∧ t.smu = (if s.nvc.takes .meters then { s.smu with snapDue := false, snapCount := 0 } else s.smu)
      ∧ t = { s with lines := { s.lines with pwrfail := true }, nvc := t.nvc, smu := t.smu, inFlight := t.inFlight }
      ∧ t.nvc.queue = (s.nvc.requested .meters true false).queue
      ∧ (inWrite .meters → t.nvc.queue = s.nvc.queue.map (fun e =>
          if e.record = .meters then { e with again := true } else e))
      ∧ (¬inWrite .meters → waits .meters ∨ s.nvc.queue.length < 4 → ∃ e : StoreEntry, e.record = .meters
          ∧ (waits .meters → e ∈ s.nvc.queue)
          ∧ (¬waits .meters → e = { record := .meters, again := false, service := false })
          ∧ ∃ others, others = s.nvc.queue.filter (fun x => x.record ≠ .meters)
            ∧ (s.nvc.write = none → t.nvc.queue = e :: others)
            ∧ (s.nvc.write ≠ none → t.nvc.queue = others.take 1 ++ e :: others.drop 1))
      ∧ (¬waits .meters → s.nvc.queue.length = 4 → t.nvc.queue = s.nvc.queue))
    ∧ exec .pwrfailDeassert s = .next { s with lines := { s.lines with pwrfail := false } }

/-! ## Bus ports -/

/-- R176: a step of port A ages the cab, stale at 100 steps, with its staleness event, its fault and the assembly
emptied (R184) as it goes STALE; a step of port B ages its three nodes, stale at 10, 30 and 30, each with its staleness
events to its owners and its fault as it goes STALE; ages saturate at 255, and nothing else changes (their order in
flight is the model's choice, log 28). -/
def Obligations.NodesGoStaleAtTheirLimits : Prop :=
  (∀ s : State, s.supply = true →
      ∃ t, exec (.stepTimerExpiry .a) s = .next t
        ∧ t = { s with portA := t.portA, inFlight := t.inFlight }
        ∧ t.portA = { s.portA with cab := t.portA.cab, assembly := t.portA.assembly }
        ∧ t.portA.cab = { age := min 255 (s.portA.cab.age + 1)
                          state := if 99 ≤ s.portA.cab.age then .stale else s.portA.cab.state }
        ∧ t.portA.assembly =
            (if 99 ≤ s.portA.cab.age ∧ s.portA.cab.state ≠ .stale then none else s.portA.assembly)
        ∧ t.inFlight = s.inFlight
            ++ (if 99 ≤ s.portA.cab.age ∧ s.portA.cab.state ≠ .stale then
                [.envCabStaleness, .faultReport { code := .cabStale, clearing := false, detail := 2, frame := none }]
              else []))
    ∧ ∀ s : State, s.supply = true →
      ∃ t, exec (.stepTimerExpiry .b) s = .next t
        ∧ t = { s with portB := t.portB, inFlight := t.inFlight }
        ∧ t.portB.pcu = { age := min 255 (s.portB.pcu.age + 1)
                          state := if 9 ≤ s.portB.pcu.age then .stale else s.portB.pcu.state }
        ∧ t.portB.gov1 = { age := min 255 (s.portB.gov1.age + 1)
                           state := if 29 ≤ s.portB.gov1.age then .stale else s.portB.gov1.state }
        ∧ t.portB.gov2 = { age := min 255 (s.portB.gov2.age + 1)
                           state := if 29 ≤ s.portB.gov2.age then .stale else s.portB.gov2.state }
        ∧ t.portB = { s.portB with pcu := t.portB.pcu, gov1 := t.portB.gov1, gov2 := t.portB.gov2 }
        ∧ t.inFlight = s.inFlight
            ++ (if 9 ≤ s.portB.pcu.age ∧ s.portB.pcu.state ≠ .stale then
                [.cytPcuStaleness, .epcPcuStaleness, .smuPcuStaleness,
                  .faultReport { code := .pcuStale, clearing := false, detail := 3, frame := none }] else [])
            ++ (if 29 ≤ s.portB.gov1.age ∧ s.portB.gov1.state ≠ .stale then
                [.governorStaleness .e1,
                  .faultReport { code := .gov1Stale, clearing := false, detail := 4, frame := none }] else [])
            ++ (if 29 ≤ s.portB.gov2.age ∧ s.portB.gov2.state ≠ .stale then
                [.governorStaleness .e2,
                  .faultReport { code := .gov2Stale, clearing := false, detail := 5, frame := none }] else [])

/-- R174, R176, R177, R180, R187: a frame that the table of R174 does not take in changes nothing; nor does a machine
bus message of another length, or one that finds port B off its bus. A PUMP_STATUS or an ENGINE_STATUS taken in makes
its node FRESH with age 0, with its freshness events to its owners where it was not FRESH and the clearing of its
fault where it was STALE, and is delivered decoded: demand, flags, state code, load cut to 100, speed and fuel in the
node's byte order (the order of these in flight is the model's choice, log 28). -/
def Obligations.MachineBusMessagesAreDelivered : Prop :=
  (∀ (rx : RxFrame) (s : State), s.supply = true →
      ¬(rx.format = .standard
        ∧ (rx.port = .a ∧ rx.id = 642 ∧ rx.length = 12
          ∨ rx.port = .b ∧ (rx.id = 195 ∨ rx.id = 324 ∨ rx.id = 325) ∧ rx.length = 8)) →
      exec (.ignoredFrame rx) s = .next s)
    ∧ (∀ (g : Engine) (data : List Byte) (s : State), s.supply = true → s.portB.on = false ∨ data.length ≠ 8 →
      exec (.pumpStatus data) s = .next s ∧ exec (.engineStatus g data) s = .next s)
    ∧ (∀ (b0 b1 b2 b3 b4 b5 b6 b7 : Byte) (s : State), s.supply = true → s.portB.on = true →
        ∃ t demand, exec (.pumpStatus [b0, b1, b2, b3, b4, b5, b6, b7]) s = .next t
          ∧ t = { s with portB := t.portB, inFlight := t.inFlight }
          ∧ t.portB = { s.portB with pcu := { age := 0, state := .fresh } }
          ∧ demand = (if s.settings.ports.pcuOrder = .lowFirst then b0.toNat + 256 * b1.toNat
              else b1.toNat + 256 * b0.toNat)
          ∧ ∃ l, l = (if s.portB.pcu.state = .fresh then [] else [.cytPcuFreshness, .epcPcuFreshness, .smuPcuFreshness])
                ++ (if s.portB.pcu.state = .stale then
                    [.faultReport { code := .pcuStale, clearing := true, detail := 3, frame := none }] else [])
            ∧ t.inFlight = s.inFlight ++ l ++ [.epcPumpStatus demand (b2.getLsbD 0), .cytPumpStatus (b2.getLsbD 1),
              .smuPumpStatus (b2.getLsbD 1)])
    ∧ ∀ (g : Engine) (b0 b1 b2 b3 b4 b5 b6 b7 : Byte) (s : State), s.supply = true → s.portB.on = true →
        ∃ t low, exec (.engineStatus g [b0, b1, b2, b3, b4, b5, b6, b7]) s = .next t
          ∧ t = { s with portB := t.portB, inFlight := t.inFlight }
          ∧ t.portB = (if g = .e1 then { s.portB with gov1 := { age := 0, state := .fresh } }
              else { s.portB with gov2 := { age := 0, state := .fresh } })
          ∧ low = (s.settings.ports.govOrder g == .lowFirst)
          ∧ ∃ l, l = (if (s.portB.gov g).state = .fresh then [] else [.governorFreshness g])
                ++ (if (s.portB.gov g).state = .stale then
                    [.faultReport { code := if g = .e1 then .gov1Stale else .gov2Stale, clearing := true
                                    detail := if g = .e1 then 4 else 5, frame := none }] else [])
            ∧ t.inFlight = s.inFlight ++ l ++ [.epcEngineStatus g b0 (min 100 b1.toNat)
              (if low then b2.toNat + 256 * b3.toNat else b3.toNat + 256 * b2.toNat)
              (if low then b4.toNat + 256 * b5.toNat else b5.toNat + 256 * b4.toNat)]

/-- R183, R184: a request taken in makes the cab FRESH, with its freshness event where it was not. PRESENCE does no
more. A part 0 is held in the assembly; a matching part 1 completes its request, and an unmatched one is discarded. A
request finding all four places taken is discarded; with a place free one is reserved for its result, and the request
is routed to its owner by its kind with its operands, or, of an unknown kind or with a switch that is neither 0 nor 1,
refused REFUSED_RANGE there. That a place goes by a number, that an operand that did not come and a negative code of a
zone edit read 0, that a zone edit's kind and mode are coded as in R74, and that a row for a special case of an arrival
acts as that arrival, so that an UNMATCHED_PART_1 whose part 0 is held completes its request, are the model's choice
(logs 13, 12, 39 and 21). R180: while port A is bus-off a request changes nothing. -/
def Obligations.CabRequestsAreHandledByKind : Prop :=
  (∀ (n kind part : Byte) (ops : List Int) (s : State), s.supply = true → s.portA.on = false →
    ∀ c ∈ ([.presence n, .cabRequest { number := n, kind := kind, part := part, ops := ops }, .requestPart0 n kind ops,
        .unmatchedPart1 n kind ops, .unknownRequestKind n kind] : List Instr), exec c s = .next s)
    ∧ ∀ (n kind part : Byte) (ops : List Int) (s : State), s.supply = true → s.portA.on = true →
    let k := s.portA.tickets
    let op (i : Nat) : Int := (ops[i]?).getD 0
    let heard := { s with
      portA := { s.portA with cab := { age := 0, state := .fresh } }
      inFlight := s.inFlight ++ (if s.portA.cab.state = .fresh then [] else [.envCabFreshness]) }
    let bare := { heard with portA := { heard.portA with assembly := none } }
    let reserved (kind : Byte) : State := { bare with
      portA := { bare.portA with
        results := s.portA.results ++ [{ ticket := k, number := n, kind := kind, code := none }], tickets := k + 1 } }
    let sent (kind : Byte) (c : Instr) : State := { reserved kind with inFlight := heard.inFlight ++ [c] }
    exec (.presence n) s = .next heard
    ∧ exec (.cabRequest { number := n, kind := 0, part := part, ops := ops }) s = .next heard
    ∧ (kind = 9 ∨ kind = 12 →
        (∀ c ∈ ([.requestPart0 n kind ops, .cabRequest { number := n, kind := kind, part := 0, ops := ops }] : List Instr),
          exec c s = .next { heard with
            portA := { heard.portA with assembly := some { number := n, kind := kind, ops := ops } } })
        ∧ (part ≠ 0 → part ≠ 1 →
            exec (.cabRequest { number := n, kind := kind, part := part, ops := ops }) s = .next heard)
        ∧ ∀ c ∈ ([.unmatchedPart1 n kind ops, .cabRequest { number := n, kind := kind, part := 1, ops := ops }] : List Instr),
          ((∀ a, s.portA.assembly = some a → a.kind ≠ kind ∨ a.number ≠ n) → exec c s = .next heard)
          ∧ ∀ first, s.portA.assembly = some { number := n, kind := kind, ops := first } →
            let op0 (i : Nat) : Int := (first[i]?).getD 0
            (4 ≤ s.portA.results.length → exec c s = .next bare)
            ∧ (s.portA.results.length < 4 → kind = 9 → exec c s = .next (sent 9 (.targetLoad k
                { id := op0 0, r0 := op0 1, z0 := op0 2, slope := op0 3, tol := op 0, near := op 1, guard := op 2
                  auto := op 3, passCycles := op 4, onGradeFrames := op 5 })))
            ∧ (s.portA.results.length < 4 → kind = 12 → exec c s = .next (sent 12 (.zoneEdit k (op0 0)
                { kind := (op0 1).toNat, mode := (op0 2).toNat, s := BitVec.ofInt 16 (op0 3), e := BitVec.ofInt 16 (op0 4)
                  reachMin := op 0, reachMax := op 1, limit := op 2, stop := op 3, band := op 4 }))))
    ∧ (15 < kind.toNat →
        ∀ c ∈ ([.unknownRequestKind n kind, .cabRequest { number := n, kind := kind, part := part, ops := ops }] : List Instr),
          (4 ≤ s.portA.results.length → exec c s = .next bare)
          ∧ (s.portA.results.length < 4 → exec c s = .next (State.answerCab k .refusedRange (reserved kind))))
    ∧ (4 ≤ s.portA.results.length → 1 ≤ kind.toNat → kind ≠ 9 → kind ≠ 12 →
        exec (.cabRequest { number := n, kind := kind, part := part, ops := ops }) s = .next bare)
    ∧ (s.portA.results.length < 4 →
        (∀ x ∈ ([(1, .setMode k (op 0)), (4, .tripReset k), (5, .guidanceOn k), (6, .guidanceOff k), (7, .assistOn k),
            (8, .assistOff k), (10, .targetAdvance k), (11, .targetClear k), (13, .zoneSuspend k (op 0) (op 1).toNat),
            (14, .reminderAck k (op 0).toNat), (15, .cabItemDone k (op 0).toNat)] : List (Byte × Instr)),
          exec (.cabRequest { number := n, kind := x.1, part := part, ops := ops }) s = .next (sent x.1 x.2))
        ∧ ∀ x ∈ ([(2, .autoSingle k), (3, .autoIdle k)] : List (Byte × (Bool → Instr))),
          let c : Instr := .cabRequest { number := n, kind := x.1, part := part, ops := ops }
          (op 0 = 0 → exec c s = .next (sent x.1 (x.2 false)))
          ∧ (op 0 = 1 → exec c s = .next (sent x.1 (x.2 true)))
          ∧ (op 0 ≠ 0 → op 0 ≠ 1 → exec c s = .next (State.answerCab k .refusedRange (reserved x.1))))

/-- R179 to R182, for every place of both ports: a transmission that ends well takes its message out of its place (a
NOTICE takes one from its kind's count, a result the head of the queue), its replacement following, and one from the
error count; one that ends in error stays unless a replacement drops it, and adds 8; then the port chooses the lowest
identifier again. An error that carries the count past 255 takes the port off its bus with every place empty and every
notice count kept; a rejoin starts again with a count of 0. R178, R186: at the one-second expiry of port A a STATUS of
the state as it stands goes to its place, as the replacement while that place is being offered. That the error count
stands while a port is bus-off, and that the attention label is of the items as they stand, are the model's choice
(logs 25 and 37). R178: a GUIDANCE, an ALLOTMENT and an ENGINE_DEMAND go to their places in the same way; R187: the last
two are the frames of its tables, bytes in the order of their node. R181: a raising adds one to its kind's count, at most 15, and fills the NOTICE place when it is
empty and port A is on its bus. -/
def Obligations.PortsTransmitAndFormStatus : Prop :=
  ((OfferA.guidance.header = (513, 12) ∧ OfferA.result.header = (705, 12) ∧ OfferA.status.header = (769, 32)
      ∧ OfferA.notice.header = (897, 12))
    ∧ OfferB.allotment.header = (129, 12) ∧ OfferB.demand1.header = (257, 8) ∧ OfferB.demand2.header = (257, 8))
    ∧ (∀ (o : ByteOrder) (a : Allotment) (d : EngineDemand),
      let two (v : Nat) : List Byte :=
        match o with
        | .lowFirst => [BitVec.ofNat 8 v, BitVec.ofNat 8 (v / 256)]
        | .highFirst => [BitVec.ofNat 8 (v / 256), BitVec.ofNat 8 v]
      let plan : Nat := match d.plan with | .none => 0 | .twin => 1 | .cooldown => 2 | .single => 3 | .starting => 4
      allotmentFrame o a =
        { id := 129
          data := two a.frame.toNat
            ++ [BitVec.ofNat 8 a.ceilings.left, BitVec.ofNat 8 a.ceilings.right, BitVec.ofNat 8 a.ceilings.raise,
                BitVec.ofNat 8 a.ceilings.lower, BitVec.ofNat 8 a.assist,
                BitVec.ofNat 8 ((if a.hold then 1 else 0) + (if a.poseValid then 2 else 0))]
            ++ two a.allowance ++ [0, 0] }
      ∧ engineDemandFrame o d =
        { id := 257
          data := [if d.engine = .e1 then 4 else 5,
              BitVec.ofNat 8 ((if d.run then 1 else 0) + (if d.idle then 2 else 0) + (if d.lead then 4 else 0) + 16 * plan)]
            ++ two d.speed ++ [0, 0, 0, 0] })
    ∧ (∀ (m : GuidanceMsg) (p : PortA), ∃ q, p.handGuidance m = q
        ∧ q = { p with guidance := q.guidance, offering := q.offering }
        ∧ q.guidance = (if p.offering = some .guidance then { p.guidance with replacement := some m }
            else { waiting := some m, replacement := none })
        ∧ (p.on = false ∨ p.offering.isSome = true → q.offering = p.offering)
        ∧ (p.on = true → p.offering = none → offersLowestA q))
    ∧ (∀ (f : CanFrame) (p : PortB), ∃ q, p.handAllotment f = q
        ∧ q = { p with allotment := q.allotment, offering := q.offering }
        ∧ q.allotment = (if p.offering = some .allotment then { p.allotment with replacement := some f }
            else { waiting := some f, replacement := none })
        ∧ (p.on = false ∨ p.offering.isSome = true → q.offering = p.offering)
        ∧ (p.on = true → p.offering = none → offersLowestB q))
    ∧ (∀ (e : Engine) (f : CanFrame) (p : PortB), ∃ q, p.handDemand e f = q
        ∧ q = { p with demand1 := q.demand1, demand2 := q.demand2, offering := q.offering }
        ∧ (e = .e1 → q.demand2 = p.demand2
            ∧ q.demand1 = (if p.offering = some .demand1 then { p.demand1 with replacement := some f }
              else { waiting := some f, replacement := none }))
        ∧ (e = .e2 → q.demand1 = p.demand1
            ∧ q.demand2 = (if p.offering = some .demand2 then { p.demand2 with replacement := some f }
              else { waiting := some f, replacement := none }))
        ∧ (p.on = false ∨ p.offering.isSome = true → q.offering = p.offering)
        ∧ (p.on = true → p.offering = none → offersLowestB q))
    ∧ (∀ (k : NoticeKind) (p : PortA), noticeTableOk p.counts →
      ∃ q, p.raised k = q ∧ q = { p with counts := q.counts, notice := q.notice, offering := q.offering }
        ∧ q.counts = noticeRaised p.counts k ∧ noticeCount q.counts k = min 15 (noticeCount p.counts k + 1)
        ∧ (∀ j, j ≠ k → noticeCount q.counts j = noticeCount p.counts j)
        ∧ (p.on = false → q.notice = p.notice ∧ q.offering = p.offering)
        ∧ (∀ n, p.notice = some n → q.notice = some n)
        ∧ (p.on = true → p.notice = none → noticeChosen q)
        ∧ (∀ o, p.offering = some o → q.offering = some o)
        ∧ (p.on = true → p.offering = none → offersLowestA q))
    ∧ (∀ (o : OfferA) (ok : Bool) (s : State), s.supply = true → s.portA.on = true → s.portA.offering = some o →
        ok = true ∨ s.portA.errors ≤ 247 →
      ∃ p, exec (.transmissionEnd .a ok) s = .next { s with portA := p }
        ∧ p.on = true ∧ p.cab = s.portA.cab ∧ p.tickets = s.portA.tickets ∧ p.assembly = s.portA.assembly
        ∧ p.errors = (if ok then s.portA.errors - 1 else s.portA.errors + 8)
        ∧ p.guidance = (if o = .guidance then placeAfter ok s.portA.guidance else s.portA.guidance)
        ∧ p.status = (if o = .status then placeAfter ok s.portA.status else s.portA.status)
        ∧ p.results = (if o = .result ∧ ok = true then s.portA.results.drop 1 else s.portA.results)
        ∧ (∀ n, s.portA.notice = some n → o = .notice → ok = true →
            p.counts = s.portA.counts.set (n.kind.number - 1) (noticeCount s.portA.counts n.kind - 1))
        ∧ (o ≠ .notice ∨ ok = false ∨ s.portA.notice = none → p.counts = s.portA.counts)
        ∧ (∀ n, s.portA.notice = some n → o ≠ .notice ∨ ok = false → p.notice = some n)
        ∧ (s.portA.notice = none ∨ o = .notice ∧ ok = true → noticeChosen p)
        ∧ offersLowestA p)
    ∧ (∀ (o : OfferA) (s : State), s.supply = true → s.portA.offering = some o → 247 < s.portA.errors →
      exec (.transmissionEnd .a false) s = .next { s with
        portA := { s.portA with
          on := false, offering := none, notice := none, results := [], assembly := none
          guidance := { waiting := none, replacement := none }, status := { waiting := none, replacement := none } }
        inFlight := s.inFlight ++ [.faultReport { code := .busAOff, clearing := false, detail := 0, frame := none }] })
    ∧ (∀ s : State, s.supply = true → s.portA.on = false → s.portA.offering = none → s.portA.notice = none →
      ∃ p, exec (.busRejoin .a) s = .next { s with
          portA := p
          inFlight := s.inFlight ++ [.faultReport { code := .busAOff, clearing := true, detail := 0, frame := none }] }
        ∧ p = { s.portA with on := true, errors := 0, offering := p.offering, notice := p.notice }
        ∧ noticeChosen p ∧ offersLowestA p)
    ∧ (∀ (o : OfferB) (ok : Bool) (s : State), s.supply = true → s.portB.on = true → s.portB.offering = some o →
        ok = true ∨ s.portB.errors ≤ 247 →
      ∃ p, exec (.transmissionEnd .b ok) s = .next { s with portB := p }
        ∧ p.on = true ∧ p.pcu = s.portB.pcu ∧ p.gov1 = s.portB.gov1 ∧ p.gov2 = s.portB.gov2
        ∧ p.errors = (if ok then s.portB.errors - 1 else s.portB.errors + 8)
        ∧ p.allotment = (if o = .allotment then placeAfter ok s.portB.allotment else s.portB.allotment)
        ∧ p.demand1 = (if o = .demand1 then placeAfter ok s.portB.demand1 else s.portB.demand1)
        ∧ p.demand2 = (if o = .demand2 then placeAfter ok s.portB.demand2 else s.portB.demand2)
        ∧ offersLowestB p)
    ∧ (∀ (o : OfferB) (s : State), s.supply = true → s.portB.offering = some o → 247 < s.portB.errors →
      exec (.transmissionEnd .b false) s = .next { s with
        portB := { s.portB with
          on := false, offering := none, allotment := { waiting := none, replacement := none }
          demand1 := { waiting := none, replacement := none }, demand2 := { waiting := none, replacement := none } }
        inFlight := s.inFlight ++ [.faultReport { code := .busBOff, clearing := false, detail := 0, frame := none }] })
    ∧ (∀ s : State, s.supply = true → s.portB.on = false → s.portB.offering = none →
      ∃ p, exec (.busRejoin .b) s = .next { s with
          portB := p
          inFlight := s.inFlight ++ [.faultReport { code := .busBOff, clearing := true, detail := 0, frame := none }] }
        ∧ p = { s.portB with on := true, errors := 0, offering := p.offering } ∧ offersLowestB p)
    ∧ ∀ s : State, s.supply = true →
      let count (st : ItemState) := s.smu.items.countP (fun i => i.state == some st)
      let asks (st : ItemState) (i : Item) : Bool := i.state == some st && !i.acked
      ∃ p m, exec .statusTimerExpiry s = .next { s with portA := p }
        ∧ p = { s.portA with status := p.status, offering := p.offering }
        ∧ p.status = (if s.portA.offering = some .status then { s.portA.status with replacement := some m }
            else { waiting := some m, replacement := none })
        ∧ (s.portA.on = false ∨ s.portA.offering.isSome = true → p.offering = s.portA.offering)
        ∧ (s.portA.on = true → s.portA.offering = none → offersLowestA p)
        ∧ m.effMode = s.epc.effMode ∧ m.modeReq = s.epc.modeReq ∧ m.plan = s.epc.plan ∧ m.lead = s.epc.lead
        ∧ m.availE1 = s.epc.avail .e1 ∧ m.availE2 = s.epc.avail .e2
        ∧ m.held = s.fhu.held.isSome ∧ m.escalation = s.fhu.escalation
        ∧ m.zones = s.env.entries.map (fun e => (e.recorded, e.suspMark))
        ∧ m.itemsOk = count .ok ∧ m.itemsDueSoon = count .dueSoon ∧ m.itemsDue = count .due
        ∧ m.itemsOverdue = count .overdue
        ∧ m.attention = s.smu.items.countP (fun i => asks .dueSoon i || asks .due i || asks .overdue i)
        ∧ m.attentionLabel = (((s.smu.items.find? (asks .overdue)).or ((s.smu.items.find? (asks .due)).or
            (s.smu.items.find? (asks .dueSoon)))).map fun i => i.defn.label)
        ∧ m.economy = (if s.epc.tripCycles = 0 then 65535 else min 65534 (100 * s.epc.tripFuel / s.epc.tripCycles))

/-! ## Service link -/

/-- R189, R190, R193: a block of fewer than two bytes is discarded; a block that finds the buffer EMPTY makes it
PENDING and the run its first failing check or its operation gives is begun; one that finds it PENDING or READY is
refused for link busy, which only marks the answer held or still to come. An answer read gives the whole answer and
empties the buffer, NOT_READY with the pending tag and the busy fields, or NO_REQUEST with the tag of the last answer
read. The field that keeps what the last read gave is the model's own (log 10), and the bytes of an answer that no
rule gives are free (log 11). R196: until an answer has been read after a start, the busy fields of a NO_REQUEST are
clear. -/
def Obligations.RequestBlocksAndAnswerReads : Prop :=
  (∀ (b : List Byte) (s : State), s.supply = true → b.length < 2 → exec (.shortBlock b) s = .next s)
    ∧ (∀ (tag op : Byte) (x : List Byte) (c : Bool) (s : State), s.supply = true → s.sli.buffer = .empty c →
      ∃ run, exec (.requestBlock (tag :: op :: x)) s = .next { s with
          inFlight := s.inFlight ++ [run]
          sli := { s.sli with
            buffer := .pending tag false 0
            request := some { block := tag :: op :: x, maintainer := s.lines.maint } } }
        ∧ (62 < x.length ∨ 10 < op.toNat → run = .unknownOperation)
        ∧ (x.length ≤ 62 → 2 ≤ op.toNat → op.toNat ≤ 9 → s.lines.maint = false → run = .levelRefusal)
        ∧ (x.length ≤ 62 → op.toNat < 2 ∨ op.toNat = 10 ∨ s.lines.maint = true →
            (op = 0 → (∀ a b c, x = [a, b, c] → run = .selectTable a.toNat (b.toNat + 256 * c.toNat))
              ∧ (x.length ≠ 3 → run = .unknownOperation))
            ∧ (op = 1 → (∀ a, x = [a] → run = .readEntries a.toNat) ∧ (x.length ≠ 1 → run = .unknownOperation))
            ∧ (op = 2 → (∀ a d, x = a :: d → run = .writeEntries a.toNat d) ∧ (x = [] → run = .unknownOperation))
            ∧ (op = 3 → (∀ a, x = [a] → run = .itemDone a.toNat) ∧ (x.length ≠ 1 → run = .unknownOperation))
            ∧ (op = 4 → (∀ k a b c d, x = [k, a, b, c, d] →
                  run = .meterPreset k.toNat (a.toNat + 256 * b.toNat + 65536 * c.toNat + 16777216 * d.toNat))
                ∧ (x.length ≠ 5 → run = .unknownOperation))
            ∧ (op = 5 → (∀ i a b, x = [i, a, b] → run = .suspendZone i.toNat (a.toNat + 256 * b.toNat))
                ∧ (x.length ≠ 3 → run = .unknownOperation))
            ∧ (op = 6 → run = (if x = [] then .clearHold else .unknownOperation))
            ∧ (op = 7 → (∀ a, x = [a] → run = .clearFailed a.toNat) ∧ (x.length ≠ 1 → run = .unknownOperation))
            ∧ (op = 8 → run = (if x = [] then .commitConfig else .unknownOperation))
            ∧ (op = 9 → run = (if x = [] then .restart else .unknownOperation))
            ∧ (op = 10 → run = (if x = [] then .takeNotice else .unknownOperation))))
    ∧ (∀ (tag op : Byte) (x : List Byte) (s : State) (c : Instr), s.supply = true →
        c = .linkBusyRefusal (tag :: op :: x) ∨ c = .requestBlock (tag :: op :: x) →
        (∀ a, s.sli.buffer = .ready a →
          exec c s = .next { s with sli := { s.sli with buffer := .ready { a with busy := true, busyTag := tag } } })
        ∧ ∀ held busy bt, s.sli.buffer = .pending held busy bt →
          exec c s = .next { s with sli := { s.sli with buffer := .pending held true tag } })
    ∧ (∀ (a : Answer) (s : State), s.supply = true → s.sli.buffer = .ready a →
      exec .answerRead s = .next { s with
        sli := { s.sli with
          buffer := .empty false, lastTag := a.tag
          lastRead := some ([a.tag, BitVec.ofNat 8 (
              match a.result with
              | .accepted => 0 | .refusedRange => 1 | .refusedFull => 2 | .refusedState => 3 | .refusedNotOwner => 4
              | .refusedBusy => 5 | .refusedHold => 6 | .refusedLevel => 7 | .notReady => 8 | .noRequest => 9),
            a.residue, if a.busy then 1 else 0, a.busyTag, BitVec.ofNat 8 (a.detail.toNat % 256),
            BitVec.ofNat 8 (a.detail.toNat / 256), a.returned] ++ a.data) } })
    ∧ (∀ (tag bt : Byte) (busy : Bool) (s : State), s.supply = true → s.sli.buffer = .pending tag busy bt →
      ∃ n l, exec .answerRead s = .next { s with freeCount := n, sli := { s.sli with lastRead := some l } }
        ∧ l.length = 8 ∧ l[0]? = some tag ∧ l[1]? = some 8 ∧ l[3]? = some (if busy then 1 else 0) ∧ l[4]? = some bt)
    ∧ ∀ (c : Bool) (s : State), s.supply = true → s.sli.buffer = .empty c →
      ∃ n l, exec .answerRead s = .next { s with freeCount := n, sli := { s.sli with lastRead := some l } }
        ∧ l.length = 8 ∧ l[0]? = some s.sli.lastTag ∧ l[1]? = some 9
        ∧ (c = true → l[3]? = some 0 ∧ l[4]? = some 0)

/-- R189, R190, R193: the maintenance enable line is followed; a run refused for its code, length or level is answered
so and changes nothing else; RESTART sets its mark, is ACCEPTED, and with nothing left to store, in whatever power state
(R173), the restart is begun, as a delivery put in flight, which is the model's choice (log 26). -/
def Obligations.LevelRefusalsAndRestart : Prop :=
  ∀ s : State, s.supply = true →
    (∀ h : Bool, exec (.maintenanceEnableChange h) s = .next { s with lines := { s.lines with maint := h } })
    ∧ exec .unknownOperation s = .next
        (State.answerPlain .refusedRange { s with inFlight := s.inFlight.erase .unknownOperation })
    ∧ exec .levelRefusal s = .next
        (State.answerPlain .refusedLevel { s with inFlight := s.inFlight.erase .levelRefusal })
    ∧ ∃ t, exec .restart s = .next t ∧ t.nvc.restartPending = true ∧ t.nvc.queue = s.nvc.queue
        ∧ t = { s with sli := t.sli, nvc := t.nvc, inFlight := t.inFlight, freeCount := t.freeCount }
        ∧ (s.nvc.queue = [] → s.nvc.write = none → (.supervisorRestart : Instr) ∈ t.inFlight)
        ∧ (∀ tag busy bt, s.sli.buffer = .pending tag busy bt →
            ∃ a, t.sli.buffer = .ready a ∧ a.tag = tag ∧ a.result = .accepted)

/-- R191, R192: a select within the tables moves the cursor, any other leaves it; a read copies the entries of the cursor
table, as its owner holds them, to the end of the table or to 384 bytes, and moves the cursor past what it copied; a
write is refused RANGE for a data length that does not suit and NOT_OWNER for a table that takes none. Else its entries
are taken in turn up to a refused one, whose code and index are answered, to the end of the table or to the last, with
the cursor behind the accepted ones and the residue of the others. That the length comes before the owner, and the
residue of a whole refusal, are the model's choice (log 23), and so are that an answer without entries returns 0 (log
11), that byte 14 of a TARGETS entry is 1 for auto-advance set and 0 for clear (log 34), and that the attention label of
STATUS is of the items as they stand (log 37). R74: an accepted ZONES entry is the pending copy of its index; R194: a CONFIG entry becomes its field's value, entry 0 is
refused RANGE. R147: an ITEMS entry out of range is refused RANGE, one whose store the queue refuses BUSY; any other is
its item's new definition, with the mark at the meter for an item newly in use or on another basis, acknowledged flag
clear, classified anew, and REMINDER_CHANGED raised into both notice tables for a change of its classification or of its
basis (R141). -/
def Obligations.CursorSelectsReadsAndWrites : Prop :=
  (∀ b : List Byte,
      let u8 (k : Nat) : Nat := (b.getD k 0).toNat
      let u16 (k : Nat) : Nat := u8 k + 256 * u8 (k + 1)
      let u32 (k : Nat) : Nat := u16 k + 65536 * u16 (k + 2)
      (∀ k, natAt b k 4 = u32 k)
      ∧ int32At b 0 = (if u32 0 < 2147483648 then (u32 0 : Int) else (u32 0 : Int) - 4294967296)
      ∧ zoneFieldsAt b =
        { kind := u8 0, mode := u8 1, s := BitVec.ofNat 16 (u16 2), e := BitVec.ofNat 16 (u16 4)
          reachMin := u16 6, reachMax := u16 8
          limit := if u16 10 < 32768 then (u16 10 : Int) else (u16 10 : Int) - 65536, stop := u16 12, band := u16 14 })
  ∧ ∀ (n i : Nat) (data : List Byte) (s : State) (tag bt : Byte) (busy : Bool), s.supply = true →
    s.sli.buffer = .pending tag busy bt →
    (∃ t a, exec (.selectTable n i) s = .next t ∧ t.sli.buffer = .ready a ∧ a.tag = tag ∧ a.returned = 0
      ∧ t = { s with sli := t.sli, freeCount := t.freeCount, inFlight := s.inFlight.erase (.selectTable n i) }
      ∧ (∀ tb, tableOf n = some tb → i < tableEntries tb →
          a.result = .accepted ∧ t.sli.table = tb ∧ t.sli.index = i)
      ∧ (∀ tb, tableOf n = some tb → tableEntries tb ≤ i → a.result = .refusedRange
          ∧ t.sli.table = s.sli.table ∧ t.sli.index = s.sli.index)
      ∧ (7 < n → a.result = .refusedRange ∧ t.sli.table = s.sli.table ∧ t.sli.index = s.sli.index))
    ∧ (1 ≤ n → n ≤ 255 → s.sli.index ≤ tableEntries s.sli.table →
        ∃ t a k, exec (.readEntries n) s = .next t ∧ t.sli.buffer = .ready a ∧ a.result = .accepted
          ∧ k = min (min n (tableEntries s.sli.table - s.sli.index)) (384 / entrySize s.sli.table)
          ∧ a.returned.toNat = k ∧ a.residue.toNat = n - k ∧ t.sli.index = s.sli.index + k
          ∧ a.data.length = k * entrySize s.sli.table ∧ t.sli.table = s.sli.table
          ∧ (∀ j, j < k →
              entryShown s.sli.table (s.sli.index + j) s (pieceOf (entrySize s.sli.table) j a.data))
          ∧ t = { s with sli := t.sli, freeCount := t.freeCount
                         inFlight := s.inFlight.erase (.readEntries n) })
    ∧ (n = 0 → ∃ t a, exec (.readEntries n) s = .next t ∧ t.sli.buffer = .ready a ∧ a.result = .refusedRange
          ∧ t.sli.index = s.sli.index ∧ t.sli.table = s.sli.table)
    ∧ (1 ≤ n → n ≤ 255 → data.length ≠ n * entrySize s.sli.table →
        ∃ t a, exec (.writeEntries n data) s = .next t ∧ t.sli.buffer = .ready a ∧ a.result = .refusedRange
          ∧ a.residue.toNat = n ∧ t.sli.index = s.sli.index)
    ∧ (1 ≤ n → n ≤ 255 → data.length = n * entrySize s.sli.table → tableWritable s.sli.table = false →
        ∃ t a, exec (.writeEntries n data) s = .next t ∧ t.sli.buffer = .ready a ∧ a.result = .refusedNotOwner
          ∧ a.residue.toNat = n ∧ t.sli.index = s.sli.index)
    ∧ (1 ≤ n → n ≤ 255 → data.length = n * entrySize s.sli.table → tableWritable s.sli.table = true →
        s.sli.index ≤ tableEntries s.sli.table → s.smu.items.length = 32 → storesOk s →
        let tb := s.sli.table
        let at0 := s.sli.index
        let piece (j : Nat) : List Byte := pieceOf (entrySize tb) j data
        let said (j : Nat) : ResultCode := writeResult tb (s.nvc.takes .items) (at0 + j) (piece j)
        ∃ t a k, exec (.writeEntries n data) s = .next t ∧ t.sli.buffer = .ready a ∧ a.tag = tag
          ∧ k ≤ n ∧ at0 + k ≤ tableEntries tb ∧ (∀ j, j < k → said j = .accepted)
          ∧ a.residue.toNat = n - k ∧ t.sli.index = at0 + k ∧ t.sli.table = tb
          ∧ (k = n ∨ at0 + k = tableEntries tb → a.result = .accepted)
          ∧ (k < n → at0 + k < tableEntries tb →
              said k ≠ .accepted ∧ a.result = said k ∧ a.detail.toNat = at0 + k)
          ∧ (tb = .zones →
              t = { s with env := t.env, sli := t.sli, nvc := t.nvc, inFlight := t.inFlight, freeCount := t.freeCount }
              ∧ t.nvc.queue = s.nvc.queue ∧ t.sli.config = s.sli.config
              ∧ t.env = { s.env with entries := t.env.entries }
              ∧ (∀ m, m < at0 ∨ at0 + k ≤ m → t.env.entries[m]? = s.env.entries[m]?)
              ∧ ∀ j, j < k → t.env.entries[at0 + j]? =
                  s.env.entries[at0 + j]?.map (fun e => { e with pending := zoneDefOf (zoneFieldsAt (piece j)) }))
          ∧ (tb = .config →
              t = { s with sli := t.sli, nvc := t.nvc, inFlight := t.inFlight, freeCount := t.freeCount }
              ∧ t.nvc.queue = s.nvc.queue ∧ t.sli.config.length = s.sli.config.length
              ∧ (∀ f, f + 1 < at0 ∨ at0 + k ≤ f + 1 → t.sli.config[f]? = s.sli.config[f]?)
              ∧ ∀ j f, j < k → f + 1 = at0 + j → f < s.sli.config.length →
                  t.sli.config[f]? = some (int32At (piece j) 0))
          ∧ (tb = .items →
              t = { s with smu := t.smu, sli := t.sli, nvc := t.nvc, portA := t.portA, inFlight := t.inFlight
                           freeCount := t.freeCount }
              ∧ t.smu = { s.smu with items := t.smu.items, summary := t.smu.summary } ∧ t.smu.items.length = 32
              ∧ t.sli.config = s.sli.config
              ∧ (∀ m, m < at0 ∨ at0 + k ≤ m → t.smu.item m = s.smu.item m)
              ∧ (∀ j, j < k → itemWrittenAs s.smu.meter (s.smu.item (at0 + j)) (piece j) (t.smu.item (at0 + j)))
              ∧ (k = 0 → t.smu = s.smu ∧ t.nvc.queue = s.nvc.queue)
              ∧ (1 ≤ k → t.smu.summary = summaryOf t.smu.items
                  ∧ t.nvc.queue = (s.nvc.requested .items false true).queue
                  ∧ ∃ e ∈ t.nvc.queue, e.record = .items ∧ e.service = true)
              ∧ ∃ l, l = (List.range k).flatMap
                    (fun j => reminderOf (s.smu.item (at0 + j)) (t.smu.item (at0 + j)))
                ∧ t.portA = s.portA.raisedAll l ∧ t.sli.counts = countsAfter l s.sli.counts))

/-- R194: a commit is refused at the first failing field, with its number as detail, and changes no image; a pending
copy that passes becomes the committed image and is queued with the service mark, or is answered BUSY. Which field a
condition that joins several fails on, and so that detail, is the model's choice (log 19). R195: TAKE_NOTICE answers
the kind of the highest priority with its count and takes one from it. -/
def Obligations.CommitAndTakeNotice : Prop :=
  ∀ (s : State) (tag bt : Byte) (busy : Bool), s.supply = true → storesOk s → s.sli.buffer = .pending tag busy bt →
    (∀ k, firstFailingField s.sli.config = some k →
        ∃ t a, exec .commitConfig s = .next t ∧ t.sli.buffer = .ready a ∧ a.result = .refusedRange
          ∧ a.detail.toNat = k ∧ t.nvc.image = s.nvc.image ∧ t.nvc.queue = s.nvc.queue)
    ∧ (firstFailingField s.sli.config = none →
        ∃ t a, exec .commitConfig s = .next t ∧ t.sli.buffer = .ready a ∧ t.nvc.image = some s.sli.config
          ∧ t = { s with sli := t.sli, nvc := t.nvc, inFlight := t.inFlight, freeCount := t.freeCount }
          ∧ a.result = (if s.nvc.takes .config then .accepted else .refusedBusy)
          ∧ t.nvc.queued .config = s.nvc.takes .config
          ∧ (s.nvc.takes .config = true → ∃ e ∈ t.nvc.queue, e.record = .config ∧ e.service = true))
    ∧ (∀ k, topNotice s.sli.counts = some k → noticeTableOk s.sli.counts →
        ∃ t a, exec .takeNotice s = .next t ∧ t.sli.buffer = .ready a ∧ a.result = .accepted
          ∧ a.detail.toNat = k.number ∧ a.residue.toNat = noticeCount s.sli.counts k
          ∧ t = { s with sli := t.sli, freeCount := t.freeCount, inFlight := s.inFlight.erase .takeNotice }
          ∧ noticeCount t.sli.counts k + 1 = noticeCount s.sli.counts k
          ∧ ∀ j : NoticeKind, j ≠ k → noticeCount t.sli.counts j = noticeCount s.sli.counts j
              ∧ (k.priority < j.priority → noticeCount s.sli.counts j = 0))
    ∧ (s.attention = false → noticeTableOk s.sli.counts →
        ∃ t a, exec .takeNotice s = .next t ∧ t.sli.buffer = .ready a ∧ a.result = .accepted ∧ a.detail = 0
          ∧ a.residue = 0 ∧ t.sli.counts = s.sli.counts)
end

