-- ==== Sys2Proof/Laws/State.lean ====
section
/-! SUPPORT. For each update of the state that always writes the same fields: one lemma per field, true by `rfl`. -/

namespace Sys2Proof.Machine

open Sys2Proof

/-! ### `State.taken` -/

@[simp] theorem State.taken_supply (c : Instr) (s : State) : (s.taken c).supply = s.supply := rfl
@[simp] theorem State.taken_settings (c : Instr) (s : State) : (s.taken c).settings = s.settings := rfl
@[simp] theorem State.taken_spu (c : Instr) (s : State) : (s.taken c).spu = s.spu := rfl
@[simp] theorem State.taken_geu (c : Instr) (s : State) : (s.taken c).geu = s.geu := rfl
@[simp] theorem State.taken_cyt (c : Instr) (s : State) : (s.taken c).cyt = s.cyt := rfl
@[simp] theorem State.taken_ggu (c : Instr) (s : State) : (s.taken c).ggu = s.ggu := rfl
@[simp] theorem State.taken_env (c : Instr) (s : State) : (s.taken c).env = s.env := rfl
@[simp] theorem State.taken_lev (c : Instr) (s : State) : (s.taken c).lev = s.lev := rfl
@[simp] theorem State.taken_epc (c : Instr) (s : State) : (s.taken c).epc = s.epc := rfl
@[simp] theorem State.taken_smu (c : Instr) (s : State) : (s.taken c).smu = s.smu := rfl
@[simp] theorem State.taken_fhu (c : Instr) (s : State) : (s.taken c).fhu = s.fhu := rfl
@[simp] theorem State.taken_nvc (c : Instr) (s : State) : (s.taken c).nvc = s.nvc := rfl
@[simp] theorem State.taken_portA (c : Instr) (s : State) : (s.taken c).portA = s.portA := rfl
@[simp] theorem State.taken_portB (c : Instr) (s : State) : (s.taken c).portB = s.portB := rfl
@[simp] theorem State.taken_sli (c : Instr) (s : State) : (s.taken c).sli = s.sli := rfl
@[simp] theorem State.taken_lines (c : Instr) (s : State) : (s.taken c).lines = s.lines := rfl
@[simp] theorem State.taken_inFlight (c : Instr) (s : State) : (s.taken c).inFlight = s.inFlight.erase c := rfl
@[simp] theorem State.taken_pending (c : Instr) (s : State) : (s.taken c).pending = s.pending := rfl
@[simp] theorem State.taken_freeCount (c : Instr) (s : State) : (s.taken c).freeCount = s.freeCount := rfl

/-! ### `State.deliver` -/

@[simp] theorem State.deliver_supply (c : Instr) (s : State) : (s.deliver c).supply = s.supply := rfl
@[simp] theorem State.deliver_settings (c : Instr) (s : State) : (s.deliver c).settings = s.settings := rfl
@[simp] theorem State.deliver_spu (c : Instr) (s : State) : (s.deliver c).spu = s.spu := rfl
@[simp] theorem State.deliver_geu (c : Instr) (s : State) : (s.deliver c).geu = s.geu := rfl
@[simp] theorem State.deliver_cyt (c : Instr) (s : State) : (s.deliver c).cyt = s.cyt := rfl
@[simp] theorem State.deliver_ggu (c : Instr) (s : State) : (s.deliver c).ggu = s.ggu := rfl
@[simp] theorem State.deliver_env (c : Instr) (s : State) : (s.deliver c).env = s.env := rfl
@[simp] theorem State.deliver_lev (c : Instr) (s : State) : (s.deliver c).lev = s.lev := rfl
@[simp] theorem State.deliver_epc (c : Instr) (s : State) : (s.deliver c).epc = s.epc := rfl
@[simp] theorem State.deliver_smu (c : Instr) (s : State) : (s.deliver c).smu = s.smu := rfl
@[simp] theorem State.deliver_fhu (c : Instr) (s : State) : (s.deliver c).fhu = s.fhu := rfl
@[simp] theorem State.deliver_nvc (c : Instr) (s : State) : (s.deliver c).nvc = s.nvc := rfl
@[simp] theorem State.deliver_portA (c : Instr) (s : State) : (s.deliver c).portA = s.portA := rfl
@[simp] theorem State.deliver_portB (c : Instr) (s : State) : (s.deliver c).portB = s.portB := rfl
@[simp] theorem State.deliver_sli (c : Instr) (s : State) : (s.deliver c).sli = s.sli := rfl
@[simp] theorem State.deliver_lines (c : Instr) (s : State) : (s.deliver c).lines = s.lines := rfl
@[simp] theorem State.deliver_inFlight (c : Instr) (s : State) : (s.deliver c).inFlight = s.inFlight ++ [c] := rfl
@[simp] theorem State.deliver_pending (c : Instr) (s : State) : (s.deliver c).pending = s.pending := rfl
@[simp] theorem State.deliver_freeCount (c : Instr) (s : State) : (s.deliver c).freeCount = s.freeCount := rfl

/-! ### `State.report` -/

@[simp] theorem State.report_supply (code : FaultCode) (d : Int) (m : Option FrameNo) (s : State) :
    (s.report code d m).supply = s.supply := rfl
@[simp] theorem State.report_settings (code : FaultCode) (d : Int) (m : Option FrameNo) (s : State) :
    (s.report code d m).settings = s.settings := rfl
@[simp] theorem State.report_spu (code : FaultCode) (d : Int) (m : Option FrameNo) (s : State) :
    (s.report code d m).spu = s.spu := rfl
@[simp] theorem State.report_geu (code : FaultCode) (d : Int) (m : Option FrameNo) (s : State) :
    (s.report code d m).geu = s.geu := rfl
@[simp] theorem State.report_cyt (code : FaultCode) (d : Int) (m : Option FrameNo) (s : State) :
    (s.report code d m).cyt = s.cyt := rfl
@[simp] theorem State.report_ggu (code : FaultCode) (d : Int) (m : Option FrameNo) (s : State) :
    (s.report code d m).ggu = s.ggu := rfl
@[simp] theorem State.report_env (code : FaultCode) (d : Int) (m : Option FrameNo) (s : State) :
    (s.report code d m).env = s.env := rfl
@[simp] theorem State.report_lev (code : FaultCode) (d : Int) (m : Option FrameNo) (s : State) :
    (s.report code d m).lev = s.lev := rfl
@[simp] theorem State.report_epc (code : FaultCode) (d : Int) (m : Option FrameNo) (s : State) :
    (s.report code d m).epc = s.epc := rfl
@[simp] theorem State.report_smu (code : FaultCode) (d : Int) (m : Option FrameNo) (s : State) :
    (s.report code d m).smu = s.smu := rfl
@[simp] theorem State.report_fhu (code : FaultCode) (d : Int) (m : Option FrameNo) (s : State) :
    (s.report code d m).fhu = s.fhu := rfl
@[simp] theorem State.report_nvc (code : FaultCode) (d : Int) (m : Option FrameNo) (s : State) :
    (s.report code d m).nvc = s.nvc := rfl
@[simp] theorem State.report_portA (code : FaultCode) (d : Int) (m : Option FrameNo) (s : State) :
    (s.report code d m).portA = s.portA := rfl
@[simp] theorem State.report_portB (code : FaultCode) (d : Int) (m : Option FrameNo) (s : State) :
    (s.report code d m).portB = s.portB := rfl
@[simp] theorem State.report_sli (code : FaultCode) (d : Int) (m : Option FrameNo) (s : State) :
    (s.report code d m).sli = s.sli := rfl
@[simp] theorem State.report_lines (code : FaultCode) (d : Int) (m : Option FrameNo) (s : State) :
    (s.report code d m).lines = s.lines := rfl
@[simp] theorem State.report_inFlight (code : FaultCode) (d : Int) (m : Option FrameNo) (s : State) :
    (s.report code d m).inFlight = s.inFlight ++ [.faultReport { code := code, clearing := false, detail := d, frame := m }] := rfl
@[simp] theorem State.report_pending (code : FaultCode) (d : Int) (m : Option FrameNo) (s : State) :
    (s.report code d m).pending = s.pending := rfl
@[simp] theorem State.report_freeCount (code : FaultCode) (d : Int) (m : Option FrameNo) (s : State) :
    (s.report code d m).freeCount = s.freeCount := rfl

/-! ### `State.reportClear` -/

@[simp] theorem State.reportClear_supply (code : FaultCode) (d : Int) (m : Option FrameNo) (s : State) :
    (s.reportClear code d m).supply = s.supply := rfl
@[simp] theorem State.reportClear_settings (code : FaultCode) (d : Int) (m : Option FrameNo) (s : State) :
    (s.reportClear code d m).settings = s.settings := rfl
@[simp] theorem State.reportClear_spu (code : FaultCode) (d : Int) (m : Option FrameNo) (s : State) :
    (s.reportClear code d m).spu = s.spu := rfl
@[simp] theorem State.reportClear_geu (code : FaultCode) (d : Int) (m : Option FrameNo) (s : State) :
    (s.reportClear code d m).geu = s.geu := rfl
@[simp] theorem State.reportClear_cyt (code : FaultCode) (d : Int) (m : Option FrameNo) (s : State) :
    (s.reportClear code d m).cyt = s.cyt := rfl
@[simp] theorem State.reportClear_ggu (code : FaultCode) (d : Int) (m : Option FrameNo) (s : State) :
    (s.reportClear code d m).ggu = s.ggu := rfl
@[simp] theorem State.reportClear_env (code : FaultCode) (d : Int) (m : Option FrameNo) (s : State) :
    (s.reportClear code d m).env = s.env := rfl
@[simp] theorem State.reportClear_lev (code : FaultCode) (d : Int) (m : Option FrameNo) (s : State) :
    (s.reportClear code d m).lev = s.lev := rfl
@[simp] theorem State.reportClear_epc (code : FaultCode) (d : Int) (m : Option FrameNo) (s : State) :
    (s.reportClear code d m).epc = s.epc := rfl
@[simp] theorem State.reportClear_smu (code : FaultCode) (d : Int) (m : Option FrameNo) (s : State) :
    (s.reportClear code d m).smu = s.smu := rfl
@[simp] theorem State.reportClear_fhu (code : FaultCode) (d : Int) (m : Option FrameNo) (s : State) :
    (s.reportClear code d m).fhu = s.fhu := rfl
@[simp] theorem State.reportClear_nvc (code : FaultCode) (d : Int) (m : Option FrameNo) (s : State) :
    (s.reportClear code d m).nvc = s.nvc := rfl
@[simp] theorem State.reportClear_portA (code : FaultCode) (d : Int) (m : Option FrameNo) (s : State) :
    (s.reportClear code d m).portA = s.portA := rfl
@[simp] theorem State.reportClear_portB (code : FaultCode) (d : Int) (m : Option FrameNo) (s : State) :
    (s.reportClear code d m).portB = s.portB := rfl
@[simp] theorem State.reportClear_sli (code : FaultCode) (d : Int) (m : Option FrameNo) (s : State) :
    (s.reportClear code d m).sli = s.sli := rfl
@[simp] theorem State.reportClear_lines (code : FaultCode) (d : Int) (m : Option FrameNo) (s : State) :
    (s.reportClear code d m).lines = s.lines := rfl
@[simp] theorem State.reportClear_inFlight (code : FaultCode) (d : Int) (m : Option FrameNo) (s : State) :
    (s.reportClear code d m).inFlight = s.inFlight ++ [.faultReport { code := code, clearing := true, detail := d, frame := m }] := rfl
@[simp] theorem State.reportClear_pending (code : FaultCode) (d : Int) (m : Option FrameNo) (s : State) :
    (s.reportClear code d m).pending = s.pending := rfl
@[simp] theorem State.reportClear_freeCount (code : FaultCode) (d : Int) (m : Option FrameNo) (s : State) :
    (s.reportClear code d m).freeCount = s.freeCount := rfl

/-! ### `State.raiseCab` -/

@[simp] theorem State.raiseCab_supply (k : NoticeKind) (s : State) : (s.raiseCab k).supply = s.supply := rfl
@[simp] theorem State.raiseCab_settings (k : NoticeKind) (s : State) : (s.raiseCab k).settings = s.settings := rfl
@[simp] theorem State.raiseCab_spu (k : NoticeKind) (s : State) : (s.raiseCab k).spu = s.spu := rfl
@[simp] theorem State.raiseCab_geu (k : NoticeKind) (s : State) : (s.raiseCab k).geu = s.geu := rfl
@[simp] theorem State.raiseCab_cyt (k : NoticeKind) (s : State) : (s.raiseCab k).cyt = s.cyt := rfl
@[simp] theorem State.raiseCab_ggu (k : NoticeKind) (s : State) : (s.raiseCab k).ggu = s.ggu := rfl
@[simp] theorem State.raiseCab_env (k : NoticeKind) (s : State) : (s.raiseCab k).env = s.env := rfl
@[simp] theorem State.raiseCab_lev (k : NoticeKind) (s : State) : (s.raiseCab k).lev = s.lev := rfl
@[simp] theorem State.raiseCab_epc (k : NoticeKind) (s : State) : (s.raiseCab k).epc = s.epc := rfl
@[simp] theorem State.raiseCab_smu (k : NoticeKind) (s : State) : (s.raiseCab k).smu = s.smu := rfl
@[simp] theorem State.raiseCab_fhu (k : NoticeKind) (s : State) : (s.raiseCab k).fhu = s.fhu := rfl
@[simp] theorem State.raiseCab_nvc (k : NoticeKind) (s : State) : (s.raiseCab k).nvc = s.nvc := rfl
@[simp] theorem State.raiseCab_portA (k : NoticeKind) (s : State) : (s.raiseCab k).portA = s.portA.raised k := rfl
@[simp] theorem State.raiseCab_portB (k : NoticeKind) (s : State) : (s.raiseCab k).portB = s.portB := rfl
@[simp] theorem State.raiseCab_sli (k : NoticeKind) (s : State) : (s.raiseCab k).sli = s.sli := rfl
@[simp] theorem State.raiseCab_lines (k : NoticeKind) (s : State) : (s.raiseCab k).lines = s.lines := rfl
@[simp] theorem State.raiseCab_inFlight (k : NoticeKind) (s : State) : (s.raiseCab k).inFlight = s.inFlight := rfl
@[simp] theorem State.raiseCab_pending (k : NoticeKind) (s : State) : (s.raiseCab k).pending = s.pending := rfl
@[simp] theorem State.raiseCab_freeCount (k : NoticeKind) (s : State) : (s.raiseCab k).freeCount = s.freeCount := rfl

/-! ### `State.raiseLink` -/

@[simp] theorem State.raiseLink_supply (k : NoticeKind) (s : State) : (s.raiseLink k).supply = s.supply := rfl
@[simp] theorem State.raiseLink_settings (k : NoticeKind) (s : State) : (s.raiseLink k).settings = s.settings := rfl
@[simp] theorem State.raiseLink_spu (k : NoticeKind) (s : State) : (s.raiseLink k).spu = s.spu := rfl
@[simp] theorem State.raiseLink_geu (k : NoticeKind) (s : State) : (s.raiseLink k).geu = s.geu := rfl
@[simp] theorem State.raiseLink_cyt (k : NoticeKind) (s : State) : (s.raiseLink k).cyt = s.cyt := rfl
@[simp] theorem State.raiseLink_ggu (k : NoticeKind) (s : State) : (s.raiseLink k).ggu = s.ggu := rfl
@[simp] theorem State.raiseLink_env (k : NoticeKind) (s : State) : (s.raiseLink k).env = s.env := rfl
@[simp] theorem State.raiseLink_lev (k : NoticeKind) (s : State) : (s.raiseLink k).lev = s.lev := rfl
@[simp] theorem State.raiseLink_epc (k : NoticeKind) (s : State) : (s.raiseLink k).epc = s.epc := rfl
@[simp] theorem State.raiseLink_smu (k : NoticeKind) (s : State) : (s.raiseLink k).smu = s.smu := rfl
@[simp] theorem State.raiseLink_fhu (k : NoticeKind) (s : State) : (s.raiseLink k).fhu = s.fhu := rfl
@[simp] theorem State.raiseLink_nvc (k : NoticeKind) (s : State) : (s.raiseLink k).nvc = s.nvc := rfl
@[simp] theorem State.raiseLink_portA (k : NoticeKind) (s : State) : (s.raiseLink k).portA = s.portA := rfl
@[simp] theorem State.raiseLink_portB (k : NoticeKind) (s : State) : (s.raiseLink k).portB = s.portB := rfl
@[simp] theorem State.raiseLink_sli (k : NoticeKind) (s : State) :
    (s.raiseLink k).sli = { s.sli with counts := noticeRaised s.sli.counts k } := rfl
@[simp] theorem State.raiseLink_lines (k : NoticeKind) (s : State) : (s.raiseLink k).lines = s.lines := rfl
@[simp] theorem State.raiseLink_inFlight (k : NoticeKind) (s : State) : (s.raiseLink k).inFlight = s.inFlight := rfl
@[simp] theorem State.raiseLink_pending (k : NoticeKind) (s : State) : (s.raiseLink k).pending = s.pending := rfl
@[simp] theorem State.raiseLink_freeCount (k : NoticeKind) (s : State) : (s.raiseLink k).freeCount = s.freeCount := rfl

/-! ### `State.raiseBoth` -/

@[simp] theorem State.raiseBoth_supply (k : NoticeKind) (s : State) : (s.raiseBoth k).supply = s.supply := rfl
@[simp] theorem State.raiseBoth_settings (k : NoticeKind) (s : State) : (s.raiseBoth k).settings = s.settings := rfl
@[simp] theorem State.raiseBoth_spu (k : NoticeKind) (s : State) : (s.raiseBoth k).spu = s.spu := rfl
@[simp] theorem State.raiseBoth_geu (k : NoticeKind) (s : State) : (s.raiseBoth k).geu = s.geu := rfl
@[simp] theorem State.raiseBoth_cyt (k : NoticeKind) (s : State) : (s.raiseBoth k).cyt = s.cyt := rfl
@[simp] theorem State.raiseBoth_ggu (k : NoticeKind) (s : State) : (s.raiseBoth k).ggu = s.ggu := rfl
@[simp] theorem State.raiseBoth_env (k : NoticeKind) (s : State) : (s.raiseBoth k).env = s.env := rfl
@[simp] theorem State.raiseBoth_lev (k : NoticeKind) (s : State) : (s.raiseBoth k).lev = s.lev := rfl
@[simp] theorem State.raiseBoth_epc (k : NoticeKind) (s : State) : (s.raiseBoth k).epc = s.epc := rfl
@[simp] theorem State.raiseBoth_smu (k : NoticeKind) (s : State) : (s.raiseBoth k).smu = s.smu := rfl
@[simp] theorem State.raiseBoth_fhu (k : NoticeKind) (s : State) : (s.raiseBoth k).fhu = s.fhu := rfl
@[simp] theorem State.raiseBoth_nvc (k : NoticeKind) (s : State) : (s.raiseBoth k).nvc = s.nvc := rfl
@[simp] theorem State.raiseBoth_portA (k : NoticeKind) (s : State) : (s.raiseBoth k).portA = s.portA.raised k := rfl
@[simp] theorem State.raiseBoth_portB (k : NoticeKind) (s : State) : (s.raiseBoth k).portB = s.portB := rfl
@[simp] theorem State.raiseBoth_sli (k : NoticeKind) (s : State) :
    (s.raiseBoth k).sli = { s.sli with counts := noticeRaised s.sli.counts k } := rfl
@[simp] theorem State.raiseBoth_lines (k : NoticeKind) (s : State) : (s.raiseBoth k).lines = s.lines := rfl
@[simp] theorem State.raiseBoth_inFlight (k : NoticeKind) (s : State) : (s.raiseBoth k).inFlight = s.inFlight := rfl
@[simp] theorem State.raiseBoth_pending (k : NoticeKind) (s : State) : (s.raiseBoth k).pending = s.pending := rfl
@[simp] theorem State.raiseBoth_freeCount (k : NoticeKind) (s : State) : (s.raiseBoth k).freeCount = s.freeCount := rfl

/-! ### `State.handGuidance` -/

@[simp] theorem State.handGuidance_supply (m : GuidanceMsg) (s : State) : (s.handGuidance m).supply = s.supply := rfl
@[simp] theorem State.handGuidance_settings (m : GuidanceMsg) (s : State) :
    (s.handGuidance m).settings = s.settings := rfl
@[simp] theorem State.handGuidance_spu (m : GuidanceMsg) (s : State) : (s.handGuidance m).spu = s.spu := rfl
@[simp] theorem State.handGuidance_geu (m : GuidanceMsg) (s : State) : (s.handGuidance m).geu = s.geu := rfl
@[simp] theorem State.handGuidance_cyt (m : GuidanceMsg) (s : State) : (s.handGuidance m).cyt = s.cyt := rfl
@[simp] theorem State.handGuidance_ggu (m : GuidanceMsg) (s : State) : (s.handGuidance m).ggu = s.ggu := rfl
@[simp] theorem State.handGuidance_env (m : GuidanceMsg) (s : State) : (s.handGuidance m).env = s.env := rfl
@[simp] theorem State.handGuidance_lev (m : GuidanceMsg) (s : State) : (s.handGuidance m).lev = s.lev := rfl
@[simp] theorem State.handGuidance_epc (m : GuidanceMsg) (s : State) : (s.handGuidance m).epc = s.epc := rfl
@[simp] theorem State.handGuidance_smu (m : GuidanceMsg) (s : State) : (s.handGuidance m).smu = s.smu := rfl
@[simp] theorem State.handGuidance_fhu (m : GuidanceMsg) (s : State) : (s.handGuidance m).fhu = s.fhu := rfl
@[simp] theorem State.handGuidance_nvc (m : GuidanceMsg) (s : State) : (s.handGuidance m).nvc = s.nvc := rfl
@[simp] theorem State.handGuidance_portA (m : GuidanceMsg) (s : State) :
    (s.handGuidance m).portA = s.portA.handGuidance m := rfl
@[simp] theorem State.handGuidance_portB (m : GuidanceMsg) (s : State) : (s.handGuidance m).portB = s.portB := rfl
@[simp] theorem State.handGuidance_sli (m : GuidanceMsg) (s : State) : (s.handGuidance m).sli = s.sli := rfl
@[simp] theorem State.handGuidance_lines (m : GuidanceMsg) (s : State) : (s.handGuidance m).lines = s.lines := rfl
@[simp] theorem State.handGuidance_inFlight (m : GuidanceMsg) (s : State) :
    (s.handGuidance m).inFlight = s.inFlight := rfl
@[simp] theorem State.handGuidance_pending (m : GuidanceMsg) (s : State) : (s.handGuidance m).pending = s.pending := rfl
@[simp] theorem State.handGuidance_freeCount (m : GuidanceMsg) (s : State) :
    (s.handGuidance m).freeCount = s.freeCount := rfl

/-! ### `State.handStatus` -/

@[simp] theorem State.handStatus_supply (m : StatusMsg) (s : State) : (s.handStatus m).supply = s.supply := rfl
@[simp] theorem State.handStatus_settings (m : StatusMsg) (s : State) : (s.handStatus m).settings = s.settings := rfl
@[simp] theorem State.handStatus_spu (m : StatusMsg) (s : State) : (s.handStatus m).spu = s.spu := rfl
@[simp] theorem State.handStatus_geu (m : StatusMsg) (s : State) : (s.handStatus m).geu = s.geu := rfl
@[simp] theorem State.handStatus_cyt (m : StatusMsg) (s : State) : (s.handStatus m).cyt = s.cyt := rfl
@[simp] theorem State.handStatus_ggu (m : StatusMsg) (s : State) : (s.handStatus m).ggu = s.ggu := rfl
@[simp] theorem State.handStatus_env (m : StatusMsg) (s : State) : (s.handStatus m).env = s.env := rfl
@[simp] theorem State.handStatus_lev (m : StatusMsg) (s : State) : (s.handStatus m).lev = s.lev := rfl
@[simp] theorem State.handStatus_epc (m : StatusMsg) (s : State) : (s.handStatus m).epc = s.epc := rfl
@[simp] theorem State.handStatus_smu (m : StatusMsg) (s : State) : (s.handStatus m).smu = s.smu := rfl
@[simp] theorem State.handStatus_fhu (m : StatusMsg) (s : State) : (s.handStatus m).fhu = s.fhu := rfl
@[simp] theorem State.handStatus_nvc (m : StatusMsg) (s : State) : (s.handStatus m).nvc = s.nvc := rfl
@[simp] theorem State.handStatus_portA (m : StatusMsg) (s : State) :
    (s.handStatus m).portA = s.portA.handStatus m := rfl
@[simp] theorem State.handStatus_portB (m : StatusMsg) (s : State) : (s.handStatus m).portB = s.portB := rfl
@[simp] theorem State.handStatus_sli (m : StatusMsg) (s : State) : (s.handStatus m).sli = s.sli := rfl
@[simp] theorem State.handStatus_lines (m : StatusMsg) (s : State) : (s.handStatus m).lines = s.lines := rfl
@[simp] theorem State.handStatus_inFlight (m : StatusMsg) (s : State) : (s.handStatus m).inFlight = s.inFlight := rfl
@[simp] theorem State.handStatus_pending (m : StatusMsg) (s : State) : (s.handStatus m).pending = s.pending := rfl
@[simp] theorem State.handStatus_freeCount (m : StatusMsg) (s : State) : (s.handStatus m).freeCount = s.freeCount := rfl

/-! ### `State.answerCab` -/

@[simp] theorem State.answerCab_supply (k : Nat) (r : ResultCode) (s : State) :
    (s.answerCab k r).supply = s.supply := rfl
@[simp] theorem State.answerCab_settings (k : Nat) (r : ResultCode) (s : State) :
    (s.answerCab k r).settings = s.settings := rfl
@[simp] theorem State.answerCab_spu (k : Nat) (r : ResultCode) (s : State) : (s.answerCab k r).spu = s.spu := rfl
@[simp] theorem State.answerCab_geu (k : Nat) (r : ResultCode) (s : State) : (s.answerCab k r).geu = s.geu := rfl
@[simp] theorem State.answerCab_cyt (k : Nat) (r : ResultCode) (s : State) : (s.answerCab k r).cyt = s.cyt := rfl
@[simp] theorem State.answerCab_ggu (k : Nat) (r : ResultCode) (s : State) : (s.answerCab k r).ggu = s.ggu := rfl
@[simp] theorem State.answerCab_env (k : Nat) (r : ResultCode) (s : State) : (s.answerCab k r).env = s.env := rfl
@[simp] theorem State.answerCab_lev (k : Nat) (r : ResultCode) (s : State) : (s.answerCab k r).lev = s.lev := rfl
@[simp] theorem State.answerCab_epc (k : Nat) (r : ResultCode) (s : State) : (s.answerCab k r).epc = s.epc := rfl
@[simp] theorem State.answerCab_smu (k : Nat) (r : ResultCode) (s : State) : (s.answerCab k r).smu = s.smu := rfl
@[simp] theorem State.answerCab_fhu (k : Nat) (r : ResultCode) (s : State) : (s.answerCab k r).fhu = s.fhu := rfl
@[simp] theorem State.answerCab_nvc (k : Nat) (r : ResultCode) (s : State) : (s.answerCab k r).nvc = s.nvc := rfl
@[simp] theorem State.answerCab_portA (k : Nat) (r : ResultCode) (s : State) :
    (s.answerCab k r).portA = s.portA.answered k r := rfl
@[simp] theorem State.answerCab_portB (k : Nat) (r : ResultCode) (s : State) : (s.answerCab k r).portB = s.portB := rfl
@[simp] theorem State.answerCab_sli (k : Nat) (r : ResultCode) (s : State) : (s.answerCab k r).sli = s.sli := rfl
@[simp] theorem State.answerCab_lines (k : Nat) (r : ResultCode) (s : State) : (s.answerCab k r).lines = s.lines := rfl
@[simp] theorem State.answerCab_inFlight (k : Nat) (r : ResultCode) (s : State) :
    (s.answerCab k r).inFlight = s.inFlight := rfl
@[simp] theorem State.answerCab_pending (k : Nat) (r : ResultCode) (s : State) :
    (s.answerCab k r).pending = s.pending := rfl
@[simp] theorem State.answerCab_freeCount (k : Nat) (r : ResultCode) (s : State) :
    (s.answerCab k r).freeCount = s.freeCount := rfl

/-! ### `State.handAllotment` -/

@[simp] theorem State.handAllotment_supply (a : Allotment) (s : State) : (s.handAllotment a).supply = s.supply := rfl
@[simp] theorem State.handAllotment_settings (a : Allotment) (s : State) :
    (s.handAllotment a).settings = s.settings := rfl
@[simp] theorem State.handAllotment_spu (a : Allotment) (s : State) : (s.handAllotment a).spu = s.spu := rfl
@[simp] theorem State.handAllotment_geu (a : Allotment) (s : State) : (s.handAllotment a).geu = s.geu := rfl
@[simp] theorem State.handAllotment_cyt (a : Allotment) (s : State) : (s.handAllotment a).cyt = s.cyt := rfl
@[simp] theorem State.handAllotment_ggu (a : Allotment) (s : State) : (s.handAllotment a).ggu = s.ggu := rfl
@[simp] theorem State.handAllotment_env (a : Allotment) (s : State) : (s.handAllotment a).env = s.env := rfl
@[simp] theorem State.handAllotment_lev (a : Allotment) (s : State) : (s.handAllotment a).lev = s.lev := rfl
@[simp] theorem State.handAllotment_epc (a : Allotment) (s : State) : (s.handAllotment a).epc = s.epc := rfl
@[simp] theorem State.handAllotment_smu (a : Allotment) (s : State) : (s.handAllotment a).smu = s.smu := rfl
@[simp] theorem State.handAllotment_fhu (a : Allotment) (s : State) : (s.handAllotment a).fhu = s.fhu := rfl
@[simp] theorem State.handAllotment_nvc (a : Allotment) (s : State) : (s.handAllotment a).nvc = s.nvc := rfl
@[simp] theorem State.handAllotment_portA (a : Allotment) (s : State) : (s.handAllotment a).portA = s.portA := rfl
@[simp] theorem State.handAllotment_portB (a : Allotment) (s : State) :
    (s.handAllotment a).portB = s.portB.handAllotment (allotmentFrame s.settings.ports.pcuOrder a) := rfl
@[simp] theorem State.handAllotment_sli (a : Allotment) (s : State) : (s.handAllotment a).sli = s.sli := rfl
@[simp] theorem State.handAllotment_lines (a : Allotment) (s : State) : (s.handAllotment a).lines = s.lines := rfl
@[simp] theorem State.handAllotment_inFlight (a : Allotment) (s : State) :
    (s.handAllotment a).inFlight = s.inFlight := rfl
@[simp] theorem State.handAllotment_pending (a : Allotment) (s : State) : (s.handAllotment a).pending = s.pending := rfl
@[simp] theorem State.handAllotment_freeCount (a : Allotment) (s : State) :
    (s.handAllotment a).freeCount = s.freeCount := rfl

/-! ### `State.handDemand` -/

@[simp] theorem State.handDemand_supply (d : EngineDemand) (s : State) : (s.handDemand d).supply = s.supply := rfl
@[simp] theorem State.handDemand_settings (d : EngineDemand) (s : State) : (s.handDemand d).settings = s.settings := rfl
@[simp] theorem State.handDemand_spu (d : EngineDemand) (s : State) : (s.handDemand d).spu = s.spu := rfl
@[simp] theorem State.handDemand_geu (d : EngineDemand) (s : State) : (s.handDemand d).geu = s.geu := rfl
@[simp] theorem State.handDemand_cyt (d : EngineDemand) (s : State) : (s.handDemand d).cyt = s.cyt := rfl
@[simp] theorem State.handDemand_ggu (d : EngineDemand) (s : State) : (s.handDemand d).ggu = s.ggu := rfl
@[simp] theorem State.handDemand_env (d : EngineDemand) (s : State) : (s.handDemand d).env = s.env := rfl
@[simp] theorem State.handDemand_lev (d : EngineDemand) (s : State) : (s.handDemand d).lev = s.lev := rfl
@[simp] theorem State.handDemand_epc (d : EngineDemand) (s : State) : (s.handDemand d).epc = s.epc := rfl
@[simp] theorem State.handDemand_smu (d : EngineDemand) (s : State) : (s.handDemand d).smu = s.smu := rfl
@[simp] theorem State.handDemand_fhu (d : EngineDemand) (s : State) : (s.handDemand d).fhu = s.fhu := rfl
@[simp] theorem State.handDemand_nvc (d : EngineDemand) (s : State) : (s.handDemand d).nvc = s.nvc := rfl
@[simp] theorem State.handDemand_portA (d : EngineDemand) (s : State) : (s.handDemand d).portA = s.portA := rfl
@[simp] theorem State.handDemand_portB (d : EngineDemand) (s : State) :
    (s.handDemand d).portB = s.portB.handDemand d.engine (engineDemandFrame (s.settings.ports.govOrder d.engine) d) := rfl
@[simp] theorem State.handDemand_sli (d : EngineDemand) (s : State) : (s.handDemand d).sli = s.sli := rfl
@[simp] theorem State.handDemand_lines (d : EngineDemand) (s : State) : (s.handDemand d).lines = s.lines := rfl
@[simp] theorem State.handDemand_inFlight (d : EngineDemand) (s : State) : (s.handDemand d).inFlight = s.inFlight := rfl
@[simp] theorem State.handDemand_pending (d : EngineDemand) (s : State) : (s.handDemand d).pending = s.pending := rfl
@[simp] theorem State.handDemand_freeCount (d : EngineDemand) (s : State) :
    (s.handDemand d).freeCount = s.freeCount := rfl

/-! ### `State.handOn` -/

@[simp] theorem State.handOn_supply (a : Allotment) (s : State) : (s.handOn a).supply = s.supply := rfl
@[simp] theorem State.handOn_settings (a : Allotment) (s : State) : (s.handOn a).settings = s.settings := rfl
@[simp] theorem State.handOn_spu (a : Allotment) (s : State) : (s.handOn a).spu = s.spu := rfl
@[simp] theorem State.handOn_geu (a : Allotment) (s : State) : (s.handOn a).geu = s.geu := rfl
@[simp] theorem State.handOn_cyt (a : Allotment) (s : State) : (s.handOn a).cyt = s.cyt := rfl
@[simp] theorem State.handOn_ggu (a : Allotment) (s : State) : (s.handOn a).ggu = s.ggu := rfl
@[simp] theorem State.handOn_env (a : Allotment) (s : State) : (s.handOn a).env = s.env := rfl
@[simp] theorem State.handOn_lev (a : Allotment) (s : State) : (s.handOn a).lev = { s.lev with latest := some a } := rfl
@[simp] theorem State.handOn_epc (a : Allotment) (s : State) : (s.handOn a).epc = s.epc := rfl
@[simp] theorem State.handOn_smu (a : Allotment) (s : State) : (s.handOn a).smu = s.smu := rfl
@[simp] theorem State.handOn_fhu (a : Allotment) (s : State) : (s.handOn a).fhu = s.fhu := rfl
@[simp] theorem State.handOn_nvc (a : Allotment) (s : State) : (s.handOn a).nvc = s.nvc := rfl
@[simp] theorem State.handOn_portA (a : Allotment) (s : State) : (s.handOn a).portA = s.portA := rfl
@[simp] theorem State.handOn_portB (a : Allotment) (s : State) :
    (s.handOn a).portB = s.portB.handAllotment (allotmentFrame s.settings.ports.pcuOrder a) := rfl
@[simp] theorem State.handOn_sli (a : Allotment) (s : State) : (s.handOn a).sli = s.sli := rfl
@[simp] theorem State.handOn_lines (a : Allotment) (s : State) : (s.handOn a).lines = s.lines := rfl
@[simp] theorem State.handOn_inFlight (a : Allotment) (s : State) : (s.handOn a).inFlight = s.inFlight := rfl
@[simp] theorem State.handOn_pending (a : Allotment) (s : State) : (s.handOn a).pending = s.pending := rfl
@[simp] theorem State.handOn_freeCount (a : Allotment) (s : State) : (s.handOn a).freeCount = s.freeCount := rfl

/-! ### `State.setAssembly` -/

@[simp] theorem State.setAssembly_supply (a : Option Assembly) (s : State) : (s.setAssembly a).supply = s.supply := rfl
@[simp] theorem State.setAssembly_settings (a : Option Assembly) (s : State) :
    (s.setAssembly a).settings = s.settings := rfl
@[simp] theorem State.setAssembly_spu (a : Option Assembly) (s : State) : (s.setAssembly a).spu = s.spu := rfl
@[simp] theorem State.setAssembly_geu (a : Option Assembly) (s : State) : (s.setAssembly a).geu = s.geu := rfl
@[simp] theorem State.setAssembly_cyt (a : Option Assembly) (s : State) : (s.setAssembly a).cyt = s.cyt := rfl
@[simp] theorem State.setAssembly_ggu (a : Option Assembly) (s : State) : (s.setAssembly a).ggu = s.ggu := rfl
@[simp] theorem State.setAssembly_env (a : Option Assembly) (s : State) : (s.setAssembly a).env = s.env := rfl
@[simp] theorem State.setAssembly_lev (a : Option Assembly) (s : State) : (s.setAssembly a).lev = s.lev := rfl
@[simp] theorem State.setAssembly_epc (a : Option Assembly) (s : State) : (s.setAssembly a).epc = s.epc := rfl
@[simp] theorem State.setAssembly_smu (a : Option Assembly) (s : State) : (s.setAssembly a).smu = s.smu := rfl
@[simp] theorem State.setAssembly_fhu (a : Option Assembly) (s : State) : (s.setAssembly a).fhu = s.fhu := rfl
@[simp] theorem State.setAssembly_nvc (a : Option Assembly) (s : State) : (s.setAssembly a).nvc = s.nvc := rfl
@[simp] theorem State.setAssembly_portA (a : Option Assembly) (s : State) :
    (s.setAssembly a).portA = { s.portA with assembly := a } := rfl
@[simp] theorem State.setAssembly_portB (a : Option Assembly) (s : State) : (s.setAssembly a).portB = s.portB := rfl
@[simp] theorem State.setAssembly_sli (a : Option Assembly) (s : State) : (s.setAssembly a).sli = s.sli := rfl
@[simp] theorem State.setAssembly_lines (a : Option Assembly) (s : State) : (s.setAssembly a).lines = s.lines := rfl
@[simp] theorem State.setAssembly_inFlight (a : Option Assembly) (s : State) :
    (s.setAssembly a).inFlight = s.inFlight := rfl
@[simp] theorem State.setAssembly_pending (a : Option Assembly) (s : State) :
    (s.setAssembly a).pending = s.pending := rfl
@[simp] theorem State.setAssembly_freeCount (a : Option Assembly) (s : State) :
    (s.setAssembly a).freeCount = s.freeCount := rfl

/-! ### `State.moveCursor` -/

@[simp] theorem State.moveCursor_supply (k : Nat) (s : State) : (s.moveCursor k).supply = s.supply := rfl
@[simp] theorem State.moveCursor_settings (k : Nat) (s : State) : (s.moveCursor k).settings = s.settings := rfl
@[simp] theorem State.moveCursor_spu (k : Nat) (s : State) : (s.moveCursor k).spu = s.spu := rfl
@[simp] theorem State.moveCursor_geu (k : Nat) (s : State) : (s.moveCursor k).geu = s.geu := rfl
@[simp] theorem State.moveCursor_cyt (k : Nat) (s : State) : (s.moveCursor k).cyt = s.cyt := rfl
@[simp] theorem State.moveCursor_ggu (k : Nat) (s : State) : (s.moveCursor k).ggu = s.ggu := rfl
@[simp] theorem State.moveCursor_env (k : Nat) (s : State) : (s.moveCursor k).env = s.env := rfl
@[simp] theorem State.moveCursor_lev (k : Nat) (s : State) : (s.moveCursor k).lev = s.lev := rfl
@[simp] theorem State.moveCursor_epc (k : Nat) (s : State) : (s.moveCursor k).epc = s.epc := rfl
@[simp] theorem State.moveCursor_smu (k : Nat) (s : State) : (s.moveCursor k).smu = s.smu := rfl
@[simp] theorem State.moveCursor_fhu (k : Nat) (s : State) : (s.moveCursor k).fhu = s.fhu := rfl
@[simp] theorem State.moveCursor_nvc (k : Nat) (s : State) : (s.moveCursor k).nvc = s.nvc := rfl
@[simp] theorem State.moveCursor_portA (k : Nat) (s : State) : (s.moveCursor k).portA = s.portA := rfl
@[simp] theorem State.moveCursor_portB (k : Nat) (s : State) : (s.moveCursor k).portB = s.portB := rfl
@[simp] theorem State.moveCursor_sli (k : Nat) (s : State) :
    (s.moveCursor k).sli = { s.sli with index := s.sli.index + k } := rfl
@[simp] theorem State.moveCursor_lines (k : Nat) (s : State) : (s.moveCursor k).lines = s.lines := rfl
@[simp] theorem State.moveCursor_inFlight (k : Nat) (s : State) : (s.moveCursor k).inFlight = s.inFlight := rfl
@[simp] theorem State.moveCursor_pending (k : Nat) (s : State) : (s.moveCursor k).pending = s.pending := rfl
@[simp] theorem State.moveCursor_freeCount (k : Nat) (s : State) : (s.moveCursor k).freeCount = s.freeCount := rfl

/-! ### `State.deliverCycleEnd` -/

@[simp] theorem State.deliverCycleEnd_supply (n : Nat) (s : State) : (s.deliverCycleEnd n).supply = s.supply := rfl
@[simp] theorem State.deliverCycleEnd_settings (n : Nat) (s : State) :
    (s.deliverCycleEnd n).settings = s.settings := rfl
@[simp] theorem State.deliverCycleEnd_spu (n : Nat) (s : State) : (s.deliverCycleEnd n).spu = s.spu := rfl
@[simp] theorem State.deliverCycleEnd_geu (n : Nat) (s : State) : (s.deliverCycleEnd n).geu = s.geu := rfl
@[simp] theorem State.deliverCycleEnd_cyt (n : Nat) (s : State) : (s.deliverCycleEnd n).cyt = s.cyt := rfl
@[simp] theorem State.deliverCycleEnd_ggu (n : Nat) (s : State) : (s.deliverCycleEnd n).ggu = s.ggu := rfl
@[simp] theorem State.deliverCycleEnd_env (n : Nat) (s : State) : (s.deliverCycleEnd n).env = s.env := rfl
@[simp] theorem State.deliverCycleEnd_lev (n : Nat) (s : State) : (s.deliverCycleEnd n).lev = s.lev := rfl
@[simp] theorem State.deliverCycleEnd_epc (n : Nat) (s : State) : (s.deliverCycleEnd n).epc = s.epc := rfl
@[simp] theorem State.deliverCycleEnd_smu (n : Nat) (s : State) : (s.deliverCycleEnd n).smu = s.smu := rfl
@[simp] theorem State.deliverCycleEnd_fhu (n : Nat) (s : State) : (s.deliverCycleEnd n).fhu = s.fhu := rfl
@[simp] theorem State.deliverCycleEnd_nvc (n : Nat) (s : State) : (s.deliverCycleEnd n).nvc = s.nvc := rfl
@[simp] theorem State.deliverCycleEnd_portA (n : Nat) (s : State) : (s.deliverCycleEnd n).portA = s.portA := rfl
@[simp] theorem State.deliverCycleEnd_portB (n : Nat) (s : State) : (s.deliverCycleEnd n).portB = s.portB := rfl
@[simp] theorem State.deliverCycleEnd_sli (n : Nat) (s : State) : (s.deliverCycleEnd n).sli = s.sli := rfl
@[simp] theorem State.deliverCycleEnd_lines (n : Nat) (s : State) : (s.deliverCycleEnd n).lines = s.lines := rfl
@[simp] theorem State.deliverCycleEnd_inFlight (n : Nat) (s : State) :
    (s.deliverCycleEnd n).inFlight = s.inFlight ++ [.smuCycleEnd] ++ [.epcCycleEnd] ++ [.gguCycleEnd n] := rfl
@[simp] theorem State.deliverCycleEnd_pending (n : Nat) (s : State) : (s.deliverCycleEnd n).pending = s.pending := rfl
@[simp] theorem State.deliverCycleEnd_freeCount (n : Nat) (s : State) :
    (s.deliverCycleEnd n).freeCount = s.freeCount := rfl

/-! ### `State.deliverHold` -/

@[simp] theorem State.deliverHold_supply (s : State) : s.deliverHold.supply = s.supply := rfl
@[simp] theorem State.deliverHold_settings (s : State) : s.deliverHold.settings = s.settings := rfl
@[simp] theorem State.deliverHold_spu (s : State) : s.deliverHold.spu = s.spu := rfl
@[simp] theorem State.deliverHold_geu (s : State) : s.deliverHold.geu = s.geu := rfl
@[simp] theorem State.deliverHold_cyt (s : State) : s.deliverHold.cyt = s.cyt := rfl
@[simp] theorem State.deliverHold_ggu (s : State) : s.deliverHold.ggu = s.ggu := rfl
@[simp] theorem State.deliverHold_env (s : State) : s.deliverHold.env = s.env := rfl
@[simp] theorem State.deliverHold_lev (s : State) : s.deliverHold.lev = s.lev := rfl
@[simp] theorem State.deliverHold_epc (s : State) : s.deliverHold.epc = s.epc := rfl
@[simp] theorem State.deliverHold_smu (s : State) : s.deliverHold.smu = s.smu := rfl
@[simp] theorem State.deliverHold_fhu (s : State) : s.deliverHold.fhu = s.fhu := rfl
@[simp] theorem State.deliverHold_nvc (s : State) : s.deliverHold.nvc = s.nvc := rfl
@[simp] theorem State.deliverHold_portA (s : State) : s.deliverHold.portA = s.portA := rfl
@[simp] theorem State.deliverHold_portB (s : State) : s.deliverHold.portB = s.portB := rfl
@[simp] theorem State.deliverHold_sli (s : State) : s.deliverHold.sli = s.sli := rfl
@[simp] theorem State.deliverHold_lines (s : State) : s.deliverHold.lines = s.lines := rfl
@[simp] theorem State.deliverHold_inFlight (s : State) :
    s.deliverHold.inFlight = s.inFlight ++ [.levHoldEntry] ++ [.epcHoldEntry] := rfl
@[simp] theorem State.deliverHold_pending (s : State) : s.deliverHold.pending = s.pending := rfl
@[simp] theorem State.deliverHold_freeCount (s : State) : s.deliverHold.freeCount = s.freeCount := rfl

end Sys2Proof.Machine
end

