-- ==== Sys2Proof/Laws/Ops.lean ====
section
/-! SUPPORT. One lemma for each shared operation that says once what it can do: what a command's answer is with and
without supply, the frame of each operation that decides, and the store queue, the notice tables, the places and the
answer buffer. -/

namespace Sys2Proof.Machine

open Sys2Proof

/-! ## Commands -/

@[simp] theorem onEvent_on (f : State → State) (s : State) (h : s.supply = true) : onEvent f s = .next (f s) := by
  simp [onEvent, h]

@[simp] theorem onEvent_off (f : State → State) (s : State) (h : s.supply = false) : onEvent f s = .next s := by
  simp [onEvent, h]

@[simp] theorem onDelivery_on (c : Instr) (f : State → State) (s : State) (h : s.supply = true) :
    onDelivery c f s = .next (f (s.taken c)) := by
  simp [onDelivery, h]

@[simp] theorem onDelivery_off (c : Instr) (f : State → State) (s : State) (h : s.supply = false) :
    onDelivery c f s = .next s := by
  simp [onDelivery, h]

/-! ## Repetition -/

/-- What one application keeps, `n` applications keep. -/
theorem repeatN_keeps {α : Type} (P : α → Prop) (f : α → α) (hf : ∀ x, P x → P (f x)) :
    ∀ n x, P x → P (repeatN f n x)
  | 0, _, h => h
  | n + 1, x, h => repeatN_keeps P f hf n (f x) (hf x h)

/-- What one application changes in no state, a fold changes in no state. -/
theorem foldl_keeps {α β : Type} (P : β → Prop) (f : β → α → β) (hf : ∀ x a, P x → P (f x a)) :
    ∀ (l : List α) (x : β), P x → P (l.foldl f x)
  | [], _, h => h
  | a :: l, x, h => foldl_keeps P f hf l (f x a) (hf x a h)

/-! ## Notices -/

theorem NoticeKind.number_pos (k : NoticeKind) : 1 ≤ k.number := by cases k <;> decide

theorem NoticeKind.number_le (k : NoticeKind) : k.number ≤ 11 := by cases k <;> decide

theorem NoticeKind.number_inj (j k : NoticeKind) (h : j.number = k.number) : j = k := by
  cases j <;> cases k <;> first | rfl | (exfalso; revert h; decide)

theorem NoticeKind.mem_all (k : NoticeKind) : k ∈ NoticeKind.all := by cases k <;> decide

@[simp] theorem noticeRaised_length (l : List Nat) (k : NoticeKind) : (noticeRaised l k).length = l.length := by
  simp [noticeRaised]

@[simp] theorem noticeTaken_length (l : List Nat) (k : NoticeKind) : (noticeTaken l k).length = l.length := by
  simp [noticeTaken]

theorem noticeRaised_count (l : List Nat) (k : NoticeKind) (h : l.length = 11) :
    noticeCount (noticeRaised l k) k = min 15 (noticeCount l k + 1) := by
  have := k.number_pos
  have := k.number_le
  simp [noticeCount, noticeRaised, List.getD, show k.number - 1 < l.length by omega]

theorem noticeTaken_count (l : List Nat) (k : NoticeKind) (h : l.length = 11) :
    noticeCount (noticeTaken l k) k = noticeCount l k - 1 := by
  have := k.number_pos
  have := k.number_le
  simp [noticeCount, noticeTaken, List.getD, show k.number - 1 < l.length by omega]

theorem noticeTaken_other (l : List Nat) (j k : NoticeKind) (h : j ≠ k) :
    noticeCount (noticeTaken l k) j = noticeCount l j := by
  have hj := j.number_pos
  have hk := k.number_pos
  have hne : k.number - 1 ≠ j.number - 1 := fun e => h (NoticeKind.number_inj j k (by omega))
  simp [noticeCount, noticeTaken, List.getD, List.getElem?_set_ne hne]

/-- A count that a raising or a taking leaves is a count in 0..15 when all were. -/
theorem noticeRaised_le (l : List Nat) (k : NoticeKind) (h : ∀ n ∈ l, n ≤ 15) : ∀ n ∈ noticeRaised l k, n ≤ 15 := by
  intro n hn
  rcases List.mem_or_eq_of_mem_set hn with hn | rfl
  · exact h n hn
  · exact Nat.min_le_left _ _

theorem noticeCount_le (l : List Nat) (k : NoticeKind) (h : ∀ n ∈ l, n ≤ 15) : noticeCount l k ≤ 15 := by
  unfold noticeCount
  by_cases hk : k.number - 1 < l.length
  · simpa [List.getD, hk] using h _ (List.getElem_mem hk)
  · simp [List.getD, List.getElem?_eq_none (Nat.le_of_not_lt hk)]

theorem noticeTaken_le (l : List Nat) (k : NoticeKind) (h : ∀ n ∈ l, n ≤ 15) : ∀ n ∈ noticeTaken l k, n ≤ 15 := by
  intro n hn
  rcases List.mem_or_eq_of_mem_set hn with hn | rfl
  · exact h n hn
  · exact Nat.le_trans (Nat.sub_le _ _) (noticeCount_le l k h)

/-! ## Choices of the ports change the offer alone -/

theorem PortA.choose_eq (p : PortA) : p.choose = { p with offering := p.choose.offering } := by
  unfold PortA.choose; split <;> rfl

theorem PortB.choose_eq (p : PortB) : p.choose = { p with offering := p.choose.offering } := by
  unfold PortB.choose; split <;> rfl

theorem PortA.fillNotice_eq (p : PortA) : p.fillNotice = { p with notice := p.fillNotice.notice } := by
  unfold PortA.fillNotice; split
  · split <;> rfl
  · rfl

/-- A raising changes the counts, the NOTICE place and the offer of port A. -/
theorem PortA.raised_eq (k : NoticeKind) (p : PortA) :
    p.raised k = { p with counts := noticeRaised p.counts k, notice := (p.raised k).notice
                          offering := (p.raised k).offering } := by
  unfold PortA.raised
  rw [PortA.choose_eq, PortA.fillNotice_eq]

/-- An answer changes the results and the offer of port A, and leaves their number. -/
theorem PortA.answered_eq (ticket : Nat) (r : ResultCode) (p : PortA) :
    p.answered ticket r = { p with results := p.results.map (ResultPlace.answered ticket r)
                                   offering := (p.answered ticket r).offering } := by
  unfold PortA.answered
  rw [PortA.choose_eq]

theorem PortA.raised_counts (k : NoticeKind) (p : PortA) : (p.raised k).counts = noticeRaised p.counts k := by
  rw [PortA.raised_eq]

theorem PortA.raised_results (k : NoticeKind) (p : PortA) : (p.raised k).results = p.results := by
  rw [PortA.raised_eq]

theorem PortA.answered_counts (t : Nat) (r : ResultCode) (p : PortA) : (p.answered t r).counts = p.counts := by
  rw [PortA.answered_eq]

theorem PortA.answered_results_length (t : Nat) (r : ResultCode) (p : PortA) :
    (p.answered t r).results.length = p.results.length := by
  rw [PortA.answered_eq]; simp

/-! ## Places -/

/-- A message handed while its place is not offered waits there, replacing an older one (R178). -/
@[simp] theorem Place.hand_free {α : Type} (m : α) (p : Place α) :
    p.hand false m = { waiting := some m, replacement := none } := rfl

/-- A message handed while its place is offered waits behind the one on the bus (R178). -/
@[simp] theorem Place.hand_offered {α : Type} (m : α) (p : Place α) :
    p.hand true m = { p with replacement := some m } := rfl

/-! ## The answer buffer -/

/-- With a request pending, its answer is placed and nothing but the link changes (R189). -/
theorem State.answerLink_pending (r : ResultCode) (res : Option Byte) (d : Option (BitVec 16)) (k : Byte)
    (data : List Byte) (s : State) (tag bt : Byte) (busy : Bool) (h : s.sli.buffer = .pending tag busy bt) :
    s.answerLink r res d k data = { s with
      freeCount := s.freeCount + 1
      sli := { s.sli with
        request := none
        buffer := .ready
          { tag := tag, result := r, residue := res.getD (Config.unstatedResidue s.freeCount), busy := busy,
            busyTag := bt, detail := d.getD (Config.unstatedDetail s.freeCount), returned := k, data := data } } } := by
  simp [State.answerLink, h]

/-- An answer changes only the link and the count of free values. -/
theorem State.answerLink_frame (r : ResultCode) (res : Option Byte) (d : Option (BitVec 16)) (k : Byte)
    (data : List Byte) (s : State) :
    s.answerLink r res d k data = { s with
      sli := (s.answerLink r res d k data).sli, freeCount := (s.answerLink r res d k data).freeCount } := by
  unfold State.answerLink; split <;> rfl

/-! ## The store queue -/

/-- Whatever the four cases of R168, a request changes only the queue, the power state and the owner's marks. -/
theorem State.requestStore_frame (r : RecordId) (head service : Bool) (s : State) :
    s.requestStore r head service = { s with
      nvc := s.nvc.requested r head service
      env := (s.requestStore r head service).env
      fhu := (s.requestStore r head service).fhu
      smu := (s.requestStore r head service).smu } := by
  unfold State.requestStore State.ownerTold
  cases r <;> first | rfl | (dsimp only; split <;> rfl)

theorem State.requestStore_entries (r : RecordId) (head service : Bool) (s : State) :
    (s.requestStore r head service).env.entries = s.env.entries := by
  unfold State.requestStore State.ownerTold
  cases r <;> first | rfl | (dsimp only; split <;> rfl)

theorem State.requestStore_latest (r : RecordId) (head service : Bool) (s : State) :
    (s.requestStore r head service).env.latest = s.env.latest := by
  unfold State.requestStore State.ownerTold
  cases r <;> first | rfl | (dsimp only; split <;> rfl)

/-- A request touches the snapshot mark and count of the SMU alone. -/
theorem State.requestStore_smu (r : RecordId) (head service : Bool) (s : State) :
    (s.requestStore r head service).smu = { s.smu with
      snapDue := (s.requestStore r head service).smu.snapDue
      snapCount := (s.requestStore r head service).smu.snapCount } := by
  unfold State.requestStore State.ownerTold
  cases r <;> first | rfl | (dsimp only; split <;> rfl)

/-- A request touches the unstored mark of the FHU alone. -/
theorem State.requestStore_fhu (r : RecordId) (head service : Bool) (s : State) :
    (s.requestStore r head service).fhu = { s.fhu with unstored := (s.requestStore r head service).fhu.unstored } := by
  unfold State.requestStore State.ownerTold
  cases r <;> first | rfl | (dsimp only; split <;> rfl)

/-- A hold store says in the unstored mark whether the queue took it (R160). -/
theorem State.requestStore_hold (head service : Bool) (s : State) :
    (s.requestStore .hold head service).fhu = { s.fhu with unstored := !s.nvc.takes .hold } := rfl

/-- A request leaves the array, the write in flight, the key-off list, the restart mark and the configuration. -/
theorem Nvc.requested_frame (r : RecordId) (head service : Bool) (n : Nvc) :
    n.requested r head service = { n with
      queue := (n.requested r head service).queue, power := (n.requested r head service).power } := by
  unfold Nvc.requested; split <;> rfl

/-- A refused request changes nothing in the store controller (R168). -/
theorem Nvc.requested_refused (r : RecordId) (head service : Bool) (n : Nvc) (h : n.takes r = false) :
    n.requested r head service = n := by
  simp [Nvc.requested, h]

theorem Nvc.requested_queue (r : RecordId) (head service : Bool) (n : Nvc) (h : n.takes r = true) :
    (n.requested r head service).queue = n.queueAfter r head service := by
  simp [Nvc.requested, h]

theorem mem_atHead (w : Bool) (e x : StoreEntry) (l : List StoreEntry) : x ∈ atHead w e l ↔ x = e ∨ x ∈ l := by
  cases l with
  | nil => simp [atHead]
  | cons h t => cases w <;> simp [atHead]; tauto

theorem atHead_length (w : Bool) (e : StoreEntry) (l : List StoreEntry) : (atHead w e l).length = l.length + 1 := by
  cases l with
  | nil => rfl
  | cons h t => cases w <;> simp [atHead]

@[simp] theorem StoreEntry.absorbed_record (a v : Bool) (e : StoreEntry) : (e.absorbed a v).record = e.record := rfl

/-- After a request that is taken, the queue has an entry for its record (R168). -/
theorem Nvc.requested_queued (r : RecordId) (head service : Bool) (n : Nvc) (h : n.takes r = true)
    (hw : n.writing r = true → n.queued r = true) : (n.requested r head service).queued r = true := by
  have hmap : ∀ (f : StoreEntry → StoreEntry), (∀ e, (f e).record = e.record) → n.queued r = true →
      (n.queue.map f).any (fun e => decide (e.record = r)) = true := by
    intro f hf hq
    simp only [Nvc.queued, List.any_eq_true, decide_eq_true_eq] at hq
    obtain ⟨e, he, hr⟩ := hq
    simp only [List.any_eq_true, decide_eq_true_eq]
    exact ⟨f e, List.mem_map_of_mem he, by rw [hf, hr]⟩
  rw [Nvc.queued, Nvc.requested_queue r head service n h]
  unfold Nvc.queueAfter
  by_cases hwr : n.writing r = true
  · rw [if_pos hwr]
    exact hmap _ (fun e => by split <;> rfl) (hw hwr)
  · rw [if_neg hwr]
    cases hf : n.queue.find? (fun e => decide (e.record = r)) with
    | some e =>
      have he := List.find?_some hf
      simp only [decide_eq_true_eq] at he
      have hq : n.queued r = true := by
        simp only [Nvc.queued, List.any_eq_true, decide_eq_true_eq]
        exact ⟨e, List.mem_of_find?_eq_some hf, he⟩
      cases head with
      | true =>
        simp only [if_true, List.any_eq_true, decide_eq_true_eq]
        exact ⟨_, (mem_atHead _ _ _ _).2 (Or.inl rfl), he⟩
      | false =>
        exact hmap _ (fun e => by split <;> rfl) hq
    | none =>
      cases head with
      | true =>
        simp only [if_true, List.any_eq_true, decide_eq_true_eq]
        exact ⟨_, (mem_atHead _ _ _ _).2 (Or.inl rfl), rfl⟩
      | false => simp

/-- Settling changes the write in flight, the power state, and puts a due restart in flight (R169, R171, R173). -/
theorem State.settle_frame (s : State) :
    s.settle = { s with
      nvc := { s.nvc with write := s.settle.nvc.write, power := s.settle.nvc.power }, inFlight := s.settle.inFlight } := by
  unfold State.settle State.scheduleRestart State.enterReadyOff State.beginWrite
  split
  · split
    · split <;> split <;> rfl
    · split <;> split <;> rfl
  · split <;> split <;> rfl

/-- Settling only adds to the deliveries in flight. -/
theorem State.settle_inFlight (s : State) :
    s.settle.inFlight = s.inFlight ∨ s.settle.inFlight = s.inFlight ++ [.supervisorRestart] := by
  unfold State.settle State.scheduleRestart State.enterReadyOff State.beginWrite
  split
  · split
    · split <;> split <;> simp
    · split <;> split <;> simp
  · split <;> split <;> simp

@[simp] theorem State.settle_queue (s : State) : s.settle.nvc.queue = s.nvc.queue := by rw [State.settle_frame]

@[simp] theorem State.settle_array (s : State) : s.settle.nvc.array = s.nvc.array := by rw [State.settle_frame]

theorem State.mem_settle (c : Instr) (s : State) (h : c ∈ s.inFlight) : c ∈ s.settle.inFlight := by
  rcases s.settle_inFlight with e | e <;> simp [e, h]

/-! ## Engine plan -/

/-- An event at the EPC changes the EPC, and raises notices alone (R114, R116). -/
theorem State.epcEvent_frame (f : Epc → Epc) (s : State) :
    s.epcEvent f = { s with epc := (f s.epc).reform s.settings.epc, portA := (s.epcEvent f).portA,
                            sli := (s.epcEvent f).sli } := by
  unfold State.epcEvent; dsimp only; split <;> split <;> rfl

/-- An event that changes neither the cap nor the plan nor the lead raises nothing. -/
theorem State.epcEvent_quiet (f : Epc → Epc) (s : State)
    (hc : ((f s.epc).reform s.settings.epc).capped = s.epc.capped) (hp : (f s.epc).plan = s.epc.plan)
    (hl : (f s.epc).lead = s.epc.lead) :
    s.epcEvent f = { s with epc := (f s.epc).reform s.settings.epc } := by
  have hp' : ((f s.epc).reform s.settings.epc).plan = s.epc.plan := hp
  have hl' : ((f s.epc).reform s.settings.epc).lead = s.epc.lead := hl
  unfold State.epcEvent
  simp [hc, hp', hl']

/-- What re-forming the commands leaves of an engine record (R117). -/
theorem Epc.command_frame (c : EpcCfg) (p : Epc) (e : Engine) :
    p.command c e = { p.eng e with run := (p.command c e).run, cmdSpeed := (p.command c e).cmdSpeed,
                                   hasRun := (p.command c e).hasRun } := by
  unfold Epc.command; dsimp only; split <;> rfl

/-- The commanded run is that of R117. -/
theorem Epc.command_run (c : EpcCfg) (p : Epc) (e : Engine) : (p.command c e).run = p.runFor e := by
  unfold Epc.command; dsimp only
  split
  · rename_i h; exact h.symm
  · rename_i h; simpa using h

/-! ## Meters and items -/

/-- A change of the items changes the items and the summary, raises notices, and may hand the summary on (R141, R142). -/
theorem State.itemsChanged_frame (items : List Item) (n : Nat) (s : State) :
    s.itemsChanged items n = { s with
      smu := { s.smu with items := items, summary := summaryOf items }
      portA := (s.itemsChanged items n).portA
      sli := (s.itemsChanged items n).sli
      inFlight := s.inFlight ++ (if summaryOf items != s.smu.summary then [.consequenceSummary (summaryOf items)] else [])
      } := by
  have key : ∀ (m : Nat) (t : State), ∃ a b, repeatN (State.raiseBoth .reminderChanged) m t = { t with portA := a, sli := b } := by
    intro m
    induction m with
    | zero => exact fun t => ⟨t.portA, t.sli, rfl⟩
    | succ m ih =>
      intro t
      obtain ⟨a, b, h⟩ := ih (t.raiseBoth .reminderChanged)
      exact ⟨a, b, by rw [repeatN, h]; rfl⟩
  obtain ⟨a, b, h⟩ := key n { s with smu := { s.smu with items := items } }
  unfold State.itemsChanged
  rw [h]
  unfold State.deliverIf
  dsimp only
  split
  · rfl
  · simp

/-- A meter set to a value (R133): that meter, the items on it, the summary, notices, a summary handed on. -/
theorem State.setMeter_frame (k v : Nat) (s : State) :
    s.setMeter k v = { s with
      smu := { s.smu with
        meters := s.smu.meters.set k v, items := reclassifyOn k v s.smu.items
        summary := summaryOf (reclassifyOn k v s.smu.items) }
      portA := (s.setMeter k v).portA
      sli := (s.setMeter k v).sli
      inFlight := (s.setMeter k v).inFlight } := by
  unfold State.setMeter
  rw [State.itemsChanged_frame]

/-! ## Faults -/

/-- A recorded fault: the ring, its counter and the notices of FAULT_RECORDED (R155, R156). -/
theorem State.recordFault_frame (r : FaultReport) (second : Bool) (s : State) :
    s.recordFault r second = { s with
      fhu := (s.recordFault r second).fhu, portA := (s.recordFault r second).portA
      sli := (s.recordFault r second).sli } := rfl

end Sys2Proof.Machine
end

