-- ==== Sys2Proof/Laws/Ports.lean ====
section
/-! SUPPORT. What the operations of the two ports and the answer buffer do: which frames are taken in, what the end of a
transmission leaves in its place, which message a port offers, how the NOTICE place is filled, what an answer read gives. -/

namespace Sys2Proof.Machine

open Sys2Proof

/-! ## Identifiers and frames (R174, R180) -/

/-- The identifiers and data lengths of port A's messages (R174). -/
theorem OfferA.header_table :
    [OfferA.guidance, .result, .status, .notice].map OfferA.header = [(513, 12), (705, 12), (769, 32), (897, 12)] := by
  decide

/-- The identifiers and data lengths of port B's messages (R174). -/
theorem OfferB.header_table :
    [OfferB.allotment, .demand1, .demand2].map OfferB.header = [(129, 12), (257, 8), (257, 8)] := by decide

/-- The frames a port takes in (R174). -/
theorem takenIn_iff (rx : RxFrame) :
    takenIn rx = true ↔ rx.format = .standard
      ∧ (rx.port = .a ∧ rx.id = 642 ∧ rx.length = 12
        ∨ rx.port = .b ∧ (rx.id = 195 ∨ rx.id = 324 ∨ rx.id = 325) ∧ rx.length = 8) := by
  rcases rx with ⟨p, f, i, l⟩
  have c8 : 8 = l ↔ l = 8 := eq_comm
  have c12 : 12 = l ↔ l = 12 := eq_comm
  cases p
  · by_cases h : i = 642 <;>
      simp [takenIn, incomingLength, messageId, MsgKind.code, MsgKind.dataLength, cabNode, h, c12]
  · by_cases h1 : i = 195 <;> by_cases h2 : i = 324 <;> by_cases h3 : i = 325 <;>
      simp [takenIn, incomingLength, messageId, MsgKind.code, MsgKind.dataLength, pcuNode, engineNode, h1, h2, h3, c8]

/-- A frame not taken in is ignored (R174). -/
theorem State.takeFrame_ignored (rx : RxFrame) (f : State → State) (s : State) (h : takenIn rx = false) :
    s.takeFrame rx f = s := by
  simp [State.takeFrame, h]

/-- A port off its bus receives nothing (R180). -/
theorem State.takeFrame_off (rx : RxFrame) (f : State → State) (s : State) (h : s.onBus rx.port = false) :
    s.takeFrame rx f = s := by
  simp [State.takeFrame, h]

/-- A frame taken in on its bus has its effect (R174). -/
theorem State.takeFrame_taken (rx : RxFrame) (f : State → State) (s : State) (hb : s.onBus rx.port = true)
    (h : takenIn rx = true) : s.takeFrame rx f = f s := by
  simp [State.takeFrame, h, hb]

/-! ## Places and the choice (R179, R181) -/

/-- The end of a transmission in closed form (R179). -/
theorem Place.ended_eq {α : Type} (ok : Bool) (p : Place α) : p.ended ok = placeAfter ok p := by
  rcases p with ⟨w, r⟩
  cases ok <;> cases r <;> simp [Place.ended, placeAfter]

/-- A port A on its bus with nothing offered offers the lowest identifier (R179). -/
theorem PortA.choose_lowest (p : PortA) (on : p.on = true) (free : p.offering = none) : offersLowestA p.choose := by
  have e : p.choose = { p with offering := p.candidate } := by simp [PortA.choose, on, free]
  have w : ∀ o, waitsA { p with offering := p.candidate } o = waitsA p o := by intro o; cases o <;> rfl
  rw [e]
  simp only [offersLowestA, w]
  unfold PortA.candidate
  constructor
  · constructor
    · intro h o
      cases o <;> simp only [waitsA] <;> (repeat' split at h) <;> simp_all
    · intro h
      have a := h .guidance
      have b := h .result
      have c := h .status
      have d := h .notice
      simp_all [waitsA]
  · intro o h
    (repeat' split at h) <;> simp only [Option.some.injEq, reduceCtorEq] at h <;> subst h <;>
      refine ⟨by simp_all [waitsA], fun q hq => ?_⟩ <;> cases q <;>
      simp_all [waitsA, OfferA.header, messageId, OfferA.kind, MsgKind.code]

/-- A port B on its bus with nothing offered offers the lowest identifier, GOV1 before GOV2 (R179). -/
theorem PortB.choose_lowest (p : PortB) (on : p.on = true) (free : p.offering = none) : offersLowestB p.choose := by
  have e : p.choose = { p with offering := p.candidate } := by simp [PortB.choose, on, free]
  have w : ∀ o, waitsB { p with offering := p.candidate } o = waitsB p o := by intro o; cases o <;> rfl
  rw [e]
  simp only [offersLowestB, w]
  unfold PortB.candidate
  constructor
  · constructor
    · intro h o
      cases o <;> simp only [waitsB] <;> (repeat' split at h) <;> simp_all
    · intro h
      have a := h .allotment
      have b := h .demand1
      have c := h .demand2
      simp_all [waitsB]
  · intro o h
    (repeat' split at h) <;> simp only [Option.some.injEq, reduceCtorEq] at h <;> subst h <;>
      refine ⟨by simp_all [waitsB], fun q hq => ?_⟩ <;> cases q <;>
      simp_all [waitsB, OfferB.header, messageId, OfferB.kind, MsgKind.code]

/-- The kind chosen has the highest priority among the counts above 0 (R181). -/
theorem topNotice_some (counts : List Nat) (k : NoticeKind) (h : topNotice counts = some k) :
    0 < noticeCount counts k ∧ ∀ j : NoticeKind, k.priority < j.priority → noticeCount counts j = 0 := by
  unfold topNotice at h
  refine ⟨by simpa using List.find?_some h, fun j lt => ?_⟩
  simp only [NoticeKind.all, List.find?_cons] at h
  (repeat' split at h) <;> simp only [Option.some.injEq, reduceCtorEq, List.find?_nil] at h <;> subst h <;>
    cases j <;> simp_all [NoticeKind.priority]

/-- No kind is chosen only with every count 0 (R181). -/
theorem topNotice_none (counts : List Nat) (h : topNotice counts = none) (k : NoticeKind) : noticeCount counts k = 0 := by
  have := List.find?_eq_none.1 h k (NoticeKind.mem_all k)
  simpa using this

/-- An empty NOTICE place of a port A on its bus is filled (R181, R182). -/
theorem PortA.fillNotice_chosen (p : PortA) (on : p.on = true) (empty : p.notice = none) :
    noticeChosen p.fillNotice := by
  unfold PortA.fillNotice
  simp only [on, empty, Option.isNone_none, Bool.and_self, if_true]
  split
  · next k h =>
    obtain ⟨pos, top⟩ := topNotice_some _ _ h
    refine ⟨⟨nofun, fun all => absurd (all k) (by simpa using Nat.ne_of_gt pos)⟩, fun n hn => ?_⟩
    obtain rfl := Option.some.inj hn
    exact ⟨rfl, pos, top⟩
  · next h => exact ⟨⟨fun _ => topNotice_none _ h, fun _ => empty⟩, fun n hn => absurd hn (by simp [empty])⟩

/-! ## Answer reads (R189) -/

/-- An answer block is eight bytes and its data (R189). -/
theorem Answer.bytes_length (a : Answer) : a.bytes.length = 8 + a.data.length := by
  simp only [Answer.bytes, leBytes, List.length_append, List.length_cons, List.length_nil]

/-- A read of a READY buffer gives its whole answer and empties it; the busy fields are no longer those of the start. -/
theorem State.answerRead_ready (s : State) (a : Answer) (h : s.sli.buffer = .ready a) :
    s.answerRead = { s with sli := { s.sli with buffer := .empty false, lastTag := a.tag, lastRead := some a.bytes } } := by
  simp [State.answerRead, State.readBlock, h]

/-- A read of a buffer that is not READY gives a block without entries and changes nothing else but the count of free
values. -/
theorem State.answerRead_other (s : State) (h : ∀ a, s.sli.buffer ≠ .ready a) :
    s.answerRead = { s with
      freeCount := s.freeCount + 1, sli := { s.sli with lastRead := some s.readBlock.bytes } } := by
  unfold State.answerRead
  split
  · next a e => exact absurd e (h a)
  · rfl
  · rfl

end Sys2Proof.Machine
end

