-- ==== Sys2Proof/Laws/Notices.lean ====
section
/-! SUPPORT. What raising notices does: one raising into the cab's table, a run of raisings, and which notices the shared
operations raise. -/

namespace Sys2Proof.Machine

open Sys2Proof

/-! ## One raising (R181) -/

/-- A raising leaves a NOTICE that waits, and an offer that stands. -/
theorem PortA.raised_keeps (k : NoticeKind) (p : PortA) :
    (∀ n, p.notice = some n → (p.raised k).notice = some n) ∧ (∀ o, p.offering = some o → (p.raised k).offering = some o)
      ∧ (p.on = false → (p.raised k).notice = p.notice ∧ (p.raised k).offering = p.offering) := by
  refine ⟨fun n h => ?_, fun o h => ?_, fun h => ?_⟩ <;>
    rw [PortA.raised, PortA.choose_eq, PortA.fillNotice_eq] <;>
    simp [PortA.choose, PortA.fillNotice, h]

/-- A raising fills the empty NOTICE place of a port A on its bus (R181, R182). -/
theorem PortA.raised_chosen (k : NoticeKind) (p : PortA) (on : p.on = true) (empty : p.notice = none) :
    noticeChosen (p.raised k) := by
  have h := PortA.fillNotice_chosen { p with counts := noticeRaised p.counts k } on empty
  rw [PortA.raised, PortA.choose_eq]
  exact h

/-- A port A on its bus that offered nothing offers the lowest identifier after a raising (R179). -/
theorem PortA.raised_lowest (k : NoticeKind) (p : PortA) (on : p.on = true) (free : p.offering = none) :
    offersLowestA (p.raised k) := by
  have e := PortA.fillNotice_eq { p with counts := noticeRaised p.counts k }
  exact PortA.choose_lowest _ (by rw [e]; exact on) (by rw [e]; exact free)

/-! ## Runs of raisings -/

@[simp] theorem PortA.raisedAll_nil (p : PortA) : p.raisedAll [] = p := rfl

@[simp] theorem PortA.raisedAll_cons (k : NoticeKind) (l : List NoticeKind) (p : PortA) :
    p.raisedAll (k :: l) = (p.raised k).raisedAll l := rfl

@[simp] theorem PortA.raisedAll_append (l m : List NoticeKind) (p : PortA) :
    p.raisedAll (l ++ m) = (p.raisedAll l).raisedAll m := List.foldl_append ..

@[simp] theorem countsAfter_nil (c : List Nat) : countsAfter [] c = c := rfl

@[simp] theorem countsAfter_cons (k : NoticeKind) (l : List NoticeKind) (c : List Nat) :
    countsAfter (k :: l) c = countsAfter l (noticeRaised c k) := rfl

@[simp] theorem countsAfter_append (l m : List NoticeKind) (c : List Nat) :
    countsAfter (l ++ m) c = countsAfter m (countsAfter l c) := List.foldl_append ..

/-- Nothing is raised where port A and the service link stand. -/
theorem noticesRaised_nil (s t : State) (a : t.portA = s.portA) (b : t.sli = s.sli) : noticesRaised [] [] s t := ⟨a, b⟩

/-- Raisings follow one another. -/
theorem noticesRaised_trans {a b c d : List NoticeKind} {s t u : State} (h : noticesRaised a b s t)
    (k : noticesRaised c d t u) : noticesRaised (a ++ c) (b ++ d) s u := by
  obtain ⟨h1, h2⟩ := h
  obtain ⟨k1, k2⟩ := k
  refine ⟨by rw [k1, h1, PortA.raisedAll_append], ?_⟩
  rw [k2, h2, countsAfter_append]

/-- Raisings depend on port A and the service link alone. -/
theorem noticesRaised_congr {a b : List NoticeKind} {s t s' t' : State} (h : noticesRaised a b s t)
    (p : s'.portA = s.portA) (l : s'.sli = s.sli) (q : t'.portA = t.portA) (m : t'.sli = t.sli) :
    noticesRaised a b s' t' := by
  obtain ⟨h1, h2⟩ := h
  exact ⟨by rw [q, h1, p], by rw [m, h2, l]⟩

/-- A notice raised into the cab's table. -/
theorem State.raiseCab_notices (k : NoticeKind) (s : State) : noticesRaised [k] [] s (s.raiseCab k) := ⟨rfl, rfl⟩

/-- A notice raised into both tables. -/
theorem State.raiseBoth_notices (k : NoticeKind) (s : State) : noticesRaised [k] [k] s (s.raiseBoth k) := ⟨rfl, rfl⟩

/-- A notice raised into both tables `n` times. -/
theorem State.repeatBoth_notices (k : NoticeKind) (n : Nat) (s : State) :
    noticesRaised (List.replicate n k) (List.replicate n k) s (repeatN (State.raiseBoth k) n s) := by
  induction n generalizing s with
  | zero => exact ⟨rfl, rfl⟩
  | succ n ih => exact noticesRaised_trans (s.raiseBoth_notices k) (ih (s.raiseBoth k))

/-- A fold of operations, each with its notices, raises them in their order. -/
theorem foldl_notices {α : Type} (f : State → α → State) (cab link : α → List NoticeKind)
    (h : ∀ s x, noticesRaised (cab x) (link x) s (f s x)) (l : List α) (s : State) :
    noticesRaised (l.flatMap cab) (l.flatMap link) s (l.foldl f s) := by
  induction l generalizing s with
  | nil => exact ⟨rfl, rfl⟩
  | cons x l ih => exact noticesRaised_trans (h s x) (ih (f s x))

/-! ## The notices of shared operations -/

/-- The notices of an event at the EPC (R114, R116). -/
theorem State.epcEvent_notices (f : Epc → Epc) (s : State) :
    noticesRaised (capNotices s.epc (s.epcEvent f).epc ++ planNotices s.epc (s.epcEvent f).epc)
      (planNotices s.epc (s.epcEvent f).epc) s (s.epcEvent f) := by
  have e : (s.epcEvent f).epc = (f s.epc).reform s.settings.epc := by rw [State.epcEvent_frame]
  rw [e]
  have hc : ∀ u : State, noticesRaised (capNotices s.epc ((f s.epc).reform s.settings.epc)) [] u
      (if ((f s.epc).reform s.settings.epc).capped ≠ s.epc.capped
          ∧ ((f s.epc).reform s.settings.epc).effMode ≠ s.epc.effMode then u.raiseCab .modeCapped else u) := by
    intro u
    unfold capNotices
    by_cases h : ((f s.epc).reform s.settings.epc).capped ≠ s.epc.capped
        ∧ ((f s.epc).reform s.settings.epc).effMode ≠ s.epc.effMode
    · rw [if_pos h, if_pos (by simpa only [Epc.capped] using h)]; exact ⟨rfl, rfl⟩
    · rw [if_neg h, if_neg (by simpa only [Epc.capped] using h)]; exact ⟨rfl, rfl⟩
  have hp : ∀ u : State, noticesRaised (planNotices s.epc ((f s.epc).reform s.settings.epc))
      (planNotices s.epc ((f s.epc).reform s.settings.epc)) u
      (if ((f s.epc).reform s.settings.epc).plan ≠ s.epc.plan
          ∨ ((f s.epc).reform s.settings.epc).lead ≠ s.epc.lead then u.raiseBoth .planChanged else u) := by
    intro u
    simp only [planNotices]
    split <;> exact ⟨rfl, rfl⟩
  exact noticesRaised_trans (hc { s with epc := (f s.epc).reform s.settings.epc }) (hp _)

/-- A change of the items raises REMINDER_CHANGED for each change of a classification (R141). -/
theorem State.itemsChanged_notices (items : List Item) (n : Nat) (s : State) :
    noticesRaised (List.replicate n .reminderChanged) (List.replicate n .reminderChanged) s (s.itemsChanged items n) := by
  have h := State.repeatBoth_notices .reminderChanged n { s with smu := { s.smu with items := items } }
  unfold State.itemsChanged State.deliverIf
  dsimp only
  split <;> exact h

/-- A recorded fault raises FAULT_RECORDED (R156). -/
theorem State.recordFault_notices (r : FaultReport) (second : Bool) (s : State) :
    noticesRaised [.faultRecorded] [.faultRecorded] s (s.recordFault r second) := ⟨rfl, rfl⟩

/-- Settling and the store requests raise nothing. -/
theorem State.settle_notices (s : State) : noticesRaised [] [] s s.settle := by
  rw [State.settle_frame]; exact ⟨rfl, rfl⟩

end Sys2Proof.Machine
end

