-- ==== Sys2Proof/Laws/Stores.lean ====
section
/-! SUPPORT. What the writes of the store controller carry, what a completion leaves of the head entry, and what a clearing
report removes from the active list. -/

namespace Sys2Proof.Machine

open Sys2Proof

/-! ## Writes (R165, R169) -/

@[simp] theorem State.writeOf_record (r : RecordId) (s : State) : (s.writeOf r).record = r := by
  unfold State.writeOf; dsimp only; split <;> rfl

/-- A write carries the content as its owner holds it. -/
@[simp] theorem State.writeOf_content (r : RecordId) (s : State) :
    (s.writeOf r).copy.content? = some (s.contentOf r) := by
  unfold State.writeOf; dsimp only; split <;> rfl

/-- A write goes to the copy R165 names, with the generation and the check code it names. -/
theorem State.writeOf_chosen (r : RecordId) (s : State) : writeChosen s.nvc.array (s.writeOf r) := by
  unfold writeChosen State.writeOf
  dsimp only
  split <;> rename_i h
  · rename_i b hb
    split at h <;> simp_all [NvCopy.content?]
  · split at h <;> simp_all [NvCopy.content?]

/-- With no write in flight the write of the head entry begins. -/
theorem State.beginWrite_idle (s : State) (h : s.nvc.write = none) :
    s.beginWrite.nvc.write = s.nvc.queue.head?.map fun e => s.writeOf e.record := by
  unfold State.beginWrite
  rw [h]
  cases s.nvc.queue <;> simp [h]

/-- A write in flight goes on. -/
theorem State.beginWrite_busy (s : State) (w : NvWrite) (h : s.nvc.write = some w) : s.beginWrite = s := by
  simp [State.beginWrite, h]

/-! ## The active list (R154) -/

/-- A clearing report removes its entries and does nothing else. -/
theorem State.recoverable_cleared (r : FaultReport) (s : State) (h : r.clearing = true) :
    s.recoverable r = { s with fhu := { s.fhu with active := s.fhu.active.filter fun x => x ∉ clearedKeys r } } := by
  simp [State.recoverable, h]

/-- Of ENGINE_LOST and START_FAILED both pairs of the engine go, whichever code the report bears. -/
theorem mem_clearedKeys_engine (r : FaultReport) (x : FaultCode × Option Int)
    (h : r.code = .engineLost ∨ r.code = .startFailed) :
    x ∈ clearedKeys r ↔ x = (.engineLost, some r.detail) ∨ x = (.startFailed, some r.detail) := by
  simp [clearedKeys, h]

/-- Of any other code its own entry goes. -/
theorem mem_clearedKeys_other (r : FaultReport) (x : FaultCode × Option Int) (h1 : r.code ≠ .engineLost)
    (h2 : r.code ≠ .startFailed) : x ∈ clearedKeys r ↔ x = activeKey r := by
  simp [clearedKeys, h1, h2]

end Sys2Proof.Machine
end

