-- ==== Sys2Proof/Tests/Slice0.lean ====
section
/-! SUPPORT. Tests: each expected value comes from a worked example or a table of spec/, named beside the test. Then a
term that WellFormed refuses for each of its checks, and for each statement with hypotheses a state and operands that meet
them. -/

namespace Sys2Proof.Tests

set_option Elab.async false

open Sys2Proof Sys2Proof.Machine

/-! ## Helpers -/

/-- The state after a command. -/
def after (c : Instr) (s : State) : State :=
  match exec c s with
  | .next t => t
  | _ => s

/-- A part with a blank array and no supply. -/
def factoryOff : State :=
  { State.reset with supply := false, nvc := Nvc.start NvArray.blank none, inFlight := [] }

/-- A running part with nothing in flight, not in HOLD. -/
def live : State :=
  { State.reset with
    inFlight := [], fhu := Fhu.start, nvc := Nvc.start NvArray.blank (some builtInFields)
    portA := PortA.start, sli := Sli.start builtInFields }

/-- A reading of a FRESH slot. -/
def fresh (v : Nat) : Reading := { value := BitVec.ofNat 16 v, state := .fresh }

/-- A valid pose frame of five fresh angles. -/
def frameOf (m periods slew boom arm bucket pitch : Nat) : PoseFrame :=
  { frame := BitVec.ofNat 32 m, periods := periods, late := decide (1 < periods), slew := fresh slew
    boom := fresh boom, arm := fresh arm, bucket := fresh bucket, pitch := fresh pitch, check := none, short := false
    disagree := false, valid := true, cause := .none }

/-- A usable pose record: frame, slew, reach, height, rate, bucket. -/
def recordOf (m slew : Nat) (reach height rate : Int) (bucket : Nat) : PoseRecord :=
  { pose := frameOf m 1 slew 0 0 bucket 0, phi1 := 0, phi2 := 0, phi3 := 0, reach := reach, height := height
    limited := .no, rate := rate, rateUnknown := false, slewInc := some rate.natAbs }

/-- A record whose pose is invalid. -/
def invalidRecord (m : Nat) : PoseRecord :=
  let r := recordOf m 0 0 0 0 0
  { r with pose := { r.pose with valid := false, cause := .angleInvalid }, rateUnknown := true, slewInc := none }

/-! ## Reset and configuration -/

theorem test_reset_is_power_on : after .powerOn factoryOff = State.reset := by decide +kernel

theorem test_built_in_is_valid : firstFailingField builtInFields = none := by decide +kernel

theorem test_built_in_length : builtInFields.length = 136 := by decide +kernel

/-! ## Sensor ring (01, sections 1.3, 1.4, 1.7) -/

/-- Slot 1 of "converting reply words". -/
def boomSlot : SlotCfg :=
  { role := .boom, wordSize := 24, lsbFirst := false, pos := 4, width := 18, okPos := 23, zero := 1200
    negate := false, pmin := -2000, pmax := 20000 }

/-- Slot 2 of "converting reply words". -/
def armSlot : SlotCfg :=
  { role := .arm, wordSize := 16, lsbFirst := true, pos := 2, width := 12, okPos := 0, zero := 5000
    negate := true, pmin := -32768, pmax := 32767 }

/-- Slot 3 of "converting reply words". -/
def bucketSlot : SlotCfg :=
  { role := .bucket, wordSize := 32, lsbFirst := false, pos := 8, width := 14, okPos := 31, zero := 1000
    negate := false, pmin := -20000, pmax := 20000 }

theorem test_boom_word :
    boomSlot.convert (BitVec.ofNat 32 (2 ^ 23 + 73000 * 16)) = 17050
      ∧ boomSlot.classify (BitVec.ofNat 32 (2 ^ 23 + 73000 * 16)) = none
      ∧ boomSlot.classify (BitVec.ofNat 32 (2 ^ 23 + 90000 * 16)) = some .outOfRange := by decide +kernel

theorem test_arm_and_bucket_words :
    armSlot.convert (BitVec.ofNat 32 (1 + 3000 * 4)) = 22536
      ∧ bucketSlot.convert (BitVec.ofNat 32 (2 ^ 31 + 100 * 256)) = 64936
      ∧ bucketSlot.classify (BitVec.ofNat 32 (2 ^ 31 + 100 * 256)) = none := by decide +kernel

/-- Bit 0 first on the line of an LSB_FIRST slot. -/
theorem test_lsb_first :
    armSlot.assemble [true, false, true, false, false, false, false, false, false, false, false, false, false, false,
      false, false] = 5 := by decide +kernel

/-- The ARM slot at age 3, in frame 105 of "a slot through a dropout". -/
def dropped : SlotRun :=
  { held := 20000, age := 3, state := .held, reason := some .outOfRange, missing := false, range := false }

theorem test_dropout_passes_hold :
    dropped.closed 3 armSlot 0 =
      { held := 20000, age := 4, state := .invalid, reason := some .missing, missing := true, range := false } := by
  decide +kernel

theorem test_dropout_ends : (dropped.closed 3 armSlot (BitVec.ofNat 32 (1 + 3000 * 4))).state = .fresh := by
  decide +kernel

/-- "A slow ring" after its first expiry. -/
def slowRing : State := { live with spu := { live.spu with poll := some [4], periods := 1, counter := 500 } }

theorem test_skipped_start :
    (after .frameTimerExpiry slowRing).spu.periods = 2
      ∧ (after .frameTimerExpiry slowRing).inFlight =
        [.faultReport { code := .frameOverrun, clearing := false, detail := 0, frame := some 501 }] := by
  decide +kernel

theorem test_second_skip_reports_nothing :
    (after .frameTimerExpiry (after .frameTimerExpiry slowRing)).inFlight.length = 1 := by decide +kernel

theorem test_close_is_late :
    (match (after (.transferComplete (List.replicate 24 true)) { slowRing with
        spu := { slowRing.spu with periods := 3 } }).inFlight.getLast? with
      | some (.geuPoseFrame p) => (p.frame, p.periods, p.late, p.valid)
      | _ => (0, 0, false, true)) = (501, 3, true, false) := by decide +kernel

/-! ## Geometry (02, sections 2.2, 2.4, 2.5) -/

theorem test_sine_5000 : sine 5000 = 15112 ∧ cosine 5000 = 29073 := by decide +kernel

theorem test_reference_front :
    ((after (.geuPoseFrame (frameOf 7 1 0 8192 49152 57344 0)) live).geu.current.map fun r =>
      (r.reach, r.height, r.limited)) = some (10746, 4082, .no) := by decide +kernel

theorem test_pitched_machine :
    ((after (.geuPoseFrame (frameOf 7 1 0 5200 60536 49152 65336)) live).geu.current.map fun r =>
      (r.reach, r.height, r.phi1, r.phi2)) = some (13685, 5051, 5000, 0) := by decide +kernel

/-- The rate of a frame after a valid one, by period count and slew angles. -/
def rateAfter (before periods now : Nat) : Option (Int × Option Nat) :=
  ((after (.geuPoseFrame (frameOf 8 periods now 0 0 0 0))
    { live with geu := { live.geu with prev := some { slew := BitVec.ofNat 16 before, valid := true } } }).geu.current).map
      fun r => (r.rate, r.slewInc)

theorem test_rate_through_the_wrap : rateAfter 65510 1 4 = some (30, some 30) := by decide +kernel

theorem test_rate_truncates : rateAfter 4 3 95 = some (30, some 91) ∧ rateAfter 180 2 169 = some (-5, some 11) := by
  decide +kernel

/-! ## Bucket cycles (03, sections 3.6, 3.7) -/

/-- The tracker with a fresh PCU in a phase. -/
def tracking (phase : Phase) (run count : Nat) (span : Option DigSpan) : State :=
  { live with cyt := { live.cyt with
      phase := phase, swingRun := run, onGrade := count, span := span, pcu := .fresh, lastFrame := 1009, timer := 8 } }

theorem test_dig_begins :
    (after (.cytPoseRecord (recordOf 1001 0 0 800 2 57000)) (tracking .idle 0 0 none)).cyt.span
      = some { first := 1001, last := none } := by decide +kernel

theorem test_swing_out :
    (after (.cytPoseRecord (recordOf 1010 0 0 2500 28 55500)) (tracking .dig 2 2 (some ⟨1001, none⟩))).cyt
      = { phase := .swingOut, timer := 0, swingRun := 0, onGrade := 2, span := some ⟨1001, some 1009⟩, travel := false,
          pcu := .fresh, lastFrame := 1010 } := by decide +kernel

theorem test_swing_run_breaks :
    (after (.cytPoseRecord (recordOf 1007 0 0 1600 4 55500)) (tracking .dig 2 2 (some ⟨1001, none⟩))).cyt.swingRun = 0
      ∧ (after (.cytPoseRecord (recordOf 1007 0 0 1600 4 55500)) (tracking .dig 2 2 (some ⟨1001, none⟩))).cyt.timer
        = 9 := by decide +kernel

theorem test_cycle_ends_at_the_threshold :
    (after (.cytPoseRecord (recordOf 1231 0 0 5900 (-9) 58180)) (tracking .dump 0 2 (some ⟨1001, some 1009⟩))).inFlight
      = [.smuCycleEnd, .epcCycleEnd, .gguCycleEnd 2, .phaseReport 1231 .swingBack] := by decide +kernel

theorem test_dump_holds_above_it :
    (after (.cytPoseRecord (recordOf 1230 0 0 5900 (-2) 59000)) (tracking .dump 0 2 (some ⟨1001, some 1009⟩))).cyt.phase
      = .dump := by decide +kernel

theorem test_on_grade_counts :
    (after (.cueResult 1004 .onGrade) (tracking .dig 0 1 (some ⟨1001, none⟩))).cyt.onGrade = 2
      ∧ (after (.cueResult 1000 .onGrade) (tracking .dig 0 1 (some ⟨1001, none⟩))).cyt.onGrade = 1 := by decide +kernel

/-! ## Grade targets (04, sections 4.9, 4.10) -/

/-- A target by number. -/
def targetNo (n auto passes frames : Int) : Target :=
  { id := n, r0 := 8000, z0 := -2000, slope := -20, tol := 50, near := 400, guard := 300, auto := auto
    passCycles := passes, onGradeFrames := frames }

/-- Zone 3 of the floor list of frame 4418. -/
def floor3 : FloorZone :=
  { index := 3, s := 0, e := 0, reachMin := 0, reachMax := 20000, floorZ := -2300, stop := 200 }

/-- Zone 9 of the floor list of frame 4418. -/
def floor9 : FloorZone :=
  { index := 9, s := 60000, e := 4000, reachMin := 9000, reachMax := 14000, floorZ := -2100, stop := 150 }

/-- "One frame of guidance" before its floor list. -/
def guiding : State :=
  { live with ggu := { live.ggu with
      targets := [targetNo 7 0 1 1], guidance := true, assist := true
      join := some { frame := 4418, pose := some (recordOf 4418 2000 10746 (-2010) 0 0), floors := none
                     phase := some .dig, cue := none, assistFormed := false } } }

theorem test_floor_clamp :
    (after (.floorList 4418 [floor3, floor9]) guiding).inFlight
        = [.cueResult 4418 .belowNear, .assistRequest 4418 60]
      ∧ (after (.floorList 4418 [floor3, floor9]) guiding).ggu.record.d = -60
      ∧ (after (.floorList 4418 [floor3, floor9]) guiding).portA.guidance.waiting.isSome = true := by decide +kernel

theorem test_without_zone_nine :
    (after (.floorList 4418 [floor3]) guiding).inFlight = [.cueResult 4418 .onGrade, .assistRequest 4418 42] := by
  decide +kernel

/-- The queue of section 4.10 with targets 7 and 8. -/
def queued : State := { live with ggu := { live.ggu with targets := [targetNo 7 1 2 3, targetNo 8 0 1 1], passes := 1 } }

theorem test_load_into_a_full_queue :
    (after (.targetLoad 0 (targetNo 9 0 1 1)) queued).ggu = queued.ggu := by decide +kernel

theorem test_last_pass_retires :
    (after (.gguCycleEnd 3) queued).ggu.targets = [targetNo 8 0 1 1] ∧ (after (.gguCycleEnd 3) queued).ggu.passes = 0
      ∧ noticeCount (after (.gguCycleEnd 3) queued).portA.counts .targetRetired = 1 := by decide +kernel

theorem test_too_few_frames : (after (.gguCycleEnd 2) queued).ggu = queued.ggu := by decide +kernel

/-! ## Zones (05, sections 5.3 to 5.5) -/

/-- The ceiling of "working under the power line". -/
def powerLine : ZoneDef :=
  { kind := .ceiling, mode := .enforce, s := 30000, e := 34000, reachMin := 6000, reachMax := 18000, limit := 9000
    stop := 1500, band := 2000 }

/-- Entry 12 as given, the others in their empty state. -/
def underLine (e : ZoneEntry) : State :=
  { live with env := { live.env with entries := live.env.entries.set 12 e } }

/-- Entry 12 before frame 3301. -/
def beforeEdit : ZoneEntry :=
  { effective := powerLine, pending := some { powerLine with limit := 9500 }, suspension := some 598
    recorded := .breached, suspMark := true }

theorem test_suspension_is_cut :
    (after (.zoneSuspend 0 12 900) (underLine (ZoneEntry.start powerLine))).env.entries[12]?
      = some { ZoneEntry.start powerLine with suspension := some 600 } := by decide +kernel

theorem test_edit_takes_force :
    let t := after (.envPoseRecord (recordOf 3301 0 0 0 0 0)) (underLine beforeEdit)
    t.env.entries[12]? = some (ZoneEntry.start { powerLine with limit := 9500 })
      ∧ noticeCount t.portA.counts .suspensionEnded = 1 ∧ noticeCount t.portA.counts .zoneState = 1
      ∧ noticeCount t.sli.counts .suspensionEnded = 1 ∧ t.nvc.queued .zonesOper = true := by decide +kernel

theorem test_suspended_breach_is_not_announced :
    let s := underLine { ZoneEntry.start powerLine with suspension := some 599, recorded := .limiting, suspMark := true }
    let s := { s with env := { s.env with latest := some { frame := 3150, zones := frameZonesOf s.env } } }
    let t := after (.stateReport 3150 ((List.replicate 16 .clear).set 12 .breached)) s
    noticeCount t.portA.counts .zoneState = 1 ∧ noticeCount t.portA.counts .zoneBreached = 0 := by decide +kernel

theorem test_overtaken_report :
    let s := { live with env := { live.env with latest := some { frame := 5101, zones := frameZonesOf live.env } } }
    (after (.stateReport 5100 ((List.replicate 16 .clear).set 9 .breached)) s).env = s.env := by decide +kernel

/-! ## Limits (06, sections 6.4, 6.5) -/

/-- The wall of "approaching a wall". -/
def wall : ZoneDef :=
  { kind := .slewWall, mode := .enforce, s := 12000, e := 20000, reachMin := 0, reachMax := 0, limit := -32768
    stop := 300, band := 4000 }

/-- The left ceiling and state at a slew angle and rate. -/
def wallAt (psi : Nat) (rate : Int) : Nat × ZoneState :=
  let v := evalZone live.settings.lev wall (recordOf 1 psi 0 0 rate 0)
  (v.ceilings.left, v.state)

theorem test_wall_table :
    [wallAt 11400 30, wallAt 11430 30, wallAt 11458 28, wallAt 11483 25, wallAt 11505 22]
      = [(84, .limiting), (77, .limiting), (72, .limiting), (68, .limiting), (65, .limiting)] := by decide +kernel

theorem test_wall_without_rate : wallAt 11400 0 = (100, .approach) := by decide +kernel

theorem test_inside_the_wall :
    evalZone live.settings.lev wall (recordOf 1 12600 0 0 0 0)
        = { state := .breached, ceilings := { left := 0, right := 25, raise := 100, lower := 100 }, deep := false }
      ∧ (evalZone live.settings.lev wall (recordOf 1 14000 0 0 0 0)).deep = true := by decide +kernel

/-- The raise ceiling and state under the line at a height. -/
def lineAt (z : Int) : Nat × ZoneState :=
  let v := evalZone live.settings.lev powerLine (recordOf 1 31000 12000 z 0 0)
  (v.ceilings.raise, v.state)

theorem test_power_line :
    [lineAt 6800, lineAt 7400, lineAt 7600, lineAt 9000, lineAt 5500, lineAt 5000]
      = [(35, .limiting), (5, .limiting), (0, .limiting), (0, .breached), (100, .approach), (100, .clear)] := by
  decide +kernel

theorem test_beside_the_line :
    (evalZone live.settings.lev powerLine (recordOf 1 29200 12000 7600 20 0)).ceilings.left = 0
      ∧ (evalZone live.settings.lev powerLine (recordOf 1 28500 12000 7600 20 0)).state = .approach
      ∧ (evalZone live.settings.lev powerLine (recordOf 1 28500 12000 7499 20 0)).state = .clear := by decide +kernel

/-- "ψ = 2000" of R93. -/
theorem test_sector_through_zero :
    inSector 2000 60000 4000 = true ∧ rightDepth 2000 60000 = 7536 ∧ leftDepth 2000 4000 = 2000
      ∧ inSector 10000 60000 4000 = false ∧ leftDistance 10000 60000 = 50000 ∧ rightDistance 10000 4000 = 6000 := by
  decide +kernel

/-! ## Engine plan (07, sections 7.12, 7.13) -/

/-- An engine running under a RUN command. -/
def runningEngine : EngineRec :=
  { reported := .running, speed := 1650, load := 50, fuel := 4821, failed := false, excluded := false, run := true
    cmdSpeed := 1650, hasRun := true }

/-- Twin running with the filter, the count and the PCU's demand as given. -/
def twin (filter low demand : Nat) : State :=
  { live with
    epc := { live.epc with
      e1 := runningEngine, e2 := runningEngine, plan := .twin, runSeen := true, filter := filter, lowCount := low
      demand := demand, pcu := .fresh, allowance := 2100 }
    smu := { live.smu with meters := [805000, 806000, 0, 0, 0, 0, 0, 0] } }

theorem test_filter : (after .planIntervalExpiry (twin 8000 0 450)).epc.filter = 7600
    ∧ (after .planIntervalExpiry (twin 7600 0 450)).epc.filter = 7250 := by decide +kernel

theorem test_cooldown_keeps_the_fewer_hours :
    let t := after .planIntervalExpiry (twin 4800 599 450)
    t.epc.plan = .cooldown ∧ t.epc.lead = some .e1 ∧ t.epc.cooldown = 300 ∧ t.epc.allowance = 975
      ∧ t.epc.e2.cmdSpeed = 900 ∧ noticeCount t.sli.counts .planChanged = 1 := by decide +kernel

/-- Single running on E1, or a start of E2. -/
def single (plan : Plan) (starting : Option Engine) (swap : Bool) (timer : Nat) (demand h1 : Nat) : State :=
  { twin 4800 0 demand with
    epc := { (twin 4800 0 demand).epc with
      plan := plan, lead := some .e1, starting := starting, swap := swap, startTimer := timer, allowance := 975
      e2 := { runningEngine with
        reported := .stopped, run := plan == .starting, cmdSpeed := 0, hasRun := false } }
    smu := { live.smu with meters := [h1, 806000, 0, 0, 0, 0, 0, 0] } }

theorem test_demand_start :
    let t := after .planIntervalExpiry (single .single none false 0 1000 806000)
    t.epc.plan = .starting ∧ t.epc.starting = some .e2 ∧ t.epc.startTimer = 200 ∧ t.epc.e2.run = true := by
  decide +kernel

theorem test_swap_is_due :
    (after .planIntervalExpiry (single .single none false 0 100 811001)).epc.swap = true
      ∧ (after .planIntervalExpiry (single .single none false 0 100 811000)).epc.plan = .single := by decide +kernel

theorem test_swap_completes :
    let t := after (.epcEngineStatus .e2 2 10 900 0) (single .starting (some .e2) true 140 100 811001)
    t.epc.plan = .cooldown ∧ t.epc.lead = some .e2 ∧ t.epc.e1.cmdSpeed = 900 ∧ t.epc.e2.cmdSpeed = 1650
      ∧ t.epc.allowance = 975 := by decide +kernel

theorem test_start_times_out :
    let t := after .planIntervalExpiry (single .starting (some .e2) true 1 100 811001)
    t.epc.plan = .single ∧ t.epc.lead = some .e1 ∧ t.epc.e2.failed = true ∧ t.epc.e2.run = false ∧ t.epc.swap = false
      ∧ t.inFlight = [.faultReport { code := .startFailed, clearing := false, detail := 2, frame := none }] := by
  decide +kernel

theorem test_start_ends_in_twin :
    let t := after (.epcEngineStatus .e2 2 10 900 0) (single .starting (some .e2) false 140 1000 806000)
    t.epc.plan = .twin ∧ t.epc.lead = none ∧ t.epc.dwell = 3000 ∧ t.epc.allowance = 2100 := by decide +kernel

/-! ## Meters and items (08, sections 8.2, 8.8) -/

/-- Step 1 of "fuel accrual". -/
def fuelling : State :=
  { twin 0 0 0 with
    epc := { (twin 0 0 0).epc with e2 := { runningEngine with fuel := 3900 }, tripResidue := 30000 }
    smu := { live.smu with residues := [0, 0, 0, 35000, 20000, 0, 0, 0] } }

theorem test_fuel_step :
    let t := after .smuOneSecondStep fuelling
    t.smu.residue 3 = 3821 ∧ t.smu.meter 3 = 1 ∧ t.smu.residue 4 = 23900 ∧ t.smu.meter 4 = 0
      ∧ t.inFlight = [.tripFuelIncrement 8721] := by decide +kernel

theorem test_trip_increment :
    let t := after (.tripFuelIncrement 8721) fuelling
    t.epc.tripFuel = 1 ∧ t.epc.tripResidue = 2721 := by decide +kernel

/-- Item 5: the E1 oil and filter service. -/
def oilService : ItemDef :=
  { inUse := true, basis := 0, interval := 25000, lead := 2000, grace := 1000, consequence := .excludeE1
    operatorReset := false, label := 41 }

/-- Item 6: the hydraulic return filter. -/
def filterService : ItemDef :=
  { inUse := true, basis := 2, interval := 50000, lead := 5000, grace := 0, consequence := .capEconomy
    operatorReset := true, label := 12 }

theorem test_item_states :
    [802999, 803000, 805000, 806000].map (fun m => itemStateOf oilService (m - 780000)) = [.ok, .dueSoon, .due, .overdue]
      ∧ [804999, 805000, 810000].map (fun m => itemStateOf filterService (m - 760000)) = [.ok, .dueSoon, .overdue] := by
  decide +kernel

/-- A part whose item 5 is the oil service, one unit of E1_HOURS before a meter value. -/
def serviced (hours : Nat) (st : ItemState) : State :=
  { twin 0 0 0 with smu := { live.smu with
      meters := [hours, 0, 0, 0, 0, 0, 0, 0], residues := [35, 0, 0, 0, 0, 0, 0, 0]
      items := live.smu.items.set 5 { defn := oilService, mark := 780000, state := some st, acked := true } } }

theorem test_item_goes_overdue :
    let t := after .smuOneSecondStep (serviced 805999 .due)
    (t.smu.item 5).state = some .overdue ∧ (t.smu.item 5).acked = false ∧ t.smu.summary.excludeE1 = true
      ∧ noticeCount t.portA.counts .reminderChanged = 1
      ∧ (.consequenceSummary { capEconomy := false, excludeE1 := true, excludeE2 := false } : Instr) ∈ t.inFlight := by
  decide +kernel

theorem test_cab_may_not_reset_it : (after (.cabItemDone 0 5) (serviced 805000 .due)).smu = (serviced 805000 .due).smu := by
  decide +kernel

/-! ## Faults and hold (09, section 9.4) -/

/-- HELD for BREACH_DEEP of zone 2, with the pose and the deep flag as given. -/
def heldFor (r : PoseRecord) (deep : Bool) : State :=
  { live with
    geu := { live.geu with current := some r }
    lev := { live.lev with zones := live.lev.zones.modify 2 fun z => { z with deep := deep } }
    fhu := { live.fhu with seq := 43, held := some { code := .breachDeep, detail := 2 } }
    sli := { live.sli with buffer := .pending 9 false 0 } }

/-- Result and detail of the answer held. -/
def answerOf (s : State) : Option (ResultCode × Nat) :=
  match s.sli.buffer with
  | .ready a => some (a.result, a.detail.toNat)
  | _ => none

theorem test_clear_hold_details :
    answerOf (after .clearHold (heldFor (invalidRecord 9118) true)) = some (.refusedState, 3)
      ∧ answerOf (after .clearHold (heldFor (recordOf 9140 0 0 0 0 0) true)) = some (.refusedState, 2)
      ∧ answerOf (after .clearHold (heldFor (recordOf 9160 0 0 0 0 0) false)) = some (.accepted, 0)
      ∧ (after .clearHold (heldFor (recordOf 9160 0 0 0 0 0) false)).fhu.held = none := by decide +kernel

theorem test_second_latching_fault :
    let r : FaultReport := { code := .poseLostMoving, clearing := false, detail := 9, frame := some 9118 }
    let t := after (.faultReport r) (heldFor (invalidRecord 9118) true)
    t.fhu.escalation = 1 ∧ t.fhu.held = some { code := .breachDeep, detail := 2 }
      ∧ (t.fhu.ring.head?.map fun x => (x.seq, x.second, x.detail)) = some (43, true, 9) := by decide +kernel

/-- One clearing report removes both pairs of its engine, and those of the other stand (R154). -/
theorem test_one_report_clears_both_pairs :
    let lost : State := { live with
      epc := { live.epc with e2 := { live.epc.e2 with failed := true } }
      fhu := { live.fhu with active := [(.engineLost, some 2), (.startFailed, some 2), (.startFailed, some 1)] } }
    let t := after (.clearFailed 2) lost
    t.inFlight.length = 1
      ∧ (t.inFlight.head?.map fun c => (after c t).fhu.active) = some [(.startFailed, some 1)] := by decide +kernel

/-! ## Records and KEY-off (10, section 10.6) -/

/-- "A key-off with a crowded queue" before the key is turned. -/
def crowded : State :=
  { live with
    env := { live.env with unstoredOper := true }
    nvc := { live.nvc with
      queue := [⟨.items, false, true⟩, ⟨.hold, false, false⟩, ⟨.zonesSite, false, false⟩, ⟨.config, false, true⟩]
      write := some (live.writeOf .items) } }

theorem test_key_off_list :
    let t := after .keyOff crowded
    t.nvc.queue = [⟨.items, true, true⟩, ⟨.hold, false, false⟩, ⟨.zonesSite, false, false⟩, ⟨.config, false, true⟩]
      ∧ t.nvc.keyList = [.meters, .zonesOper] ∧ t.nvc.power = .shuttingDown := by decide +kernel

theorem test_again_writes_again :
    let t := after (.nvWriteComplete true) (after .keyOff crowded)
    t.nvc.queue.map StoreEntry.record = [.items, .hold, .zonesSite, .config] ∧ t.nvc.keyList = [.meters, .zonesOper]
      ∧ noticeCount t.sli.counts .storeDone = 1 ∧ t.nvc.write.isSome = true := by decide +kernel

/-- The queue when PWRFAIL is asserted. -/
def failing : State :=
  { live with nvc := { live.nvc with
      power := .shuttingDown, write := some (live.writeOf .zonesSite)
      queue := [⟨.zonesSite, false, false⟩, ⟨.config, false, true⟩, ⟨.meters, false, false⟩, ⟨.zonesOper, false, false⟩] } }

theorem test_pwrfail_moves_meters :
    (after .pwrfailAssert failing).nvc.queue.map StoreEntry.record = [.zonesSite, .meters, .config, .zonesOper] := by
  decide +kernel

theorem test_verify_failure :
    let t := after (.nvWriteComplete false) failing
    t.env.unstoredSite = true
      ∧ t.inFlight = [.faultReport { code := .nvWriteFail, clearing := false, detail := 2, frame := none }] := by
  decide +kernel

/-! ## Ports and link (11, section 11.5; 12, section 12.5) -/

/-- The NOTICE place after a raising. -/
def noticeOf (s : State) : Option (NoticeKind × Nat) := s.portA.notice.map fun n => (n.kind, n.count)

/-- "Notices through a hold": both kinds raised, the first filling the place. -/
def announced : State := (live.raiseBoth .faultRecorded).raiseBoth .holdEntered

theorem test_notice_waits_behind :
    noticeOf announced = some (.faultRecorded, 1)
      ∧ noticeOf (after (.transmissionEnd .a true) announced) = some (.holdEntered, 1) := by decide +kernel

theorem test_bus_off_empties_the_place :
    let s := { announced with portA := { announced.portA with errors := 248 } }
    noticeOf (after (.transmissionEnd .a false) s) = none
      ∧ noticeOf (after (.busRejoin .a) (after (.transmissionEnd .a false) s)) = some (.holdEntered, 1) := by
  decide +kernel

/-- The link of section 12.5 with a run of `WRITE_ENTRIES n = 2` pending. -/
def writing (tag : Nat) (index : Nat) : State :=
  { live with sli := { live.sli with buffer := .pending (BitVec.ofNat 8 tag) false 0, table := .zones, index := index } }

/-- Two valid ZONES entries. -/
def twoZones : List Byte :=
  zoneBytes powerLine ++ List.replicate 8 0 ++ zoneBytes wall ++ List.replicate 8 0

theorem test_zone_write :
    let t := after (.linkBusyRefusal [22, 0, 2, 7, 0]) (after (.writeEntries 2 twoZones) (writing 21 6))
    t.sli.index = 8 ∧ (t.env.entries.map fun e => e.pending) = ((List.replicate 16 none).set 6 (some powerLine)).set 7 (some wall)
      ∧ (match t.sli.buffer with | .ready a => (a.tag, a.residue, a.busy, a.busyTag) | _ => (0, 9, false, 0))
        = (21, 0, true, 22) := by decide +kernel

theorem test_zone_write_of_an_operator_entry :
    let t := after (.writeEntries 2 twoZones) (writing 23 8)
    (match t.sli.buffer with | .ready a => (a.tag, a.result, a.residue, a.detail) | _ => (0, .accepted, 9, 0))
        = (23, .refusedNotOwner, 2, 8) ∧ t.env = live.env := by decide +kernel

/-- The answer blocks of section 12.5 as they are clocked out, and of reads with nothing READY. -/
theorem test_answer_blocks :
    (after .answerRead (after (.linkBusyRefusal [22, 0, 2, 7, 0]) (after (.writeEntries 2 twoZones) (writing 21 6)))).sli.lastRead.map
        (fun l => [0, 1, 2, 3, 4, 7].map fun k => l[k]?) = some [some 21, some 0, some 0, some 1, some 22, some 0]
      ∧ (after .answerRead (after (.writeEntries 2 twoZones) (writing 23 8))).sli.lastRead
        = some [23, 4, 2, 0, 0, 8, 0, 0]
      ∧ (after .answerRead (writing 21 6)).sli.lastRead.map (fun l => [0, 1, 3, 4].map fun k => l[k]?)
        = some [some 21, some 8, some 0, some 0]
      ∧ (after .answerRead live).sli.lastRead.map (fun l => [0, 1, 3, 4].map fun k => l[k]?)
        = some [some 0, some 9, some 0, some 0] := by
  decide +kernel

/-! ## WellFormed refuses -/

/-- A pose frame the SPU could form. -/
def goodFrame : PoseFrame := frameOf 1 1 0 0 0 0 0

/-- A pose record the GEU could form. -/
def goodRecord : PoseRecord := recordOf 1 0 0 0 3 0

theorem test_well_formed_pose_frames :
    wellFormed (.geuPoseFrame goodFrame) = true
      ∧ ([{ goodFrame with periods := 0 }, { goodFrame with periods := 256, late := true }, { goodFrame with late := true },
          { goodFrame with arm := { value := 0, state := .unused } }, { goodFrame with valid := false },
          { goodFrame with arm := { value := 0, state := .invalid } }, { goodFrame with cause := .both },
          { goodFrame with disagree := true, valid := false, cause := .angleInvalid }] : List PoseFrame).all
        (fun p => !wellFormed (.geuPoseFrame p)) = true := by decide +kernel

theorem test_well_formed_pose_records :
    wellFormed (.cytPoseRecord goodRecord) = true
      ∧ ([{ goodRecord with pose := { goodFrame with periods := 0 } }, { goodRecord with reach := -1 },
          { goodRecord with reach := 32768 }, { goodRecord with height := 32768 }, { goodRecord with height := -32769 },
          { goodRecord with rate := 2048 }, { goodRecord with rateUnknown := true }, { goodRecord with slewInc := none },
          { goodRecord with slewInc := some 32769 }] : List PoseRecord).all (fun r =>
        !wellFormed (.cytPoseRecord r) && !wellFormed (.gguPoseRecord r) && !wellFormed (.envPoseRecord r)
          && !wellFormed (.levPoseRecord r)) = true := by decide +kernel

theorem test_well_formed_zones :
    ([{ powerLine with reachMin := 32768 }, { powerLine with reachMax := 32768 },
      { powerLine with reachMin := 9, reachMax := 8 }, { powerLine with limit := 32768 }, { powerLine with stop := 5001 },
      { powerLine with band := 0 }, { wall with stop := 16384 }, { wall with band := 32768 },
      { wall with limit := -32769 }] : List ZoneDef).all (fun z =>
        !wellFormed (.frameZoneSet 1 (List.replicate 16 { zone := z, suspended := false }))) = true
      ∧ wellFormed (.frameZoneSet 1 (List.replicate 16 { zone := powerLine, suspended := false })) = true
      ∧ wellFormed (.frameZoneSet 1 (List.replicate 15 { zone := powerLine, suspended := false })) = false
      ∧ ([{ floor3 with index := 16 }, { floor3 with reachMin := 32768 }, { floor3 with reachMax := 32768 },
          { floor3 with floorZ := 40000 }, { floor3 with stop := 5001 }] : List FloorZone).all
        (fun f => !wellFormed (.floorList 1 [f])) = true
      ∧ wellFormed (.floorList 1 (List.replicate 17 floor3)) = false := by decide +kernel

theorem test_well_formed_deliveries :
    ([.transferComplete (List.replicate 20 true), .gguCycleEnd 256, .stateReport 1 [.clear], .assistRequest 1 101,
      .epcEngineStatus .e1 2 101 0 0, .epcEngineStatus .e1 2 0 65536 0, .epcEngineStatus .e1 2 0 0 65536,
      .epcPumpStatus 65536 false, .tripFuelIncrement 131069, .slewIncrement 32769,
      .faultReport { code := .busAOff, clearing := false, detail := 32768, frame := none },
      .faultReport { code := .cfgInvalid, clearing := true, detail := 0, frame := none }] : List Instr).all
        (fun c => !wellFormed c) = true := by decide +kernel

theorem test_well_formed_bus_and_link :
    ([.ignoredFrame { port := .a, format := .standard, id := 642, length := 12 }, .pumpStatus [0], .engineStatus .e1 [],
      .cabRequest { number := 1, kind := 1, part := 0, ops := [] },
      .cabRequest { number := 1, kind := 9, part := 1, ops := [1] }, .unknownRequestKind 1 15, .requestPart0 1 8 [],
      .requestPart0 1 9 [1], .unmatchedPart1 1 8 [], .unmatchedPart1 1 12 [1], .zoneSuspend 0 8 65536,
      .reminderAck 0 256, .cabItemDone 0 256, .requestBlock [1], .shortBlock [1, 2], .linkBusyRefusal [1],
      .selectTable 256 0, .selectTable 0 65536, .readEntries 256, .writeEntries 256 [],
      .writeEntries 1 (List.replicate 62 0), .itemDone 256, .meterPreset 256 0, .meterPreset 0 4294967296,
      .suspendZone 256 0, .suspendZone 0 65536, .clearFailed 256] : List Instr).all
        (fun c => !wellFormed c) = true := by decide +kernel

/-! ## Witnesses: states and operands that meet the hypotheses of each statement -/

/-- A part one of whose commands is waiting. -/
def waiting (c : Instr) (s : State) : State := { s with pending := [c] }

theorem test_witness_EveryCommandCompletesAndKeepsTheQueue :
    factoryOff.supply = false ∧ (Instr.keyOff ≠ .powerOn) ∧ (Instr.frameTimerExpiry ≠ .powerOn)
      ∧ Instr.frameTimerExpiry ≠ .keyOff ∧ Instr.frameTimerExpiry ≠ .keyOn ∧ Instr.frameTimerExpiry ≠ .pwrfailAssert
      ∧ Instr.frameTimerExpiry ≠ .pwrfailDeassert ∧ Instr.frameTimerExpiry ≠ .maintenanceEnableChange true
      ∧ Instr.frameTimerExpiry ≠ .maintenanceEnableChange false := by decide +kernel

/-- With no write in flight only the queue is to be looked at. -/
theorem stores_idle (s : State) (q : queueOk s.nvc) (w : s.nvc.write = none) : storesOk s :=
  ⟨q, fun _ h => absurd h (by rw [w]; nofun)⟩

/-- With a write in flight that began in `u` on the same array, the queue, its head and the copy are to be looked at. -/
theorem stores_writing (r : RecordId) (u s : State) (q : queueOk s.nvc) (w : s.nvc.write = some (u.writeOf r))
    (a : s.nvc.array = u.nvc.array) (h : (s.nvc.queue.head?).map StoreEntry.record = some r)
    (n : (s.nvc.array.pair r).newer r ≠ some (u.writeOf r).toB) : storesOk s := by
  refine ⟨q, fun x hx => ?_⟩
  obtain rfl : u.writeOf r = x := Option.some.inj (w.symm.trans hx)
  rw [State.writeOf_record]
  exact ⟨h, n, a ▸ u.writeOf_chosen r⟩

theorem test_witness_StoreQueueAndCopiesAreKept :
    storesOk (waiting (.nvWriteComplete true) failing)
      ∧ ∃ t, step (waiting (.nvWriteComplete true) failing) = .next t :=
  ⟨stores_writing .zonesSite live _ (by unfold queueOk; decide +kernel) rfl rfl rfl (by decide +kernel), ⟨_, rfl⟩⟩

theorem test_witness_NoticeCountsStayInRange :
    noticesOk (waiting (.transmissionEnd .a true) announced)
      ∧ ∃ t, step (waiting (.transmissionEnd .a true) announced) = .next t :=
  ⟨by unfold noticesOk noticeTableOk; decide +kernel, ⟨_, rfl⟩⟩

theorem test_witness_TargetQueueStaysLegal :
    targetsOk (waiting (.gguCycleEnd 3) queued) ∧ ∃ t, step (waiting (.gguCycleEnd 3) queued) = .next t :=
  ⟨⟨by decide +kernel, by decide +kernel, show (1 : Int) < 2 by decide⟩, ⟨_, rfl⟩⟩

/-- A latching report taken while HELD. -/
def secondFault : State :=
  waiting (.faultReport { code := .poseLostMoving, clearing := false, detail := 9, frame := some 9118 })
    (heldFor (invalidRecord 9118) true)

theorem test_witness_HoldAndRingStayConsistent : holdOk secondFault ∧ ∃ t, step secondFault = .next t :=
  ⟨by unfold holdOk; decide +kernel, ⟨_, rfl⟩⟩

/-- A LEV with a latest ALLOTMENT, and the entry into HOLD waiting. -/
def allotted : State :=
  waiting .levHoldEntry { live with
    epc := { live.epc with allowance := 4000 }
    lev := { live.lev with latest := some {
        frame := 7, ceilings := { left := 100, right := 84, raise := 35, lower := 100 }, assist := 35, allowance := 2100
        hold := false, poseValid := true } } }

theorem test_witness_AllotmentsKeepTheirLimits : limitsOk allotted ∧ ∃ t, step allotted = .next t := by
  refine ⟨⟨by decide +kernel, by decide +kernel, by unfold ceilingsOk; decide +kernel, ?_, ?_⟩, ⟨_, rfl⟩⟩
  · intro j h; exact absurd h (by rw [show allotted.lev.join = none from rfl]; nofun)
  · intro a h
    obtain rfl := Option.some.inj (show some _ = some a from h)
    exact ⟨by unfold ceilingsOk; decide +kernel, by decide +kernel, by decide +kernel, fun h => absurd h (by decide)⟩

/-- A start of E2 under the lead E1, about to time out. -/
def timingOut : State := waiting .planIntervalExpiry (single .starting (some .e2) true 1 100 811001)

theorem test_witness_PlanKeepsAFitLead : planOk timingOut.epc ∧ ∃ t, step timingOut = .next t := by
  refine ⟨⟨by decide +kernel, by decide +kernel, ?_, ?_, by decide +kernel, ?_, ?_⟩, ⟨_, rfl⟩⟩ <;>
    intro e <;> cases e <;> decide +kernel

theorem test_witness_AllowanceFollowsTheEngines :
    allowanceOk (waiting .planIntervalExpiry (twin 4800 599 450))
      ∧ ∃ t, step (waiting .planIntervalExpiry (twin 4800 599 450)) = .next t := by
  refine ⟨⟨by decide +kernel, ?_⟩, ⟨_, rfl⟩⟩
  intro e; cases e <;> decide +kernel

/-- A part whose oil service is about to go OVERDUE. -/
def aboutToBeOverdue : State := waiting .smuOneSecondStep (serviced 805999 .due)

theorem items_of_serviced : itemsOk (serviced 805999 .due) := by
  unfold itemsOk itemOk; decide +kernel

theorem test_witness_ItemsStayClassified : itemsOk aboutToBeOverdue ∧ ∃ t, step aboutToBeOverdue = .next t :=
  ⟨items_of_serviced, ⟨_, rfl⟩⟩

/-- A suspension of the power line at its last second. -/
def lastSecond : State :=
  waiting .suspensionTimerExpiry (underLine { ZoneEntry.start powerLine with suspension := some 1 })

theorem test_witness_SuspensionsStayInTime : suspensionsOk lastSecond ∧ ∃ t, step lastSecond = .next t := by
  refine ⟨⟨by decide +kernel, ?_⟩, ⟨_, rfl⟩⟩
  intro i e n h1 h2
  have key : ∀ k ∈ List.range 16, ∀ n ∈ (lastSecond.env.entry k).suspension, 1 ≤ n ∧ n ≤ suspensionTop k := by
    decide +kernel
  have hi : i < 16 := by
    obtain ⟨h, -⟩ := List.getElem?_eq_some_iff.1 h1
    exact Nat.lt_of_lt_of_eq h (by decide +kernel)
  refine key i (List.mem_range.2 hi) n ?_
  have : lastSecond.env.entry i = e := by unfold Env.entry; rw [List.getD, h1]; rfl
  rw [this, h2]; rfl

theorem test_witness_MetersNeverDecrease :
    itemsOk (serviced 805999 .due) ∧ Instr.smuOneSecondStep ≠ .powerOn ∧ Instr.smuOneSecondStep ≠ .supplyLoss
      ∧ ∃ t, exec .smuOneSecondStep (serviced 805999 .due) = .next t :=
  ⟨items_of_serviced, by decide, by decide, ⟨_, rfl⟩⟩

theorem test_witness_ZonesInForceChangeOnlyAtFrames :
    Instr.suspensionTimerExpiry ≠ .powerOn ∧ Instr.suspensionTimerExpiry ≠ .supplyLoss
      ∧ Instr.suspensionTimerExpiry ≠ .supervisorRestart ∧ (∀ r, Instr.suspensionTimerExpiry ≠ .envPoseRecord r)
      ∧ ∃ t, exec .suspensionTimerExpiry lastSecond = .next t :=
  ⟨by decide, by decide, by decide, fun _ h => Instr.noConfusion h, ⟨_, rfl⟩⟩

/-- A part whose restart has fallen due. -/
def restarting : State := { live with nvc := { live.nvc with restartPending := true } }

/-- A record written to the array. -/
def stored (r : RecordId) (s : State) : State :=
  after (.nvWriteComplete true) { s with nvc := { s.nvc with write := some (s.writeOf r), queue := [⟨r, false, false⟩] } }

/-- Without supply, with a usable CONFIG, the power line in entry 12, item 5 and the meters in the array. -/
def provisionedOff : State :=
  let s := { serviced 805999 .due with env := (underLine (ZoneEntry.start powerLine)).env }
  { stored .config (stored .zonesOper (stored .items (stored .meters s))) with supply := false, inFlight := [] }

theorem test_witness_StartPutsEveryBlockInItsStartingState :
    factoryOff.supply = false ∧ configFault factoryOff.nvc.array = some 0
      ∧ provisionedOff.supply = false ∧ usableConfig provisionedOff.nvc.array builtInFields
      ∧ (zonesFrom provisionedOff.nvc.array .zonesOper)[4]? = some powerLine
      ∧ (itemsFrom provisionedOff.nvc.array)[5]? = some (oilService, 780000)
      ∧ (metersFrom provisionedOff.nvc.array)[0]? = some 805999
      ∧ restarting.supply = true ∧ restarting.restartDue = true := by
  refine ⟨by decide +kernel, by decide +kernel, by decide +kernel, ⟨by decide +kernel, by decide +kernel⟩, by decide +kernel,
    by decide +kernel, by decide +kernel, by decide +kernel⟩

/-- Entries 7 and 8 hold the power line in ENFORCE, entry 9 the empty state. -/
def atTheBorder : State :=
  { live with env := { live.env with
      entries := (live.env.entries.set 7 (ZoneEntry.start powerLine)).set 8 (ZoneEntry.start powerLine) } }

/-- ZONES_SITE in writing with its again mark as given, with the entries behind it and the key-off list. -/
def listing (again : Bool) (q : List StoreEntry) (l : List RecordId) : State :=
  { failing with nvc := { failing.nvc with queue := ⟨.zonesSite, again, true⟩ :: q, keyList := l } }

theorem stores_listing (again : Bool) (q : List StoreEntry) (l : List RecordId) (h : queueOk (listing again q l).nvc) :
    storesOk (listing again q l) :=
  stores_writing .zonesSite live _ h rfl rfl rfl (show (live.nvc.array.pair .zonesSite).newer .zonesSite ≠ _ by decide +kernel)

theorem power_listing (again : Bool) (q : List StoreEntry) (l : List RecordId) : powerOk (listing again q l) := by
  simp [powerOk, listing, failing, State.shutdownReady]

theorem test_witness_WritesKeepAStoredRecord :
    failing.supply = true ∧ storesOk failing
      ∧ (live.nvc.write = none ∧ storesOk live)
      -- requests: in writing, waiting, absent with a full queue, absent with room
      ∧ (failing.nvc.write.map NvWrite.record = some .zonesSite ∧ RecordId.meters ∈ failing.nvc.queue.map StoreEntry.record
        ∧ RecordId.hold ∉ failing.nvc.queue.map StoreEntry.record ∧ failing.nvc.queue.length = 4)
      ∧ ((listing true [] []).nvc.queue.length < 4 ∧ RecordId.hold ∉ (listing true [] []).nvc.queue.map StoreEntry.record)
      -- a write whose content is no longer that of its owner
      ∧ (writeChosen failing.nvc.array (live.writeOf .zonesSite)
        ∧ (live.writeOf .zonesSite).copy.content? = some (live.contentOf .zonesSite)
        ∧ contentFits .zonesSite (live.contentOf .zonesSite) = true
        ∧ ({ failing with env := atTheBorder.env } : State).contentOf .zonesSite ≠ live.contentOf .zonesSite)
      -- completions: with no list, and with the first listed record in writing next, waiting, absent with and without room
      ∧ (∀ x ∈ ([(false, [], []), (true, [], [.zonesSite, .items]), (false, [⟨.config, false, false⟩], [.config]),
            (true, [⟨.items, false, false⟩], [.items]), (false, [⟨.config, false, false⟩], [.meters, .items]),
            (true, [⟨.config, false, false⟩, ⟨.items, false, false⟩, ⟨.hold, false, false⟩], [.meters])] :
            List (Bool × List StoreEntry × List RecordId)),
          storesOk (listing x.1 x.2.1 x.2.2) ∧ powerOk (listing x.1 x.2.1 x.2.2)
            ∧ (listing x.1 x.2.1 x.2.2).nvc.write.isSome = true)
      ∧ (crowded.nvc.queue.head?.map StoreEntry.service) = some true
      ∧ (failing.nvc.queue.head?.map StoreEntry.service) = some false := by
  refine ⟨by decide +kernel, test_witness_StoreQueueAndCopiesAreKept.1,
    ⟨by decide +kernel, stores_idle _ (by unfold queueOk; decide +kernel) (by decide +kernel)⟩, by decide +kernel,
    by decide +kernel, ⟨live.writeOf_chosen .zonesSite, by decide +kernel, by decide +kernel, by decide +kernel⟩, ?_,
    by decide +kernel, by decide +kernel⟩
  intro x hx
  refine ⟨stores_listing _ _ _ ?_, power_listing _ _ _, rfl⟩
  revert x
  unfold queueOk
  decide +kernel

theorem test_witness_PollsStartAndKeepTheirReplies :
    live.supply = true ∧ live.spu.poll = none ∧ slowRing.supply = true ∧ slowRing.spu.poll = some [4]
      ∧ (after .frameTimerExpiry live).spu.poll = some [0, 1, 2, 3, 4]
      ∧ (live.settings.spu.slots[0]?).isSome = true := by decide +kernel

/-- A reply of a raw value of 0 with its status bit set. -/
def healthy : List Bool := true :: List.replicate 23 false

/-- A poll at its last transfer, that of a BOOM_CHECK slot like slot 1, with a FRESH boom angle so far. -/
def checkedRing : State :=
  let slots := live.settings.spu.slots
  let boom := slots.getD 1 boomSlot
  { live with
    settings := { live.settings with spu := { live.settings.spu with slots := slots.set 5 { boom with role := .boomCheck } } }
    spu := { live.spu with
      poll := some [5], periods := 1, replies := [0, 1, 2, 3, 4].map fun k => (k, (slots.getD k boomSlot).assemble healthy) } }

/-- A reply whose status bit is clear. -/
def silent : List Bool := List.replicate 24 false

theorem test_witness_LastTransferDeliversThePoseFrame :
    slowRing.supply = true ∧ slowRing.spu.poll = some [4] ∧ (slowRing.settings.spu.slots[4]?).isSome = true
      ∧ slowRing.settings.spu.slotOfRole .boomCheck = none
      ∧ checkedRing.supply = true ∧ checkedRing.spu.poll = some [5] ∧ (checkedRing.settings.spu.slots[5]?).isSome = true
      ∧ checkedRing.settings.spu.slotOfRole .boom = some 1 ∧ checkedRing.settings.spu.slotOfRole .boomCheck = some 5
      ∧ ((after (.transferComplete healthy) checkedRing).spu.slots[1]?.map SlotRun.state) = some .fresh
      ∧ ((after (.transferComplete healthy) checkedRing).spu.slots[5]?.map SlotRun.state) = some .fresh
      ∧ ((after (.transferComplete silent) checkedRing).spu.slots[5]?.map SlotRun.state) ≠ some .fresh := by
  decide +kernel

theorem test_witness_RepliesAreConvertedAndHeld :
    boomSlot.classify (BitVec.ofNat 32 (2 ^ 23 + 73000 * 16)) = none ∧ boomSlot.classify 0 = some .missing
      ∧ boomSlot.classify (BitVec.ofNat 32 (2 ^ 23 + 90000 * 16)) = some .outOfRange := by decide +kernel

/-- A GEU that has seen a valid frame. -/
def seen (valid : Bool) : State :=
  { live with geu := { live.geu with prev := some { slew := 65510, valid := valid } } }

/-- A GEU that has seen a valid frame, with its GEOMETRY_RANGE flag as given. -/
def ranged (flag : Bool) : State := { seen true with geu := { (seen true).geu with rangeFlag := flag } }

/-- The mark of a record of the reference front with its boom raised by an angle. -/
def limitedAt (boom : Nat) (s : State) : Option Limited :=
  (after (.geuPoseFrame (frameOf 8 1 4 boom 49152 57344 0)) s).geu.current.map PoseRecord.limited

theorem test_witness_PoseFrameGivesAPoseRecord :
    live.supply = true ∧ live.settings.geu.reachMin ≤ live.settings.geu.reachMax
      ∧ live.settings.geu.zMin ≤ live.settings.geu.zMax ∧ live.geu.prev = none
      ∧ (frameOf 8 1 4 0 0 0 0).valid = true ∧ (invalidRecord 8).pose.valid = false
      ∧ (seen true).geu.prev = some { slew := 65510, valid := true }
      ∧ (seen false).geu.prev = some { slew := 65510, valid := false }
      ∧ limitedAt 8192 (ranged true) = some .no ∧ (ranged true).geu.rangeFlag = true
      ∧ limitedAt 32768 (ranged false) = some .reach ∧ (ranged false).geu.rangeFlag = false := by decide +kernel

theorem test_witness_RecordsAbandonOrEndTheCycle :
    (invalidRecord 1).pose.valid = false ∧ (tracking .dump 0 2 (some ⟨1001, some 1009⟩)).supply = true
      ∧ (recordOf 1231 0 0 5900 (-9) 58180).pose.valid = true ∧ (recordOf 1231 0 0 5900 (-9) 58180).limited = .no
      ∧ (tracking .dump 0 2 (some ⟨1001, some 1009⟩)).cyt.phase = .dump
      ∧ (recordOf 1231 0 0 5900 (-9) 58180).pose.bucket.value.toNat
        ≤ live.settings.cyt.dumpOpen - live.settings.cyt.dumpHyst := by decide +kernel

/-- A usable record with a height, a slew rate and a bucket angle. -/
def cycling (height rate : Int) (bucket : Nat) : PoseRecord := recordOf 1010 0 0 height rate bucket

theorem test_witness_CycleTrackerTakesItsInputs :
    (tracking .dig 0 1 (some ⟨1001, some 1009⟩)).supply = true
      ∧ (tracking .dig 0 1 (some ⟨1001, some 1009⟩)).cyt.span = some { first := 1001, last := some 1009 }
      ∧ (tracking .dig 0 1 (some ⟨1001, none⟩)).cyt.span = some { first := 1001, last := none }
      ∧ (tracking .idle 0 0 none).cyt.span = none
      ∧ (((1001 : FrameNo) - 1001).toNat ≤ 2147483647 ∧ ¬((1000 : FrameNo) - 1001).toNat ≤ 2147483647)
      ∧ (((1009 : FrameNo) - 1001).toNat ≤ ((1009 : FrameNo) - 1001).toNat
        ∧ ¬((1010 : FrameNo) - 1001).toNat ≤ ((1009 : FrameNo) - 1001).toNat)
      ∧ (cycling 0 0 0).pose.valid = true ∧ (cycling 0 0 0).limited = .no
      ∧ (let k := live.settings.cyt
        ((k.digZ - 1 < k.digZ ∧ (tracking .idle 0 0 none).cyt.pcu = .fresh ∧ (tracking .idle 0 0 none).cyt.travel = false)
          ∧ (cycling (k.digZ - 1) k.digSlewMax 0).rate.natAbs ≤ k.digSlewMax)
        ∧ (k.digZ ≤ (cycling k.digZ k.swingMin 0).height ∧ k.swingMin ≤ (cycling k.digZ k.swingMin 0).rate.natAbs
          ∧ (tracking .dig (k.swingFrames - 1) 0 none).cyt.swingRun + 1 = k.swingFrames)
        ∧ k.dumpOpen ≤ (cycling 0 0 k.dumpOpen).pose.bucket.value.toNat
        ∧ ¬k.dumpOpen ≤ (cycling 0 0 (k.dumpOpen - 1)).pose.bucket.value.toNat
        ∧ min 65535 ((tracking .swingOut 0 0 none).cyt.timer + 1) ≤ k.phaseMax
        ∧ k.phaseMax < min 65535 (k.phaseMax + (cycling 0 0 0).pose.periods)) := by
  decide +kernel

theorem test_witness_SwitchesAndTargetLoad :
    targetInRange (targetNo 256 0 1 1) = false ∧ targetInRange (targetNo 255 1 255 255) = true ∧ live.ggu.targets = []
      ∧ ({ live with ggu := { live.ggu with targets := [targetNo 7 1 2 3] } } : State).ggu.targets = [targetNo 7 1 2 3]
      ∧ queued.ggu.targets = [targetNo 7 1 2 3, targetNo 8 0 1 1] ∧ queued.supply = true := by decide +kernel

theorem test_witness_AdvanceAndClearTheTargets :
    live.supply = true ∧ live.ggu.targets = [] ∧ queued.supply = true
      ∧ queued.ggu.targets = targetNo 7 1 2 3 :: [targetNo 8 0 1 1] := by decide +kernel

theorem test_witness_CycleEndCreditsTheTarget :
    live.ggu.targets = [] ∧ queued.ggu.targets = targetNo 7 1 2 3 :: [targetNo 8 0 1 1] ∧ (targetNo 8 0 1 1).auto ≠ 1
      ∧ ((2 : Nat) : Int) < (targetNo 7 1 2 3).onGradeFrames ∧ (targetNo 7 1 2 3).auto = 1
      ∧ (targetNo 7 1 2 3).onGradeFrames ≤ ((3 : Nat) : Int)
      ∧ (queued.ggu.passes : Int) + 1 = (targetNo 7 1 2 3).passCycles
      ∧ (live.ggu.passes : Int) + 1 ≠ (targetNo 7 1 2 3).passCycles := by decide +kernel

/-- Both joins held for frame 7: that of the LEV with its ceilings formed, built or not. -/
def joined (built : Bool) : State :=
  { live with
    ggu := { live.ggu with join := some {
      frame := 7, pose := none, floors := none, phase := some .dig, cue := none, assistFormed := built } }
    lev := { live.lev with join := some {
      frame := 7, pose := some (recordOf 7 0 0 0 0 0), zones := some [], assist := none, built := built
      ceilings := some { left := 100, right := 84, raise := 35, lower := 100 } } } }

theorem test_witness_FirstPartOpensTheJoin :
    live.supply = true ∧ (recordOf 7 0 0 0 0 0).pose.frame = 7 ∧ live.ggu.join = none ∧ live.lev.join = none
      ∧ (joined false).supply = true ∧ (recordOf 8 0 0 0 0 0).pose.frame = 8
      ∧ ((joined false).ggu.join.map GguJoin.frame) = some 7
      ∧ ((joined false).lev.join.map fun j => (j.frame, j.ceilings.isSome, j.built)) = some (7, true, false)
      ∧ ((joined true).lev.join.map LevJoin.built) = some true
      ∧ (1 ≤ ((8 : FrameNo) - 7).toNat ∧ ((8 : FrameNo) - 7).toNat ≤ 2147483647)
      ∧ (((2147483654 : FrameNo) - 7).toNat = 2147483647 ∧ ((2147483655 : FrameNo) - 7).toNat = 2147483648)
      ∧ (live.fhu.held = none ∧ (heldFor goodRecord true).fhu.held.isSome = true) := by
  decide +kernel

theorem test_witness_FloorListFormsCueAndAssist :
    (guiding.supply = true
      ∧ guiding.ggu.join = some
        { frame := 4418, pose := some (recordOf 4418 2000 10746 (-2010) 0 0), floors := none, phase := some .dig
          cue := none, assistFormed := false }
      ∧ guiding.ggu.guidance = true ∧ guiding.ggu.assist = true ∧ guiding.ggu.targets = targetNo 7 0 1 1 :: []
      ∧ (recordOf 4418 2000 10746 (-2010) 0 0).pose.valid = true ∧ (recordOf 4418 2000 10746 (-2010) 0 0).limited = .no
      ∧ (inSector 2000 floor9.s floor9.e = true ∧ (floor9.reachMin : Int) ≤ 10746 ∧ (10746 : Int) ≤ floor9.reachMax)
      ∧ (-2055 : Int) < floor9.floorZ + floor9.stop ∧ ¬(-2055 : Int) < floor3.floorZ + floor3.stop
      ∧ (-60 : Int) < (targetNo 7 0 1 1).guard ∧ live.ggu.targets = [] ∧ live.ggu.assist = false
      ∧ (invalidRecord 1).pose.valid = false
      ∧ (4418 : FrameNo).getLsbD 0 = false ∧ (4419 : FrameNo).getLsbD 0 = true
      ∧ (recordOf 4418 2000 10746 (-2010) 0 0).pose.frame = 4418)
      -- the other orders of arrival: the pose record last, the phase report still to come or last
      ∧ (∀ ph ∈ [none, some Phase.dig], ∃ s : State, s.supply = true ∧ s.ggu.join = some
          { frame := 4418, pose := none, floors := some [floor9], phase := ph, cue := none, assistFormed := false })
      ∧ ∃ s : State, s.supply = true ∧ s.ggu.assist = true ∧ s.ggu.join = some
          { frame := 4418, pose := some (recordOf 4418 2000 10746 (-2010) 0 0), floors := some [floor9], phase := none
            cue := some { d := -60, cue := .belowNear, guard := 500, active := true }, assistFormed := false } := by
  refine ⟨by decide +kernel,
    fun ph _ => ⟨{ guiding with ggu := { guiding.ggu with
        join := some ⟨4418, none, some [floor9], ph, none, false⟩ } }, rfl, rfl⟩,
    ⟨{ guiding with ggu := { guiding.ggu with
        assist := true, join := some ⟨4418, some _, some _, none, some _, false⟩ } }, rfl, rfl, rfl⟩⟩

theorem test_witness_CabEditsWaitAsPendingCopies :
    live.supply = true ∧ (15 : Int) < 16 ∧ (-1 : Int) < 0
      ∧ zoneDefOf { kind := 3, mode := 0, s := 0, e := 0, reachMin := 0, reachMax := 0, limit := 0, stop := 0, band := 1 }
        = none
      ∧ zoneDefOf { kind := 1, mode := 2, s := 30000, e := 34000, reachMin := 6000, reachMax := 18000, limit := 9000
                    stop := 1500, band := 2000 } = some powerLine
      ∧ (let edit (kind : Nat) (low stop band : Int) : Bool :=
          (zoneDefOf { kind := kind, mode := 0, s := 0, e := 0, reachMin := low, reachMax := 32767, limit := -32768
                       stop := stop, band := band }).isSome
        edit 0 32767 16383 32767 = true ∧ edit 0 32767 16384 0 = false ∧ edit 0 0 0 32768 = false ∧ edit 0 32768 0 0 = false
          ∧ edit 2 0 5000 10000 = true ∧ edit 2 0 5001 1 = false ∧ edit 2 0 0 0 = false ∧ edit 1 0 0 10001 = false) := by
  decide +kernel

/-- The border entries with both suspended for a second. -/
def suspendedAtTheBorder : State :=
  { atTheBorder with env := { atTheBorder.env with
      entries := atTheBorder.env.entries.map fun e => { e with suspension := some 1 } } }

theorem test_witness_SuspensionRequests :
    atTheBorder.supply = true ∧ atTheBorder.env.entries[7]? = some (ZoneEntry.start powerLine)
      ∧ atTheBorder.env.entries[8]? = some (ZoneEntry.start powerLine)
      ∧ (ZoneEntry.start powerLine).effective.mode = .enforce ∧ (ZoneEntry.start powerLine).suspension = none
      ∧ suspendedAtTheBorder.env.entries[7]? = some { ZoneEntry.start powerLine with suspension := some 1 }
      ∧ suspendedAtTheBorder.env.entries[8]? = some { ZoneEntry.start powerLine with suspension := some 1 }
      ∧ atTheBorder.env.entries[0]? = some (ZoneEntry.start emptyZone)
      ∧ atTheBorder.env.entries[15]? = some (ZoneEntry.start emptyZone)
      ∧ (ZoneEntry.start emptyZone).effective.mode ≠ .enforce := by decide +kernel

theorem test_witness_SuspensionsRunOutAndEndWithTheCab :
    lastSecond.supply = true ∧ lastSecond.env.entries.length = 16
      ∧ suspendedAtTheBorder.supply = true ∧ suspendedAtTheBorder.env.entries.length = 16
      ∧ ([7, 8].map fun i => suspendedAtTheBorder.env.entries[i]?.map ZoneEntry.suspension) = [some (some 1), some (some 1)]
      ∧ ((underLine beforeEdit).env.entries[12]?.map ZoneEntry.suspension) = some (some 598) := by decide +kernel

theorem test_witness_StateReportsAreTakenByFrame :
    let s := { atTheBorder with env := { atTheBorder.env with
      latest := some { frame := 3150, zones := frameZonesOf atTheBorder.env } } }
    (∀ z, live.env.latest = some z → z.frame ≠ 3150)
      ∧ s.supply = true ∧ s.env.latest = some { frame := 3150, zones := frameZonesOf atTheBorder.env }
      ∧ s.env.entries.length = 16
      ∧ (frameZonesOf atTheBorder.env).length = 16 ∧ (List.replicate 16 ZoneState.breached).length = 16
      ∧ (s.env.entries[15]?).isSome = true ∧ ((frameZonesOf atTheBorder.env)[15]?).isSome = true
      ∧ ((frameZonesOf suspendedAtTheBorder.env)[8]?.map fun z => (z.zone.mode, z.suspended)) = some (.enforce, true)
      ∧ ((frameZonesOf s.env)[8]?.map fun z => (z.zone.mode, z.suspended)) = some (.enforce, false)
      ∧ ((frameZonesOf s.env)[15]?.map fun z => z.zone.mode) = some .off := by
  exact ⟨fun z h => absurd h (by rw [show live.env.latest = none from rfl]; nofun), by decide +kernel⟩

theorem test_witness_SectorsArePlacedModularly :
    inSector 10000 60000 4000 = false ∧ inSector 2000 60000 4000 = true ∧ (60000 : Angle) ≠ 4000
      ∧ inSector 60000 60000 4000 = true ∧ inSector 4000 60000 4000 = true := by decide +kernel

theorem test_witness_ZonesLimitTheirMotions :
    1 ≤ live.settings.lev.slewDecel ∧ live.settings.lev.slewDecel ≤ 4095 ∧ 1 ≤ live.settings.lev.rateFull
      ∧ (420 : Nat) ≤ 300 + (30 : Int).natAbs * live.settings.lev.reactFrames
      ∧ 300 + (30 : Int).natAbs * live.settings.lev.reactFrames < 421
      ∧ powerLine.kind ≠ .slewWall ∧ 1 ≤ powerLine.band
      ∧ powerLine.limit - 9000 ≤ 0 ∧ 0 < powerLine.limit - 7500 ∧ powerLine.limit - 7500 ≤ powerLine.stop
      ∧ (powerLine.stop : Int) < powerLine.limit - 7499
      ∧ (inSector 11999 wall.s wall.e = false ∧ inSector 12000 wall.s wall.e = true ∧ inSector 20000 wall.s wall.e = true)
      ∧ ((wall.reachMin : Int) ≤ 0 ∧ wall.limit ≤ -32768 ∧ ¬(wall.reachMin : Int) ≤ -1)
      ∧ (inSector 29999 powerLine.s powerLine.e = false ∧ inSector 34000 powerLine.s powerLine.e = true)
      ∧ ((powerLine.reachMin : Int) ≤ 6000 ∧ (18000 : Int) ≤ powerLine.reachMax ∧ ¬(18001 : Int) ≤ powerLine.reachMax)
      ∧ powerLine.limit - powerLine.stop ≤ 7500 ∧ ¬powerLine.limit - powerLine.stop ≤ 7499 := by decide +kernel

/-- The LEV holds a join with its zone set, or with its ceilings. -/
def joining (m : FrameNo) (pose : Option PoseRecord) (ceilings : Option Ceilings) : State :=
  { live with lev := { live.lev with join := some {
        frame := m, pose := pose, zones := some (frameZonesOf atTheBorder.env), assist := none, ceilings := ceilings
        built := false } } }

theorem test_witness_AssistRequestBuildsTheAllotment :
    (joining 7 (some goodRecord) (some openCeilings)).supply = true ∧ 100 ≤ 100
      ∧ (joining 7 (some goodRecord) (some openCeilings)).lev.join = some
        { frame := 7, pose := some goodRecord, zones := some (frameZonesOf atTheBorder.env), assist := none
          ceilings := some openCeilings, built := false }
      ∧ (joining 7 (some goodRecord) (some openCeilings)).fhu.held = none
      ∧ (heldFor goodRecord true).fhu.held = some { code := .breachDeep, detail := 2 } := by decide +kernel

theorem test_witness_ValidPoseFormsTheCeilings :
    let z := frameZonesOf atTheBorder.env
    let s := joining 1 none none
    (s.supply = true ∧ goodRecord.pose.valid = true ∧ z.length = 16 ∧ s.lev.zones.length = 16
      ∧ s.lev.join = some
        { frame := goodRecord.pose.frame, pose := none, zones := some z, assist := none, ceilings := none, built := false }
      ∧ (z[8]?.map fun x => (x.zone.mode, x.suspended)) = some (.enforce, false)
      ∧ (evalZone s.settings.lev powerLine (recordOf 1 31000 12000 9000 0 0)).state = .breached
      ∧ ((frameZonesOf suspendedAtTheBorder.env)[8]?.map fun x => (x.zone.mode, x.suspended)) = some (.enforce, true)
      ∧ (evalZone s.settings.lev powerLine (recordOf 1 31000 12000 (9001 + s.settings.lev.deepZ) 0 0)).deep = true
      ∧ (evalZone s.settings.lev powerLine (recordOf 1 31000 12000 (9000 + s.settings.lev.deepZ) 0 0)).deep = false
      ∧ (s.lev.zones[8]?.map fun l => l.breachRecorded) = some false)
      ∧ (∀ n ∈ [none, some 45], ∃ u : State, u.supply = true ∧ u.lev.zones.length = 16 ∧ u.lev.join = some
          { frame := 1, pose := some goodRecord, zones := none, assist := n, ceilings := none, built := false })
      ∧ ∃ u : State, u.supply = true ∧ u.lev.zones.length = 16 ∧ u.lev.join = some
          { frame := 1, pose := none, zones := some z, assist := some 100, ceilings := none, built := false } := by
  refine ⟨by decide +kernel,
    fun n _ => ⟨{ live with lev := { live.lev with join := some ⟨1, some goodRecord, none, n, none, false⟩ } },
      rfl, show live.lev.zones.length = 16 by decide +kernel, rfl⟩,
    ⟨{ live with lev := { live.lev with join := some ⟨1, none, some _, some 100, none, false⟩ } },
      rfl, show live.lev.zones.length = 16 by decide +kernel, rfl⟩⟩

theorem test_witness_InvalidPoseFallsBack :
    ((joining 1 none none).supply = true ∧ (invalidRecord 1).pose.valid = false
      ∧ (joining 1 none none).lev.join = some
        { frame := (invalidRecord 1).pose.frame, pose := none, zones := some (frameZonesOf atTheBorder.env), assist := none
          ceilings := none, built := false })
      ∧ (∀ n ∈ [none, some 45], ∃ u : State, u.supply = true ∧ u.lev.join = some
          { frame := (invalidRecord 1).pose.frame, pose := some (invalidRecord 1), zones := none, assist := n
            ceilings := none, built := false }) :=
  ⟨by decide +kernel, fun n _ =>
    ⟨{ live with lev := { live.lev with join := some ⟨_, some (invalidRecord 1), none, n, none, false⟩ } }, rfl, rfl⟩⟩

theorem test_witness_HoldEntryBuildsTheHoldAllotment :
    allotted.supply = true ∧ allotted.lev.latest.isSome = true ∧ live.lev.latest = none
      ∧ (heldFor goodRecord true).fhu.held.isSome = true := by decide +kernel

/-- Twin running with E1 EXCLUDED, or a cooldown of E2 under E1, with its timer. -/
def planned (plan : Plan) (excluded : Bool) (timer filter : Nat) : State :=
  let s := twin filter 0 450
  { s with epc := { s.epc with
      plan := plan, lead := if plan = .cooldown then some .e1 else none, cooldown := timer
      e1 := { s.epc.e1 with excluded := excluded } } }

theorem test_witness_EngineStatusIsTaken :
    let s := { twin 0 0 0 with epc := { (twin 0 0 0).epc with plan := .none } }
    let u (swap : Bool) := single .starting (some .e2) swap 140 1000 806000
    s.supply = true ∧ Engine.e2 ≠ .e1 ∧ Engine.e1 ≠ .e2
      ∧ (s.epc.eng .e1).run = true ∧ s.epc.plan = .none ∧ (s.epc.eng .e1).hasRun = true
      ∧ ((u true).epc.eng .e2).run = true ∧ (u true).epc.plan = .starting ∧ (u true).epc.starting = some .e2
      ∧ (u true).epc.swap = true ∧ (u false).epc.swap = false
      ∧ ((u true).epc.eng .e1).run = true ∧ ((u true).epc.eng .e1).hasRun = true ∧ (u true).epc.starting ≠ some .e1
      ∧ (s.epc.eng .e2).reported = .running ∧ s.epc.avail .e2 = .available ∧ s.epc.plan ≠ .starting
      ∧ ((u true).epc.eng .e2).reported ≠ .running ∧ ((u true).epc.eng .e2).hasRun = false
      ∧ (3 : Byte) ≠ 1 ∧ (3 : Byte) ≠ 2
      ∧ (s.epc.allowance = s.epc.allowanceOf s.settings.epc ∧ (s.epc.eng .e1).run = s.epc.runFor .e1
        ∧ (s.epc.eng .e2).run = s.epc.runFor .e2)
      -- the lost engine's partner RUNNING and EXCLUDED, in PLAN_TWIN
      ∧ (let x := planned .twin true 0 4800
        x.epc.plan = .twin ∧ (x.epc.eng .e2).run = true ∧ (x.epc.eng .e2).hasRun = true
          ∧ (x.epc.eng .e1).reported = .running ∧ x.epc.avail .e1 = .excluded) := by decide +kernel

theorem test_witness_PlanIntervalMovesThePlan :
    let s := twin 4800 599 450
    let u := single .starting (some .e2) true 1 100 811001
    let v := single .starting (some .e2) true 2 100 811001
    let x := planned .twin true 0 4800
    let y := planned .cooldown false 1 4800
    let z := planned .cooldown false 2 32000
    let w := single .single none false 0 1000 806000
    let b := single .single none false 0 100 811001
    s.supply = true ∧ s.epc.plan = .twin ∧ s.epc.lead = none ∧ s.epc.autoSingle = true ∧ s.epc.hold = false
      ∧ s.epc.keyOff = false ∧ s.epc.dwell ≤ 1 ∧ s.settings.epc.downIntervals ≤ s.epc.lowCount + 1
      ∧ s.epc.lowCount < 65535 ∧ (after .planIntervalExpiry s).epc.filter / 8 < s.settings.epc.singleEnter
      ∧ (s.epc.avail .e1 = .available ∧ (s.epc.eng .e1).reported = .running)
      ∧ (s.epc.avail .e2 = .available ∧ (s.epc.eng .e2).reported = .running)
      ∧ (x.epc.plan = .twin ∧ x.epc.avail .e1 = .excluded ∧ (x.epc.eng .e1).hasRun = true
        ∧ x.epc.avail .e2 = .available ∧ (x.epc.eng .e2).reported = .running)
      ∧ (s.epc.avail .e1 ≠ .excluded ∧ s.epc.avail .e2 ≠ .excluded
        ∧ s.settings.epc.singleEnter ≤ (after .planIntervalExpiry (twin 32000 0 450)).epc.filter / 8)
      ∧ (y.epc.plan = .cooldown ∧ y.epc.lead = some .e1 ∧ y.epc.hold = false
        ∧ (after .planIntervalExpiry y).epc.filter / 8 ≤ y.settings.epc.twinEnter)
      ∧ (z.epc.avail .e2 ≠ .excluded ∧ z.settings.epc.twinEnter < (after .planIntervalExpiry z).epc.filter / 8)
      ∧ (w.epc.plan = .single ∧ w.epc.lead = some .e1 ∧ w.epc.hold = false ∧ w.epc.avail .e2 = .available
        ∧ 95 * w.epc.allowance < 100 * (1000 + w.settings.epc.reserve))
      ∧ (100 * (100 + b.settings.epc.reserve) ≤ 95 * b.epc.allowance
        ∧ (after .planIntervalExpiry b).epc.filter / 8 ≤ b.settings.epc.twinEnter
        ∧ b.smu.meter 1 + b.settings.epc.balanceUnits < b.smu.meter 0)
      ∧ live.epc.plan = .none
      ∧ u.epc.plan = .starting ∧ u.epc.starting = some .e2 ∧ u.epc.startTimer ≤ 1 ∧ u.epc.avail .e1 = .available
      ∧ v.epc.plan = .starting ∧ v.epc.starting = some .e2 ∧ 2 ≤ v.epc.startTimer
      -- a low demand one interval short, and an EXCLUDED engine that has not run
      ∧ (let k := twin 4800 598 450
        k.epc.plan = .twin ∧ k.epc.lowCount + 1 < k.settings.epc.downIntervals
          ∧ (after .planIntervalExpiry k).epc.filter / 8 < k.settings.epc.singleEnter
          ∧ k.epc.avail .e1 ≠ .excluded ∧ k.epc.avail .e2 ≠ .excluded)
      ∧ (let n : State := { x with epc := { x.epc with e1 := { x.epc.e1 with hasRun := false } } }
        n.epc.plan = .twin ∧ n.epc.avail .e1 = .excluded ∧ (n.epc.eng .e1).hasRun = false) := by decide +kernel

/-- A FAILED E2. -/
def failedEngine : State := { live with epc := { live.epc with e2 := { live.epc.e2 with failed := true } } }

theorem test_witness_EngineRequests :
    failedEngine.supply = true ∧ (3 : Nat) ≠ 1 ∧ (3 : Nat) ≠ 2 ∧ engineNumber .e2 = 2
      ∧ (failedEngine.epc.eng .e2).failed = true ∧ (live.epc.eng .e2).failed = false ∧ live.epc.hold = false
      ∧ ({ live with epc := { live.epc with hold := true } } : State).epc.hold = true
      ∧ (let x : State := { failedEngine with
        epc := { failedEngine.epc with e2 := { failedEngine.epc.e2 with excluded := true } } }
      x.epc.keyOff = false ∧ (x.epc.onEng .e2 (fun r => { r with failed := false })).avail .e2 = .excluded)
      ∧ ((planned .cooldown false 1 0).epc.lead = some .e1 ∧ (planned .cooldown false 1 0).epc.plan = .cooldown
        ∧ (planned .cooldown false 1 0).epc.avail .e2 ≠ .excluded)
      ∧ ((single .single none false 0 0 0).epc.plan = .single ∧ (single .single none false 0 0 0).epc.lead = some .e1
        ∧ (single .single none false 0 0 0).epc.avail .e2 = .available) := by decide +kernel

/-- Item 31 is the hydraulic filter, DUE_SOON at a meter of 805000. -/
def filterDue : State :=
  { live with smu := { live.smu with
      meters := [0, 0, 805000, 0, 0, 0, 0, 0]
      items := live.smu.items.set 31 { defn := filterService, mark := 760000, state := some .dueSoon, acked := false } } }

/-- The same with a store queue that refuses ITEMS and METERS. -/
def filterDueFull : State :=
  { filterDue with nvc := { failing.nvc with
      queue := [⟨.zonesSite, false, false⟩, ⟨.config, false, true⟩, ⟨.hold, false, false⟩, ⟨.zonesOper, false, false⟩] } }

/-- A part whose snapshot count stands at a value. -/
def counting (n : Nat) (due : Bool) (nvc : Nvc) : State :=
  { fuelling with smu := { fuelling.smu with snapCount := n, snapDue := due }, nvc := nvc }

theorem test_witness_OneSecondStepAccrues :
    fuelling.supply = true ∧ fuelling.smu.meters.length = 8 ∧ fuelling.smu.residues.length = 8
      ∧ (live.epc.eng .e1).reported ≠ .running ∧ (fuelling.epc.eng .e1).reported = .running
      ∧ fuelling.smu.meter 0 < 4294967295 ∧ fuelling.smu.residue 0 < 36 ∧ (fuelling.epc.eng .e1).fuel ≤ 65535
      ∧ fuelling.smu.residue 3 < 36000 ∧ fuelling.smu.meter 3 + 2 < 4294967295 ∧ fuelling.smu.residue 2 < 36
      ∧ fuelling.smu.residue 7 < 36
      ∧ (min 360 ((counting 359 false live.nvc).smu.snapCount + 1) = 360 ∧ (counting 359 false live.nvc).nvc.takes .meters = true)
      ∧ (min 360 ((counting 358 false live.nvc).smu.snapCount + 1) ≠ 360)
      ∧ ((counting 0 true filterDueFull.nvc).smu.snapDue = true ∧ (counting 0 true filterDueFull.nvc).nvc.takes .meters = false) := by
  decide +kernel

theorem test_witness_TravelFlagFollowsThePcu :
    restarting.supply = true ∧ restarting.restartDue = true ∧ factoryOff.supply = false := by
  decide +kernel

theorem test_witness_MetersAndTripAdvance :
    live.supply = true ∧ live.smu.meters.length = 8 ∧ live.smu.residues.length = 8
      ∧ live.smu.meter 5 + (live.smu.residue 5 + 32768) / 65536 ≤ 4294967295 := by decide +kernel

theorem stores_filterDueFull : storesOk filterDueFull :=
  stores_writing .zonesSite live _ (by unfold queueOk; decide +kernel) rfl rfl rfl (by decide +kernel)

theorem test_witness_ItemAndMeterRequests :
    storesOk filterDue ∧ storesOk filterDueFull
      ∧ filterDue.supply = true ∧ filterDue.smu.items.length = 32 ∧ filterDue.smu.meters.length = 8
      ∧ (filterDue.smu.item 31).defn.inUse = true ∧ (filterDue.smu.item 31).defn.operatorReset = true
      ∧ (filterDue.smu.item 31).state = some .dueSoon ∧ (filterDue.smu.item 0).defn.inUse = false
      ∧ ((serviced 805000 .due).smu.item 5).defn.operatorReset = false
      ∧ filterDue.nvc.takes .items = true ∧ filterDueFull.nvc.takes .items = false
      ∧ filterDue.nvc.takes .meters = true ∧ filterDueFull.nvc.takes .meters = false
      ∧ filterDue.smu.meter 2 ≤ 805000 ∧ 804999 < filterDue.smu.meter 2 :=
  ⟨stores_idle _ (by unfold queueOk; decide +kernel) (by decide +kernel), stores_filterDueFull, by decide +kernel⟩

theorem test_witness_FaultReportsAreTakenByClass :
    live.supply = true ∧ faultClass .zoneBreach = .advisory ∧ faultClass .sensorMissing = .recoverable
      ∧ faultClass .engineLost = .recoverable ∧ faultClass .startFailed = .recoverable
      ∧ faultClass .breachDeep = .latching ∧ live.fhu.held = none
      ∧ (heldFor goodRecord true).fhu.held = some { code := .breachDeep, detail := 2 }
      ∧ (let u : State := { heldFor goodRecord true with fhu := { (heldFor goodRecord true).fhu with unstored := true } }
        u.fhu.held.isSome = true ∧ u.fhu.unstored = true ∧ (heldFor goodRecord true).fhu.unstored = false)
      ∧ live.geu.current = none ∧ (heldFor goodRecord true).geu.current = some goodRecord
      ∧ nextSeq 4294967295 = 1
      ∧ activeKey { code := .sensorMissing, clearing := false, detail := 0, frame := none } ∉ live.fhu.active
      ∧ activeKey { code := .sensorMissing, clearing := false, detail := 0, frame := none }
        ∈ (after (.faultReport { code := .sensorMissing, clearing := false, detail := 0, frame := none }) live).fhu.active := by
  decide +kernel

theorem test_witness_ClearHoldJudgesTheCauses :
    (heldFor (invalidRecord 1) true).supply = true ∧ (heldFor (invalidRecord 1) true).fhu.held.isSome = true
      ∧ (heldFor (invalidRecord 1) true).sli.buffer = .pending 9 false 0
      ∧ (heldFor (invalidRecord 1) true).causes = 3 ∧ (heldFor goodRecord true).causes = 2
      ∧ (heldFor goodRecord false).causes = 0 ∧ (heldFor goodRecord false).geu.current = some goodRecord
      ∧ goodRecord.pose.valid = true ∧ (heldFor goodRecord false).nvc.builtIn = false
      ∧ ({ live with nvc := { live.nvc with builtIn := true } } : State).causes = 5
      ∧ live.fhu.held = none ∧ live.fhu.unstored = false ∧ live.nvc.takes .hold = true
      ∧ filterDue.nvc.takes .hold = true ∧ ({ filterDueFull with nvc := crowded.nvc } : State).nvc.takes .meters = false
      ∧ ({ live with fhu := { live.fhu with unstored := true } } : State).fhu.unstored = true := by decide +kernel

theorem stores_crowded : storesOk crowded :=
  stores_writing .items live _ (by unfold queueOk; decide +kernel) rfl rfl rfl (by decide +kernel)

/-- A snapshot in writing. -/
def snapping : State :=
  { live with nvc := { live.nvc with queue := [⟨.meters, false, false⟩], write := some (live.writeOf .meters) } }

theorem test_witness_KeyAndPwrfailEvents :
    storesOk crowded ∧ storesOk failing ∧ (crowded.supply = true ∧ crowded.nvc.power = .run ∧ failing.nvc.power ≠ .run)
      ∧ (powerOk (waiting (.nvWriteComplete true) (listing false [] []))
        ∧ step (waiting (.nvWriteComplete true) (listing false [] []))
          = .next (after (.nvWriteComplete true) (listing false [] []))
        ∧ (after (.nvWriteComplete true) (listing false [] [])).nvc.power = .readyOff)
      -- METERS in writing, waiting, absent with room and with a full queue
      ∧ (storesOk snapping ∧ snapping.nvc.write.map NvWrite.record = some .meters)
      ∧ (RecordId.meters ∈ failing.nvc.queue.map StoreEntry.record
        ∧ failing.nvc.write.map NvWrite.record ≠ some .meters)
      ∧ (storesOk live ∧ RecordId.meters ∉ live.nvc.queue.map StoreEntry.record ∧ live.nvc.queue.length < 4)
      ∧ (storesOk filterDueFull ∧ RecordId.meters ∉ filterDueFull.nvc.queue.map StoreEntry.record
        ∧ filterDueFull.nvc.queue.length = 4) :=
  ⟨stores_crowded, test_witness_StoreQueueAndCopiesAreKept.1, by decide +kernel,
    ⟨power_listing false [] [], rfl, by decide +kernel⟩,
    ⟨stores_writing .meters live _ (by unfold queueOk; decide +kernel) rfl rfl rfl (by decide +kernel), by decide +kernel⟩,
    by decide +kernel,
    ⟨stores_idle _ (by unfold queueOk; decide +kernel) (by decide +kernel), by decide +kernel⟩,
    ⟨stores_filterDueFull, by decide +kernel⟩⟩

/-- A cab one step short of stale, and a port whose transmission error takes it off. -/
def ageing (age : Nat) : State :=
  { live with portA := { live.portA with cab := { age := age, state := .fresh } } }

/-- The three nodes of port B at an age and in a state. -/
def nodes (age : Nat) (state : Heard) : State :=
  let n : Node := { age := age, state := state }
  { live with portB := { live.portB with pcu := n, gov1 := n, gov2 := n } }

theorem test_witness_NodesGoStaleAtTheirLimits :
    (ageing 98).supply = true ∧ ¬99 ≤ (ageing 98).portA.cab.age ∧ min 255 ((ageing 255).portA.cab.age + 1) = 255
      ∧ 99 ≤ (ageing 99).portA.cab.age ∧ (ageing 99).portA.cab.state ≠ .stale
      ∧ (nodes 9 .fresh).supply = true ∧ 9 ≤ (nodes 9 .fresh).portB.pcu.age ∧ (nodes 9 .fresh).portB.pcu.state ≠ .stale
      ∧ ¬9 ≤ (nodes 8 .fresh).portB.pcu.age ∧ ¬29 ≤ (nodes 28 .fresh).portB.gov1.age
      ∧ 29 ≤ (nodes 29 .unheard).portB.gov2.age ∧ (nodes 29 .unheard).portB.gov2.state ≠ .stale
      ∧ ¬(nodes 29 .stale).portB.gov1.state ≠ .stale := by decide +kernel

/-- Frames one step away from those the table of R174 takes in. -/
def nearMisses : List RxFrame :=
  [{ port := .a, format := .standard, id := 642, length := 11 }, { port := .b, format := .standard, id := 195, length := 7 },
   { port := .b, format := .standard, id := 323, length := 8 }, { port := .a, format := .standard, id := 195, length := 8 },
   { port := .b, format := .standard, id := 326, length := 8 }]

theorem test_witness_MachineBusMessagesAreDelivered :
    live.supply = true ∧ live.portB.on = true ∧ ({ live with portB := live.portB.busOff } : State).portB.on = false
      ∧ ([1, 2, 3] : List Byte).length ≠ 8
      ∧ (nodes 40 .stale).portB.on = true ∧ (nodes 40 .stale).portB.pcu.state = .stale
      ∧ ((nodes 40 .stale).portB.gov .e2).state = .stale ∧ ((nodes 1 .fresh).portB.gov .e1).state = .fresh
      ∧ live.portB.pcu.state ≠ .fresh ∧ live.portB.pcu.state ≠ .stale
      ∧ (∀ rx ∈ nearMisses, ¬(rx.format = .standard
        ∧ (rx.port = .a ∧ rx.id = 642 ∧ rx.length = 12
          ∨ rx.port = .b ∧ (rx.id = 195 ∨ rx.id = 324 ∨ rx.id = 325) ∧ rx.length = 8))) := by decide +kernel

/-- A part 0 held in the assembly, with all four places taken or none. -/
def assembling (kind : Byte) (taken : Nat) : State :=
  { ageing 0 with portA := { (ageing 0).portA with
      assembly := some { number := 1, kind := kind, ops := [7, 1, 2, 30000, 34000] }
      results := List.replicate taken ⟨0, 1, 4, none⟩ } }

theorem test_witness_CabRequestsAreHandledByKind :
    (∀ a, (ageing 0).portA.assembly = some a → a.kind ≠ 9 ∨ a.number ≠ 1)
      ∧ (ageing 0).supply = true ∧ (ageing 0).portA.on = true ∧ (ageing 0).portA.cab.state = .fresh
      ∧ live.portA.on = true ∧ live.portA.cab.state ≠ .fresh
      ∧ (let s : State := { live with portA := live.portA.busOff }
        s.supply = true ∧ s.portA.on = false)
      ∧ (assembling 9 0).portA.assembly = some { number := 1, kind := 9, ops := [7, 1, 2, 30000, 34000] }
      ∧ (assembling 12 0).portA.assembly = some { number := 1, kind := 12, ops := [7, 1, 2, 30000, 34000] }
      ∧ (2 : Byte) ≠ 0 ∧ (2 : Byte) ≠ 1
      ∧ 15 < (16 : Byte).toNat ∧ ¬15 < (15 : Byte).toNat ∧ 1 ≤ (1 : Byte).toNat ∧ (1 : Byte) ≠ 9 ∧ (1 : Byte) ≠ 12
      ∧ (assembling 9 3).portA.results.length < 4 ∧ 4 ≤ (assembling 12 4).portA.results.length
      ∧ (([2] : List Int)[0]?).getD 0 ≠ 0 ∧ (([2] : List Int)[0]?).getD 0 ≠ 1 ∧ (([1] : List Int)[0]?).getD 0 = 1
      ∧ (([] : List Int)[0]?).getD 0 = 0 := by
  exact ⟨fun a h => absurd h (by rw [show (ageing 0).portA.assembly = none from rfl]; nofun), by decide +kernel⟩

/-- Both ports offering a place, with an error count and a NOTICE in its place. -/
def offering (a : OfferA) (b : OfferB) (errors : Nat) : State :=
  { live with
    portA := { live.portA with errors := errors, offering := some a, notice := some { kind := .holdEntered, count := 1 } }
    portB := { live.portB with errors := errors, offering := some b } }

theorem test_witness_PortsTransmitAndFormStatus :
    ([OfferA.guidance, .result, .status, .notice].all fun a => [OfferB.allotment, .demand1, .demand2].all fun b =>
        let s := offering a b 247
        s.supply && s.portA.on && s.portB.on && s.portA.offering == some a && s.portB.offering == some b
          && s.portA.errors == 247 && s.portB.errors == 247 && s.portA.notice.isSome) = true
      ∧ 247 < (offering .notice .demand2 248).portA.errors ∧ 247 < (offering .notice .demand2 248).portB.errors
      ∧ live.portA.notice = none ∧ live.portA.offering = none ∧ live.portA.on = true
      ∧ noticeTableOk live.portA.counts ∧ noticeTableOk announced.portA.counts ∧ announced.portA.notice.isSome = true
      ∧ announced.portA.offering = some .notice ∧ announced.portA.busOff.on = false
      ∧ (let s : State := { live with portA := announced.portA.busOff, portB := live.portB.busOff }
        s.supply = true ∧ s.portA.on = false ∧ s.portA.offering = none ∧ s.portA.notice = none
          ∧ s.portB.on = false ∧ s.portB.offering = none) := by unfold noticeTableOk; decide +kernel

/-- The link with an answer held. -/
def answered : State := after (.writeEntries 2 twoZones) (writing 21 6)

theorem test_witness_RequestBlocksAndAnswerReads :
    live.supply = true ∧ ([1] : List Byte).length < 2 ∧ live.sli.buffer = .empty true
      ∧ (after .answerRead answered).sli.buffer = .empty false
      ∧ 62 < (List.replicate 63 (0 : Byte)).length ∧ (List.replicate 62 (0 : Byte)).length ≤ 62
      ∧ 10 < (11 : Byte).toNat ∧ live.lines.maint = false
      ∧ ({ live with lines := { live.lines with maint := true } } : State).lines.maint = true
      ∧ (writing 5 0).sli.buffer = .pending 5 false 0
      ∧ (answerOf answered).isSome = true := by decide +kernel

theorem test_witness_LevelRefusalsAndRestart :
    live.supply = true ∧ live.nvc.queue = [] ∧ live.nvc.write = none ∧ live.nvc.power = .run
      ∧ ({ live with nvc := { live.nvc with power := .readyOff } } : State).nvc.power = .readyOff
      ∧ (writing 5 0).sli.buffer = .pending 5 false 0 := by decide +kernel

/-- An ITEMS entry that defines the hydraulic filter, with its interval as given. -/
def itemEntry (interval : Nat) : List Byte := ItemDef.bytes 3 { filterService with interval := interval, lead := 0 } 0

/-- The link at item 31, with a run of `WRITE_ENTRIES n = 1` pending. -/
def writingItem (s : State) : State :=
  { s with sli := { s.sli with buffer := .pending 5 false 0, table := .items, index := 31 } }

/-- The answer held: result, residue, detail. -/
def heldAnswer (s : State) : Option (ResultCode × Byte × BitVec 16) :=
  match s.sli.buffer with
  | .ready a => some (a.result, a.residue, a.detail)
  | _ => none

/-- The second of two ITEMS entries is out of range (R147, R192). -/
theorem test_write_stops_at_the_refused_entry :
    let s := { writingItem filterDue with sli := { (writingItem filterDue).sli with index := 4 } }
    let t := after (.writeEntries 2 (itemEntry 10 ++ itemEntry 0)) s
    heldAnswer t = some (.refusedRange, 1, 5) ∧ t.sli.index = 5
      ∧ (t.smu.item 4).defn.interval = 10 ∧ t.smu.item 5 = s.smu.item 5 := by decide +kernel

/-- The cursor at the last CONFIG entry, and at the end position (R192). -/
theorem test_write_stops_at_the_table_end :
    let s (k : Nat) := { live with sli := { live.sli with buffer := .pending 5 false 0, table := .config, index := k } }
    let t (k : Nat) := after (.writeEntries 2 [7, 0, 0, 0, 8, 0, 0, 0]) (s k)
    (heldAnswer (t 136)).map (fun a => (a.1, a.2.1)) = some (.accepted, 1) ∧ (t 136).sli.index = 137
      ∧ (t 136).sli.config[135]? = some 7
      ∧ (heldAnswer (t 137)).map (fun a => (a.1, a.2.1)) = some (.accepted, 2)
      ∧ heldAnswer (t 0) = some (.refusedRange, 2, 0) := by decide +kernel

theorem test_witness_CursorSelectsReadsAndWrites :
    storesOk (writingItem filterDue) ∧ storesOk (writingItem filterDueFull)
      ∧ (writingItem filterDue).smu.items.length = 32 ∧ (writingItem filterDue).sli.index ≤ 31
      ∧ (writingItem filterDue).nvc.takes .items = true ∧ (writingItem filterDueFull).nvc.takes .items = false
      ∧ (itemEntry 1000000).length = 20 ∧ (itemDefAt (itemEntry 1000000)).isSome = true
      ∧ (itemDefAt (itemEntry 1)).isSome = true ∧ itemDefAt (itemEntry 0) = none ∧ itemDefAt (itemEntry 1000001) = none
      ∧ (writing 5 7).supply = true ∧ (writing 5 7).sli.buffer = .pending 5 false 0
      ∧ tableOf 2 = some .zones ∧ 15 < tableEntries .zones ∧ tableEntries .zones ≤ 16
      ∧ (writing 5 7).sli.index ≤ tableEntries (writing 5 7).sli.table
      ∧ (twoZones.length ≠ 1 * entrySize .zones) ∧ tableWritable .meters = false
      ∧ (zoneBytes powerLine ++ List.replicate 8 0).length = 24 ∧ (writing 5 7).sli.index < 8
      ∧ zoneDefOf (zoneFieldsAt (zoneBytes powerLine ++ List.replicate 8 0)) = some powerLine
      ∧ 8 ≤ (writing 5 8).sli.index ∧ (writing 5 15).sli.index ≤ 15
      ∧ (twoZones.length = 2 * entrySize .zones ∧ tableWritable .zones = true ∧ (writing 5 7).smu.items.length = 32
        ∧ (writing 5 7).nvc.queue = [] ∧ (writing 5 7).nvc.write = none)
      ∧ ((writeResult .zones true 7 (pieceOf 24 0 twoZones), writeResult .zones true 8 (pieceOf 24 1 twoZones))
        = (.accepted, .refusedNotOwner))
      ∧ (writeResult .zones true 3 (List.replicate 24 3), writeResult .config true 0 [0, 0, 0, 0])
        = (.refusedRange, .refusedRange)
      ∧ (writeResult .items true 31 (itemEntry 1), writeResult .items false 31 (itemEntry 1), writeResult .items true 31
        (itemEntry 0)) = (.accepted, .refusedBusy, .refusedRange) :=
  ⟨stores_idle _ (by unfold queueOk; decide +kernel) (by decide +kernel), stores_filterDueFull, by decide +kernel⟩

theorem test_witness_CommitAndTakeNotice :
    storesOk (writing 5 7) ∧ (writing 5 7).supply = true
      ∧ (writing 5 7).sli.buffer = .pending 5 false 0 ∧ firstFailingField (writing 5 7).sli.config = none
      ∧ firstFailingField (builtInFields.set 130 5000) = some 131
      ∧ (writing 5 7).nvc.takes .config = true ∧ failing.nvc.takes .items = false
      ∧ topNotice announced.sli.counts = some .holdEntered ∧ noticeTableOk announced.sli.counts
      ∧ live.attention = false :=
  ⟨stores_idle _ (by unfold queueOk; decide +kernel) (by decide +kernel), by unfold noticeTableOk; decide +kernel⟩

/-- A full store queue, with pending copies in entries of both owners. -/
def crowdedEdit : State :=
  { crowded with env := { (underLine beforeEdit).env with
      entries := (underLine beforeEdit).env.entries.modify 7 fun e => { e with pending := some wall } } }

theorem test_witness_PoseFramePutsEditsInForce :
    storesOk (underLine beforeEdit) ∧ storesOk crowdedEdit
      ∧ live.supply = true
      ∧ ({ ZoneEntry.start emptyZone with pending := some powerLine } : ZoneEntry).pending = some powerLine
      ∧ (ZoneEntry.start emptyZone).pending = none
      ∧ beforeEdit.pending.isSome = true ∧ beforeEdit.suspension.isSome = true ∧ beforeEdit.recorded ≠ .clear
      ∧ (underLine beforeEdit).supply = true
      ∧ ((underLine beforeEdit).env.entries.take 8).any (fun e => e.pending.isSome) = false
      ∧ ((underLine beforeEdit).env.entries.drop 8).any (fun e => e.pending.isSome) = true
      ∧ (crowdedEdit.env.entries.take 8).any (fun e => e.pending.isSome) = true
      ∧ crowdedEdit.nvc.queued .zonesOper = false ∧ ¬crowdedEdit.nvc.queue.length < 4 := by
  exact ⟨stores_idle _ (by unfold queueOk; decide +kernel) (by decide +kernel),
    stores_writing .items live _ stores_crowded.1 rfl rfl rfl (by decide +kernel), by decide +kernel⟩

theorem test_witness_EpcTakesPcuAndGovernorEvents :
    live.supply = true ∧ min 4000 4001 = 4000 ∧ min 4000 3999 = 3999 := by decide +kernel

theorem test_witness_PlanIntervalFiltersAndDemands :
    live.supply = true ∧ live.epc.pcu ≠ .fresh ∧ (twin 4800 599 450).epc.pcu = .fresh
      ∧ (let s : State := { twin 4800 599 450 with epc := { (twin 4800 599 450).epc with
            autoIdle := true, neutral := true, neutralCount := (twin 0 0 0).settings.epc.idleDelay - 1 } }
        s.epc.idle = false ∧ (after .planIntervalExpiry s).epc.idle = true
          ∧ (after .planIntervalExpiry s).epc.neutralCount = s.settings.epc.idleDelay)
      ∧ (twin 4800 599 450).epc.hold = false ∧ (twin 4800 599 450).epc.plan = .twin
      ∧ (planned .cooldown false 2 32000).epc.plan ≠ .twin
      ∧ (after .epcHoldEntry (twin 0 0 450)).epc.hold = true := by decide +kernel

/-- A part in HOLD whose plan interval is waiting. -/
def heldLow : State := waiting .planIntervalExpiry (after .epcHoldEntry (twin 0 0 450))

theorem test_witness_ConsequencesAndHoldReachThePlan :
    heldLowOk heldLow ∧ heldLow.epc.hold = true ∧ (∃ t, step heldLow = .next t)
      ∧ live.supply = true
      ∧ ({ excludeE1 := true, excludeE2 := true, capEconomy := false } : Consequences).excludeE2 = true
      ∧ ({ excludeE1 := true, excludeE2 := false, capEconomy := false } : Consequences).capEconomy = false
      ∧ Engine.e2 ≠ .e1 ∧ live.epc.keyOff = false
      ∧ (let p (s : State) := { s.epc with e1 := { s.epc.e1 with excluded := true } }
        ((p (planned .cooldown false 1 0)).avail .e1 = .excluded ∧ (planned .cooldown false 1 0).epc.avail .e1 ≠ .excluded
          ∧ (planned .cooldown false 1 0).epc.lead = some .e1)
        ∧ ((p (single .single none false 0 0 0)).avail .e2 = .available ∧ (single .single none false 0 0 0).epc.hold = false)
        ∧ ((p (single .starting (some .e2) false 9 0 0)).starting = some .e2
          ∧ (p (single .starting (some .e2) false 9 0 0)).lead = some .e1)) := by
  refine ⟨?_, by decide +kernel, ⟨_, rfl⟩, by decide +kernel⟩
  intro _
  refine ⟨by decide +kernel, ?_⟩
  intro e; cases e <;> decide +kernel

end Sys2Proof.Tests
end

/-! ## The sensor ring: reply words and the slot table (O19) -/

section
namespace Sys2Proof.Machine

open Sys2Proof

/-! ### The conversion of a reply word -/

/-- Step 3 of R6: the subtraction of the zero point is modulo 65,536. -/
theorem toNat_ofNat_sub_angle (n : Nat) (zero : Angle) :
    (BitVec.ofNat 16 n - zero).toNat = (n % 65536 + 65536 - zero.toNat) % 65536 := by
  have hzero : zero.toNat < 65536 := zero.isLt
  rw [BitVec.toNat_sub, BitVec.toNat_ofNat]
  omega

/-- R6: the raw field scaled, less the zero point, and negated where the direction is −1, all modulo 65,536. -/
theorem SlotCfg.toNat_convert (c : SlotCfg) (w : BitVec 32) :
    (c.convert w).toNat =
      if c.negate then (65536 - (c.scaled (c.rawField w) % 65536 + 65536 - c.zero.toNat) % 65536) % 65536
      else (c.scaled (c.rawField w) % 65536 + 65536 - c.zero.toNat) % 65536 := by
  unfold SlotCfg.convert
  cases c.negate with
  | false => exact toNat_ofNat_sub_angle _ _
  | true => rw [if_pos rfl, if_pos rfl, BitVec.toNat_neg, toNat_ofNat_sub_angle]

/-! ### The class of a reply -/

theorem SlotCfg.allOnes_iff (c : SlotCfg) (w : BitVec 32) :
    c.allOnes w = true ↔ w.toNat = 2 ^ c.wordSize - 1 := beq_iff_eq

theorem SlotCfg.classify_eq_missing_iff (c : SlotCfg) (w : BitVec 32) :
    c.classify w = some .missing ↔ w.toNat = 2 ^ c.wordSize - 1 ∨ w.getLsbD c.okPos = false := by
  rw [← c.allOnes_iff w]
  unfold SlotCfg.classify
  split
  next hsilent => simpa using hsilent
  next hspoken =>
    dsimp only
    split <;> simpa using hspoken

/-- R7: only a reply that is not MISSING is held against the plausible range. -/
theorem SlotCfg.classify_of_ne_missing {c : SlotCfg} {w : BitVec 32} (h : c.classify w ≠ some .missing) :
    c.classify w =
      if (c.convert w).toInt < c.pmin ∨ c.pmax < (c.convert w).toInt then some .outOfRange else none := by
  unfold SlotCfg.classify at h ⊢
  split at h
  · exact absurd rfl h
  next hspoken => rw [if_neg hspoken]

theorem SlotCfg.classify_eq_outOfRange_iff (c : SlotCfg) (w : BitVec 32) :
    c.classify w = some .outOfRange ↔
      c.classify w ≠ some .missing ∧ ((c.convert w).toInt < c.pmin ∨ c.pmax < (c.convert w).toInt) := by
  by_cases hmissing : c.classify w = some .missing
  · simp [hmissing]
  · rw [SlotCfg.classify_of_ne_missing hmissing]
    by_cases hrange : (c.convert w).toInt < c.pmin ∨ c.pmax < (c.convert w).toInt
    · rw [if_pos hrange]
      simpa using hrange
    · rw [if_neg hrange]
      simpa using hrange

/-! ### A slot at the close of a poll -/

/-- R8: a good reply makes its slot FRESH and lowers both fault flags. -/
theorem SlotRun.closed_of_good {c : SlotCfg} {w : BitVec 32} (hold : Nat) (r : SlotRun)
    (h : c.classify w = none) :
    r.closed hold c w =
      { r with held := c.convert w, age := 0, state := .fresh, missing := false, range := false } := by
  simp only [SlotRun.closed, h]

/-- The held age, one on and stopping just past its limit, is past the limit when it had reached it. -/
theorem lt_nextAge_iff (hold age : Nat) : hold < min (hold + 1) (age + 1) ↔ hold ≤ age := by omega

/-- R9 and R15: a reply that is not good leaves the held value, ages the slot, and once the age passes the limit makes
it INVALID and raises the flag of the reply's class. -/
theorem SlotRun.closed_of_bad {c : SlotCfg} {w : BitVec 32} {why : Reason} (hold : Nat) (r : SlotRun)
    (h : c.classify w = some why) :
    r.closed hold c w =
      { r with
        age := min (hold + 1) (r.age + 1)
        state := if r.age < hold then .held else .invalid
        reason := some why
        missing := r.missing || (decide (hold ≤ r.age) && why == .missing)
        range := r.range || (decide (hold ≤ r.age) && why == .outOfRange) } := by
  simp only [SlotRun.closed, h, lt_nextAge_iff, decide_eq_true_eq, ← Nat.not_lt, ite_not]

/-- Settles O19: the conversion, the classes and the two closes of a slot, each by its own lemma. -/
theorem repliesAreConvertedAndHeld : Obligations.RepliesAreConvertedAndHeld := by
  intro c w hold r
  refine ⟨c.toNat_convert w, c.classify_eq_missing_iff w, c.classify_eq_outOfRange_iff w, ?good, ?bad⟩
  case good =>
    intro hgood
    simp [SlotRun.closed_of_good hold r hgood]
  case bad =>
    intro why hbad
    simp [SlotRun.closed_of_bad hold r hbad]

end Sys2Proof.Machine
end

/-! ## Geometry: the folding of the sine (O20) -/

section
namespace Sys2Proof.Machine

open Sys2Proof

/-! ### The quarter wave -/

/-- The magnitude of R21 at a position of the first quarter turn: the table, interpolated. -/
def quarterSine (pos : Nat) : Nat :=
  let t := fun i => sineTable.getD i 0
  if pos % 64 = 0 then t (pos / 64)
  else t (pos / 64) + ((t (pos / 64 + 1) - t (pos / 64)) * (pos % 64) + 32) / 64

theorem sineTable_getD_le (i : Nat) : sineTable.getD i 0 ≤ 32767 := by
  have hentries : ∀ x ∈ sineTable, x ≤ 32767 := by decide +kernel
  rw [List.getD_eq_getElem?_getD]
  cases hentry : sineTable[i]? with
  | none => exact Nat.zero_le _
  | some x => exact hentries x (List.mem_of_getElem? hentry)

/-- A fraction below one of a step, rounded to the nearest integer, is no more than the step. -/
theorem roundedFraction_le {d f : Nat} (hf : f < 64) : (d * f + 32) / 64 ≤ d := by
  have hstep : d * f ≤ d * 63 := Nat.mul_le_mul_left d (by omega)
  omega

theorem quarterSine_le (pos : Nat) : quarterSine pos ≤ 32767 := by
  have hentry := sineTable_getD_le (pos / 64)
  have hnext := sineTable_getD_le (pos / 64 + 1)
  have hrise := roundedFraction_le (d := sineTable.getD (pos / 64 + 1) 0 - sineTable.getD (pos / 64) 0)
    (Nat.mod_lt pos (by decide : 0 < 64))
  unfold quarterSine
  dsimp only
  split <;> omega

/-! ### The half wave -/

/-- The sine over the first half turn: the quarter wave and its mirror image. -/
def halfSine (h : Nat) : Nat := quarterSine (min h (32768 - h))

theorem halfSine_le (h : Nat) : halfSine h ≤ 32767 := quarterSine_le _

theorem halfSine_mirror {h : Nat} (hh : h ≤ 32768) : halfSine (32768 - h) = halfSine h := by
  unfold halfSine
  congr 1
  omega

theorem sine_eq_quarterSine (a : Angle) :
    sine a =
      let pos := if a.toNat / 16384 = 1 ∨ a.toNat / 16384 = 3 then 16384 - a.toNat % 16384 else a.toNat % 16384
      if a.toNat / 16384 = 2 ∨ a.toNat / 16384 = 3 then -(quarterSine pos : Int) else quarterSine pos := rfl

/-- R21: the first half turn is the half wave, the second its negation. -/
theorem sine_eq_halfSine (a : Angle) :
    sine a = if a.toNat < 32768 then (halfSine (a.toNat % 32768) : Int) else -(halfSine (a.toNat % 32768) : Int) := by
  have ha : a.toNat < 65536 := a.isLt
  have hpos : (if a.toNat / 16384 = 1 ∨ a.toNat / 16384 = 3 then 16384 - a.toNat % 16384 else a.toNat % 16384)
      = min (a.toNat % 32768) (32768 - a.toNat % 32768) := by
    split <;> omega
  rw [sine_eq_quarterSine, hpos]
  by_cases hhalf : a.toNat < 32768
  · rw [if_pos hhalf]
    exact if_neg (by omega)
  · rw [if_neg hhalf]
    exact if_pos (by omega)

theorem sine_of_le {a : Angle} (h : a.toNat ≤ 32768) : sine a = halfSine a.toNat := by
  rw [sine_eq_halfSine]
  obtain hlt | heq := Nat.lt_or_eq_of_le h
  · rw [if_pos hlt, Nat.mod_eq_of_lt hlt]
  · rw [heq]
    rfl

theorem sine_of_ge {a : Angle} (h : 32768 ≤ a.toNat) : sine a = -(halfSine (a.toNat - 32768) : Int) := by
  have hmod : a.toNat % 32768 = a.toNat - 32768 := by omega
  rw [sine_eq_halfSine, if_neg (by omega), hmod]

/-! ### Symmetry and range -/

theorem sine_supplement (a : Angle) : sine (32768 - a) = sine a := by
  have ha : a.toNat < 65536 := a.isLt
  obtain hle | hgt := le_or_gt a.toNat 32768
  · have hval : (32768 - a : Angle).toNat = 32768 - a.toNat := by bv_omega
    rw [sine_of_le hle, sine_of_le (by omega), hval, halfSine_mirror hle]
  · have hval : (32768 - a : Angle).toNat - 32768 = 32768 - (a.toNat - 32768) := by bv_omega
    have hlower : 32768 ≤ (32768 - a : Angle).toNat := by bv_omega
    rw [sine_of_ge hgt.le, sine_of_ge hlower, hval, halfSine_mirror (by omega)]

/-- R22 for the first half turn, its ends included. -/
theorem sine_neg_of_le {a : Angle} (h : a.toNat ≤ 32768) : sine (-a) = -sine a := by
  obtain hzero | hpos := Nat.eq_zero_or_pos a.toNat
  · have ha : a = 0 := BitVec.eq_of_toNat_eq hzero
    subst ha
    rfl
  · have hval : (-a).toNat - 32768 = 32768 - a.toNat := by bv_omega
    have hlower : 32768 ≤ (-a).toNat := by bv_omega
    rw [sine_of_ge hlower, sine_of_le h, hval, halfSine_mirror h]

theorem sine_neg (a : Angle) : sine (-a) = -sine a := by
  obtain hle | hgt := le_or_gt a.toNat 32768
  · exact sine_neg_of_le hle
  · have hupper : (-a).toNat ≤ 32768 := by bv_omega
    have hback := sine_neg_of_le hupper
    rw [BitVec.neg_neg] at hback
    omega

theorem sine_bounds (a : Angle) : -32767 ≤ sine a ∧ sine a ≤ 32767 := by
  have hmagnitude := halfSine_le (a.toNat % 32768)
  rw [sine_eq_halfSine]
  split <;> omega

/-- Settles O20: the sine is a mirrored half wave and its negation, so the two symmetries are those of the half wave. -/
theorem sineAndCosineAreSymmetric : Obligations.SineAndCosineAreSymmetric := by
  intro a
  obtain ⟨hsineLow, hsineHigh⟩ := sine_bounds a
  obtain ⟨hcosineLow, hcosineHigh⟩ := sine_bounds (a + 16384)
  exact ⟨rfl, sine_supplement a, sine_neg a, hsineLow, hsineHigh, hcosineLow, hcosineHigh⟩

end Sys2Proof.Machine
end

/-! ## Geometry: the pose record of a pose frame (O21) -/

section
namespace Sys2Proof.Machine

open Sys2Proof

/-! ### The record -/

/-- Between bounds in order, the clamp of 00, "Arithmetic", moves a value to the nearer bound. -/
theorem clamp_eq_max_min {lo hi : Int} (x : Int) (h : lo ≤ hi) : clamp x lo hi = max lo (min x hi) := by
  unfold clamp
  split
  · omega
  · split <;> omega

/-! R25: the mark names the ones of two values that differ from what they were. -/

section
variable (x a y b : Int)

theorem limitedMark_eq_no_iff :
    limitedMark (decide (x ≠ a)) (decide (y ≠ b)) = .no ↔ x = a ∧ y = b := by
  by_cases hx : x = a <;> by_cases hy : y = b <;> simp [limitedMark, hx, hy]

theorem limitedMark_eq_reach_iff :
    limitedMark (decide (x ≠ a)) (decide (y ≠ b)) = .reach ↔ x ≠ a ∧ y = b := by
  by_cases hx : x = a <;> by_cases hy : y = b <;> simp [limitedMark, hx, hy]

theorem limitedMark_eq_height_iff :
    limitedMark (decide (x ≠ a)) (decide (y ≠ b)) = .height ↔ x = a ∧ y ≠ b := by
  by_cases hx : x = a <;> by_cases hy : y = b <;> simp [limitedMark, hx, hy]

theorem limitedMark_eq_both_iff :
    limitedMark (decide (x ≠ a)) (decide (y ≠ b)) = .both ↔ x ≠ a ∧ y ≠ b := by
  by_cases hx : x = a <;> by_cases hy : y = b <;> simp [limitedMark, hx, hy]

end

/-- R28: without two valid poses in a row there is no slew change to use. -/
theorem usableChange_eq_none {prev : Option PrevPose} {p : PoseFrame}
    (h : p.valid = false ∨ prev = none ∨ ∃ q, prev = some q ∧ q.valid = false) : usableChange prev p = none := by
  unfold usableChange
  cases prev with
  | none => rfl
  | some q =>
    obtain hp | hnone | ⟨q', heq, hq⟩ := h
    · simp [hp]
    · cases hnone
    · cases heq
      simp [hq]

/-- R27: two valid poses in a row give the slew change between them. -/
theorem usableChange_of_valid {q : PrevPose} {p : PoseFrame} (hp : p.valid = true) (hq : q.valid = true) :
    usableChange (some q) p = some (slewChange p.slew.value q.slew) := by
  simp [usableChange, hp, hq]

@[simp] theorem poseRecordOf_pose (c : GeuCfg) (prev : Option PrevPose) (p : PoseFrame) :
    (poseRecordOf c prev p).pose = p := rfl

section
variable {c : GeuCfg} {prev : Option PrevPose} {p : PoseFrame}

/-- R28, R29: the rate, the rate-unknown mark and the increment of a record without a usable slew change. -/
theorem poseRecordOf_slew_of_none (h : usableChange prev p = none) :
    (poseRecordOf c prev p).rate = 0 ∧ (poseRecordOf c prev p).rateUnknown = true
      ∧ (poseRecordOf c prev p).slewInc = none := by
  simp [poseRecordOf, h]

/-- R28, R29: the same of a record with a usable slew change. -/
theorem poseRecordOf_slew_of_some {d : Int} (h : usableChange prev p = some d) :
    (poseRecordOf c prev p).rate = slewRate d p.periods ∧ (poseRecordOf c prev p).rateUnknown = false
      ∧ (poseRecordOf c prev p).slewInc = some d.natAbs := by
  simp [poseRecordOf, h]

end

/-! ### The deliveries -/

/-- The report of GEOMETRY_RANGE about a record, raising or clearing it (R26). -/
def rangeReport (r : PoseRecord) (clearing : Bool) : FaultReport :=
  { code := .geometryRange, clearing := clearing, detail := limitedCode r.limited, frame := some r.pose.frame }

/-- The reports of a GEOMETRY_RANGE flag that was `before` and is `after` (R26). -/
def rangeReports (r : PoseRecord) : (before after : Bool) → List Instr
  | false, true => [.faultReport (rangeReport r false)]
  | true, false => [.faultReport (rangeReport r true)]
  | _, _ => []

theorem State.reportRange_eq (r : PoseRecord) (before after : Bool) (s : State) :
    s.reportRange r before after = { s with inFlight := s.inFlight ++ rangeReports r before after } := by
  cases before <;> cases after
  case false.true | true.false => rfl
  case false.false | true.true => simp [State.reportRange, rangeReports]

theorem rangeReports_self (r : PoseRecord) (flag : Bool) : rangeReports r flag flag = [] := by
  cases flag <;> rfl

/-- The detail of a GEOMETRY_RANGE that is raised: 1 REACH, 2 HEIGHT, 3 BOTH (R26). -/
theorem limitedCode_of_ne_no {l : Limited} (h : l ≠ .no) :
    limitedCode l = if l = .reach then 1 else if l = .height then 2 else 3 := by
  cases l with
  | no => exact absurd rfl h
  | reach | height | both => rfl

/-- What a pose record gives its owners: the record to four blocks, and its slew increment to the SMU (R29, R30). -/
def recordDeliveries (r : PoseRecord) : List Instr :=
  [.cytPoseRecord r, .gguPoseRecord r, .envPoseRecord r, .levPoseRecord r]
    ++ r.slewInc.toList.map .slewIncrement

theorem State.deliverRecord_eq (r : PoseRecord) (s : State) :
    s.deliverRecord r = { s with inFlight := s.inFlight ++ recordDeliveries r } := by
  unfold State.deliverRecord recordDeliveries
  cases r.slewInc <;> simp [State.deliver]

theorem faultReport_not_mem_recordDeliveries (f : FaultReport) (r : PoseRecord) :
    .faultReport f ∉ recordDeliveries r := by
  simp [recordDeliveries]

theorem slewIncrement_mem_recordDeliveries {r : PoseRecord} {n : Nat} (h : r.slewInc = some n) :
    .slewIncrement n ∈ recordDeliveries r := by
  simp [recordDeliveries, h]

/-! ### The pose frame at the GEU -/

/-- The record that a pose frame gives in a state. -/
abbrev State.poseRecord (p : PoseFrame) (s : State) : PoseRecord := poseRecordOf s.settings.geu s.geu.prev p

/-- The part after the GEU has taken a pose frame. -/
def State.posed (p : PoseFrame) (s : State) : State :=
  { s with
    geu := s.geu.after (s.poseRecord p)
    inFlight := s.inFlight.erase (.geuPoseFrame p)
      ++ rangeReports (s.poseRecord p) s.geu.rangeFlag (rangeFlagAfter s.geu.rangeFlag (s.poseRecord p))
      ++ recordDeliveries (s.poseRecord p) }

theorem exec_geuPoseFrame (p : PoseFrame) {s : State} (h : s.supply = true) :
    exec (.geuPoseFrame p) s = .next (s.posed p) := by
  have hexec : exec (.geuPoseFrame p) s = onDelivery (.geuPoseFrame p) (State.geuFrame p) s := rfl
  rw [hexec, onDelivery_on _ _ _ h]
  unfold State.geuFrame
  dsimp only
  rw [State.deliverRecord_eq, State.reportRange_eq]
  rfl

theorem State.mem_posed_of_mem_recordDeliveries {c : Instr} {p : PoseFrame} {s : State}
    (h : c ∈ recordDeliveries (s.poseRecord p)) : c ∈ (s.posed p).inFlight :=
  List.mem_append_right _ h

theorem State.mem_posed_of_mem_rangeReports {c : Instr} {p : PoseFrame} {s : State}
    (h : c ∈ rangeReports (s.poseRecord p) s.geu.rangeFlag (rangeFlagAfter s.geu.rangeFlag (s.poseRecord p))) :
    c ∈ (s.posed p).inFlight :=
  List.mem_append_left _ (List.mem_append_right _ h)

theorem rangeFlagAfter_eq (flag : Bool) (r : PoseRecord) :
    rangeFlagAfter flag r = if r.pose.valid then decide (r.limited ≠ .no) else flag := by
  unfold rangeFlagAfter
  cases r.limited <;> rfl

/-- R26: a valid record moved to a bound raises the fault that was not raised. -/
theorem State.rangeReport_raised {p : PoseFrame} {s : State} (hp : p.valid = true)
    (hlimited : (s.poseRecord p).limited ≠ .no) (hflag : s.geu.rangeFlag = false) :
    .faultReport (rangeReport (s.poseRecord p) false) ∈ (s.posed p).inFlight := by
  apply State.mem_posed_of_mem_rangeReports
  simp [rangeFlagAfter_eq, hp, hlimited, hflag, rangeReports]

/-- R26: a valid record within the bounds clears the fault that was raised. -/
theorem State.rangeReport_cleared {p : PoseFrame} {s : State} (hp : p.valid = true)
    (hlimited : (s.poseRecord p).limited = .no) (hflag : s.geu.rangeFlag = true) :
    .faultReport (rangeReport (s.poseRecord p) true) ∈ (s.posed p).inFlight := by
  apply State.mem_posed_of_mem_rangeReports
  simp [rangeFlagAfter_eq, hp, hlimited, hflag, rangeReports]

/-- R26: the flag stands after an invalid record, and after one that agrees with it. -/
theorem rangeFlagAfter_eq_self {flag : Bool} {r : PoseRecord}
    (h : r.pose.valid = false ∨ (flag = true ↔ r.limited ≠ .no)) : rangeFlagAfter flag r = flag := by
  rw [rangeFlagAfter_eq]
  cases hvalid : r.pose.valid with
  | false => rfl
  | true =>
    have hagree := h.resolve_left (by simp [hvalid])
    simp [← hagree]

/-- R26: while the flag stands, a pose frame puts no fault report in flight. -/
theorem State.faultReport_of_mem_posed {p : PoseFrame} {s : State} {f : FaultReport}
    (h : p.valid = false ∨ (s.geu.rangeFlag = true ↔ (s.poseRecord p).limited ≠ .no))
    (hmem : .faultReport f ∈ (s.posed p).inFlight) : .faultReport f ∈ s.inFlight := by
  unfold State.posed at hmem
  rw [rangeFlagAfter_eq_self (r := s.poseRecord p) h, rangeReports_self, List.append_nil] at hmem
  obtain hold | hnew := List.mem_append.1 hmem
  · exact List.mem_of_mem_erase hold
  · exact absurd hnew (faultReport_not_mem_recordDeliveries f _)

/-- Settles O21: the next state is `State.posed`, and the record that of `poseRecordOf`. -/
theorem poseFrameGivesAPoseRecord : Obligations.PoseFrameGivesAPoseRecord := by
  intro p s hsupply hreach hheight
  refine ⟨s.posed p, s.poseRecord p, _, _, exec_geuPoseFrame p hsupply, rfl, rfl, rfl, rfl, rfl, rfl, rfl,
    clamp_eq_max_min _ hreach, clamp_eq_max_min _ hheight,
    limitedMark_eq_no_iff _ _ _ _, limitedMark_eq_reach_iff _ _ _ _, limitedMark_eq_height_iff _ _ _ _,
    limitedMark_eq_both_iff _ _ _ _, rangeFlagAfter_eq _ _, ?raised, ?cleared,
    fun h _ => State.faultReport_of_mem_posed h,
    fun h => poseRecordOf_slew_of_none (usableChange_eq_none h), ?slew, rfl, rfl, ?record,
    fun _ h => State.mem_posed_of_mem_recordDeliveries (slewIncrement_mem_recordDeliveries h)⟩
  case raised =>
    intro hvalid hlimited hflag
    have hmem := State.rangeReport_raised hvalid hlimited hflag
    rw [rangeReport, limitedCode_of_ne_no hlimited] at hmem
    simpa using hmem
  case cleared => exact fun hvalid hlimited hflag => ⟨_, State.rangeReport_cleared hvalid hlimited hflag⟩
  case slew =>
    intro q hvalid hprev hq
    exact poseRecordOf_slew_of_some (by rw [hprev, usableChange_of_valid hvalid hq]; rfl)
  case record =>
    exact fun _ h => State.mem_posed_of_mem_recordDeliveries (List.mem_append_left _ h)

end Sys2Proof.Machine
end

/-! ## Slew limiting: a slew angle against a sector (O34) -/

section
namespace Sys2Proof.Machine

open Sys2Proof

/-! ### The way round the circle from one angle to another -/

/-- The subtraction of R93 modulo 65,536, on the numbers the angles stand for. -/
theorem toNat_sub_angle (a b : Angle) : (a - b).toNat = (65536 + a.toNat - b.toNat) % 65536 := by
  have hb : b.toNat < 65536 := b.isLt
  rw [BitVec.toNat_sub]
  omega

theorem toNat_sub_angle_pos {a b : Angle} (h : a ≠ b) : 1 ≤ (a - b).toNat :=
  Nat.pos_of_ne_zero fun hzero => h (sub_eq_zero.1 (BitVec.eq_of_toNat_eq hzero))

/-- An angle met on the way from s to e splits that way in two. -/
theorem toNat_sub_angle_add {psi s e : Angle} (h : (psi - s).toNat ≤ (e - s).toNat) :
    (e - psi).toNat + (psi - s).toNat = (e - s).toNat := by
  have hsplit : e - psi = (e - s) - (psi - s) := (sub_sub_sub_cancel_right e psi s).symm
  rw [hsplit, BitVec.toNat_sub_of_le (BitVec.le_def.2 h), Nat.sub_add_cancel h]

/-! ### Inside and outside -/

theorem inSector_iff (psi s e : Angle) : inSector psi s e = true ↔ (psi - s).toNat ≤ (e - s).toNat ∨ s = e := by
  simp only [inSector, Bool.or_eq_true, decide_eq_true_eq, beq_iff_eq]

/-- Both edges of a sector belong to it, so an angle outside differs from each. -/
theorem ne_edges_of_outside {psi s e : Angle} (h : inSector psi s e = false) : s ≠ psi ∧ psi ≠ e := by
  have hout : ¬((psi - s).toNat ≤ (e - s).toNat ∨ s = e) := by rw [← inSector_iff, h]; exact Bool.false_ne_true
  constructor
  · rintro rfl
    exact hout (.inl (by simp))
  · rintro rfl
    exact hout (.inl le_rfl)

/-- R93: the two depths of an angle inside a sector with edges add up to the sector's width. -/
theorem leftDepth_add_rightDepth {psi s e : Angle} (hin : inSector psi s e = true) (hse : s ≠ e) :
    leftDepth psi e + rightDepth psi s = (e - s).toNat :=
  toNat_sub_angle_add (((inSector_iff psi s e).1 hin).resolve_right hse)

/-- Settles O34: distances and depths are ways round the circle, the distances not 0 as both edges lie inside. -/
theorem sectorsArePlacedModularly : Obligations.SectorsArePlacedModularly := by
  intro psi s e
  refine ⟨inSector_iff psi s e, fun hout => ?outside, fun hin hse => ?inside⟩
  case outside =>
    obtain ⟨hs, he⟩ := ne_edges_of_outside hout
    exact ⟨toNat_sub_angle s psi, toNat_sub_angle psi e,
      toNat_sub_angle_pos hs, Nat.le_of_lt_succ (s - psi).isLt,
      toNat_sub_angle_pos he, Nat.le_of_lt_succ (psi - e).isLt⟩
  case inside =>
    exact ⟨toNat_sub_angle psi s, toNat_sub_angle e psi,
      (leftDepth_add_rightDepth hin hse).trans (toNat_sub_angle e s)⟩

end Sys2Proof.Machine
end

/-! ## Service meters: the travel flag of the SMU (O47) -/

section
namespace Sys2Proof.Machine

open Sys2Proof

/-! ### Shared operations leave the travel flag alone

R135 names the only writers of the flag, so every operation that a start is made of keeps it. -/

section
variable (s : State)

@[simp] theorem State.settle_smu : s.settle.smu = s.smu := by rw [State.settle_frame]

@[simp] theorem State.epcEvent_smu (f : Epc → Epc) : (s.epcEvent f).smu = s.smu := by rw [State.epcEvent_frame]

@[simp] theorem State.recordFault_smu (r : FaultReport) (second : Bool) : (s.recordFault r second).smu = s.smu := rfl

@[simp] theorem State.requestStore_travel (r : RecordId) (head service : Bool) :
    (s.requestStore r head service).smu.travel = s.smu.travel := by rw [State.requestStore_smu]

@[simp] theorem State.ownRequest_travel (r : RecordId) (head : Bool) :
    (s.ownRequest r head).smu.travel = s.smu.travel := by
  unfold State.ownRequest
  split
  · exact s.requestStore_travel r head false
  · rfl

/-! ### Fault reports and KEY-off -/

theorem State.enterHold_travel (r : FaultReport) : (s.enterHold r).smu.travel = s.smu.travel := by
  simp [State.enterHold]

theorem State.escalate_travel (r : FaultReport) : (s.escalate r).smu.travel = s.smu.travel := by
  unfold State.escalate
  dsimp only
  split
  · rw [State.requestStore_travel, State.recordFault_smu]
  · rfl

theorem State.recoverable_smu (r : FaultReport) : (s.recoverable r).smu = s.smu := by
  unfold State.recoverable
  dsimp only
  split
  · rfl
  · split <;> rfl

@[simp] theorem State.takeFault_travel (r : FaultReport) : (s.takeFault r).smu.travel = s.smu.travel := by
  unfold State.takeFault
  split
  case h_1 => rw [State.recordFault_smu]
  case h_2 => rw [State.recoverable_smu]
  case h_3 =>
    split
    · exact s.enterHold_travel r
    · exact s.escalate_travel r

theorem State.requestKeyOff_travel (r : RecordId) : (s.requestKeyOff r).smu.travel = s.smu.travel := by
  unfold State.requestKeyOff
  split
  · exact s.ownRequest_travel r false
  · rfl

/-- Of KEY-off the EPC takes its event (R130), and the list of R170 is requested record by record. -/
theorem State.keyOffTaken_travel : s.keyOffTaken.smu.travel = s.smu.travel := by
  unfold State.keyOffTaken
  split
  · rw [State.settle_smu]
    refine foldl_keeps (fun t : State => t.smu.travel = s.smu.travel) _ (fun t r ht => ?_) _ _ ?_
    · exact (t.requestKeyOff_travel r).trans ht
    · rw [State.epcEvent_smu]
  · rfl

/-! ### The start -/

theorem State.announceHold_smu : s.announceHold.smu = s.smu := by
  unfold State.announceHold
  split <;> rfl

theorem State.restoreBad_foldl_travel (l : List RecordId) :
    (l.foldl State.restoreBad s).smu.travel = s.smu.travel :=
  foldl_keeps (fun t : State => t.smu.travel = s.smu.travel) _ (fun t _ ht => (t.takeFault_travel _).trans ht) l s rfl

theorem State.configInvalid_travel (detail : Option Nat) : (s.configInvalid detail).smu.travel = s.smu.travel := by
  cases detail with
  | none => rfl
  | some k => exact s.takeFault_travel _

theorem State.keyAtStart_travel : s.keyAtStart.smu.travel = s.smu.travel := by
  unfold State.keyAtStart
  split
  · rfl
  · exact s.keyOffTaken_travel

/-- The SMU starts with the flag clear, and no report or KEY-off taken at the start sets it (R135, R150). -/
theorem State.started_travel (meters : List Nat) : (s.started meters).smu.travel = false := by
  unfold State.started
  dsimp only
  rw [State.keyAtStart_travel, State.settle_smu, State.configInvalid_travel, State.restoreBad_foldl_travel,
    State.announceHold_smu]
  rfl

theorem State.poweredOn_travel : s.poweredOn.smu.travel = false := State.started_travel _ _

end

/-! ### The commands of R135 -/

section
variable (s : State) (on : s.supply = true)
include on

theorem execSmuPumpStatus_on (travel : Bool) :
    execSmuPumpStatus travel s = .next
      { s with inFlight := s.inFlight.erase (.smuPumpStatus travel), smu := { s.smu with travel := travel } } :=
  onDelivery_on (.smuPumpStatus travel) _ s on

theorem execSmuPcuStaleness_on :
    execSmuPcuStaleness s = .next
      { s with inFlight := s.inFlight.erase .smuPcuStaleness, smu := { s.smu with travel := false } } :=
  onDelivery_on .smuPcuStaleness _ s on

theorem execSmuPcuFreshness_on :
    execSmuPcuFreshness s = .next { s with inFlight := s.inFlight.erase .smuPcuFreshness } :=
  onDelivery_on .smuPcuFreshness id s on

/-- A restart that is due is taken as a start with the meters kept (R151, R173). -/
theorem execSupervisorRestart_due (due : s.restartDue = true) :
    execSupervisorRestart s = .next ((s.taken .supervisorRestart).started s.smu.meters) := by
  have due' : (s.taken .supervisorRestart).restartDue = true := due
  rw [execSupervisorRestart, onDelivery_on _ _ _ on, if_pos due', State.taken_smu]

end

/-- Settles O47: the three deliveries are taken at the SMU, and a power-on and a due restart both end in a start. -/
theorem travelFlagFollowsThePcu : Obligations.TravelFlagFollowsThePcu := by
  intro travel s on
  refine ⟨?pumpStatus, ?staleness, ?freshness, ?powerOn, ?restart⟩
  case pumpStatus => exact execSmuPumpStatus_on s on travel
  case staleness => exact execSmuPcuStaleness_on s on
  case freshness => exact execSmuPcuFreshness_on s on
  case powerOn => exact fun u _ => ⟨u.poweredOn, rfl, u.poweredOn_travel⟩
  case restart => exact fun due => ⟨_, execSupervisorRestart_due s on due, State.started_travel _ _⟩

end Sys2Proof.Machine
end

/-! ## Footprints: which components of the part a command changes -/

section
namespace Sys2Proof.Machine

open Sys2Proof

/-! ### The notice tables (R181, R195) -/

theorem noticeTableOk.raised {l : List Nat} (h : noticeTableOk l) (k : NoticeKind) : noticeTableOk
    (noticeRaised l k) := by
  obtain ⟨hlen, hle⟩ := h
  exact ⟨by simpa using hlen, noticeRaised_le l k hle⟩

theorem noticeTableOk.taken {l : List Nat} (h : noticeTableOk l) (k : NoticeKind) : noticeTableOk
    (noticeTaken l k) := by
  obtain ⟨hlen, hle⟩ := h
  exact ⟨by simpa using hlen, noticeTaken_le l k hle⟩

theorem noticeTableOk.countsAfter {l : List Nat} (h : noticeTableOk l) (ks : List NoticeKind) :
    noticeTableOk (countsAfter ks l) := foldl_keeps noticeTableOk _ (fun _ k hx => hx.raised k) ks l h

/-- The promise of the notice tables and the result places, for port A alone. -/
def PortA.noticesOk (p : PortA) : Prop := noticeTableOk p.counts ∧ p.results.length ≤ 4

theorem noticesOk_iff (s : State) : noticesOk s ↔ s.portA.noticesOk ∧ noticeTableOk s.sli.counts := by
  simp only [noticesOk, PortA.noticesOk]
  tauto

theorem PortA.noticesOk.raised {p : PortA} (h : p.noticesOk) (k : NoticeKind) : (p.raised k).noticesOk := by
  obtain ⟨hcounts, hplaces⟩ := h
  exact ⟨by rw [PortA.raised_counts]; exact hcounts.raised k, by rwa [PortA.raised_results]⟩

theorem PortA.noticesOk.answered {p : PortA} (h : p.noticesOk) (t : Nat) (r : ResultCode) :
    (p.answered t r).noticesOk := by
  obtain ⟨hcounts, hplaces⟩ := h
  exact ⟨by rwa [PortA.answered_counts], by rwa [PortA.answered_results_length]⟩

theorem PortA.noticesOk.choose {p : PortA} (h : p.noticesOk) : p.choose.noticesOk := by
  rw [PortA.choose_eq]; exact h

theorem PortA.noticesOk.fillNotice {p : PortA} (h : p.noticesOk) : p.fillNotice.noticesOk := by
  rw [PortA.fillNotice_eq]; exact h

/-- Raising notices keeps the promise. -/
theorem noticesOk.of_raised {a b : List NoticeKind} {s t : State} (h : noticesRaised a b s t) (hs : noticesOk s) :
    noticesOk t := by
  obtain ⟨hport, hlink⟩ := h
  rw [noticesOk_iff] at hs ⊢
  rw [hport, hlink]
  exact ⟨foldl_keeps PortA.noticesOk _ (fun _ k hx => hx.raised k) a _ hs.1, hs.2.countsAfter b⟩

theorem State.answerLink_counts (r : ResultCode) (res : Option Byte) (d : Option (BitVec 16)) (k : Byte)
    (data : List Byte) (s : State) : (s.answerLink r res d k data).sli.counts = s.sli.counts := by
  unfold State.answerLink
  split <;> rfl

/-! ### The store queue (R168) -/

theorem atHead_perm (w : Bool) (e : StoreEntry) (l : List StoreEntry) : (atHead w e l).Perm (e :: l) := by
  cases l with
  | nil => exact .refl _
  | cons h t =>
    cases w with
    | false => exact .refl _
    | true => exact List.Perm.swap e h t

theorem map_records {f : StoreEntry → StoreEntry} (hf : ∀ e, (f e).record = e.record) (l : List StoreEntry) :
    (l.map f).map StoreEntry.record = l.map StoreEntry.record := by
  rw [List.map_map]
  exact List.map_congr_left fun e _ => hf e

/-- An entry that absorbs a request for its record stays an entry for it. -/
theorem absorbed_record_of (r : RecordId) (again service : Bool) (e : StoreEntry) :
    (if e.record = r then e.absorbed again service else e).record = e.record := by
  split <;> rfl

/-- A queue with an entry for `r` and the others, in any order, is a queue of four when the others had a place left. -/
theorem queueOk_of_perm {l rest : List StoreEntry} {e : StoreEntry} (hl : l.Perm (e :: rest)) (hroom : rest.length < 4)
    (hnew : ∀ x ∈ rest, x.record ≠ e.record) (hrest : (rest.map StoreEntry.record).Nodup) :
    l.length ≤ 4 ∧ (l.map StoreEntry.record).Nodup := by
  refine ⟨by rw [hl.length_eq]; exact hroom, ((hl.map _).nodup_iff).2 ?_⟩
  rw [List.map_cons, List.nodup_cons]
  refine ⟨fun hmem => ?_, hrest⟩
  obtain ⟨x, hx, hr⟩ := List.mem_map.1 hmem
  exact hnew x hx hr

theorem Nvc.queued_eq_false {r : RecordId} {n : Nvc} (h : n.queue.find? (fun e => decide (e.record = r)) = none) :
    n.queued r = false ∧ ∀ e ∈ n.queue, e.record ≠ r := by
  have hne : ∀ e ∈ n.queue, e.record ≠ r := by simpa using h
  exact ⟨by simpa [Nvc.queued] using hne, hne⟩

/-- R168: a request that is taken leaves at most four entries and never two for one record. -/
theorem Nvc.queueAfter_ok {r : RecordId} {head service : Bool} {n : Nvc} (hq : queueOk n) (ht : n.takes r = true) :
    (n.queueAfter r head service).length ≤ 4 ∧ ((n.queueAfter r head service).map StoreEntry.record).Nodup := by
  obtain ⟨hlen, hnodup⟩ := hq
  have habsorbed : ∀ again : Bool,
      (n.queue.map fun e => if e.record = r then e.absorbed again service else e).length ≤ 4
        ∧ ((n.queue.map fun e => if e.record = r then e.absorbed again service else e).map StoreEntry.record).Nodup :=
    fun again => ⟨by simpa using hlen, by rwa [map_records (absorbed_record_of r again service)]⟩
  unfold Nvc.queueAfter
  split
  · exact habsorbed true
  · split
    case h_1 e hfind =>
      have hrec : e.record = r := by simpa using List.find?_some hfind
      split
      · refine queueOk_of_perm (atHead_perm _ _ _) ?_ ?_ (hnodup.sublist (List.filter_sublist.map _))
        · refine Nat.lt_of_lt_of_le (List.length_filter_lt_length_iff_exists.2
            ⟨e, List.mem_of_find?_eq_some hfind, ?_⟩) hlen
          simp [hrec]
        · intro x hx
          have hxr := (List.mem_filter.1 hx).2
          simpa [hrec] using hxr
      · exact habsorbed false
    case h_2 hfind =>
      obtain ⟨hqueued, hne⟩ := Nvc.queued_eq_false hfind
      have hroom : n.queue.length < 4 := by simpa [Nvc.takes, hqueued] using ht
      dsimp only
      split
      · exact queueOk_of_perm (atHead_perm _ _ _) hroom hne hnodup
      · exact queueOk_of_perm (List.perm_append_singleton _ _) hroom hne hnodup

/-- R168: behind a write in flight a request leaves the entry of that write at the head. -/
theorem Nvc.queueAfter_head {r : RecordId} {head service : Bool} {n : Nvc} {w : NvWrite} (hw : n.write = some w)
    (hhead : n.queue.head?.map StoreEntry.record = some w.record) :
    (n.queueAfter r head service).head?.map StoreEntry.record = some w.record := by
  obtain ⟨e, rest, hqueue⟩ : ∃ e rest, n.queue = e :: rest := by
    cases hq : n.queue with
    | nil => simp [hq] at hhead
    | cons e rest => exact ⟨e, rest, rfl⟩
  have hrec : e.record = w.record := by simpa [hqueue] using hhead
  have habsorbed : ∀ again : Bool, ((n.queue.map
    fun e => if e.record = r then e.absorbed again service else e).head?.map
      StoreEntry.record) = some w.record := fun again => by
    rw [hqueue, List.map_cons, List.head?_cons, Option.map_some, absorbed_record_of, hrec]
  unfold Nvc.queueAfter
  split
  · exact habsorbed true
  next hwriting =>
    have hne : w.record ≠ r := by simpa [Nvc.writing, hw] using hwriting
    split
    · split
      · simp [hqueue, hrec, hne, hw, atHead]
      · exact habsorbed false
    · dsimp only
      split <;> simp [hqueue, hw, atHead, hrec]

theorem Nvc.requested_keeps {r : RecordId} {head service : Bool} {n : Nvc} (hq : queueOk n) (hw : writeOk n) :
    queueOk (n.requested r head service) ∧ writeOk (n.requested r head service) := by
  cases ht : n.takes r with
  | false => rw [Nvc.requested_refused r head service n ht]; exact ⟨hq, hw⟩
  | true =>
    refine ⟨?_, fun w hwrite => ?_⟩
    · rw [queueOk, Nvc.requested_queue r head service n ht]
      exact Nvc.queueAfter_ok hq ht
    · rw [Nvc.requested_frame] at hwrite
      obtain ⟨hhead, hnewer, hchosen⟩ := hw w hwrite
      rw [Nvc.requested_queue r head service n ht, Nvc.requested_frame]
      exact ⟨Nvc.queueAfter_head hwrite hhead, hnewer, hchosen⟩

/-- R165: a write never goes to the newer passing copy. -/
theorem State.newer_ne_writeOf (r : RecordId) (s : State) : (s.nvc.array.pair r).newer r ≠ some (s.writeOf r).toB := by
  unfold State.writeOf
  dsimp only
  split
  next b hnewer => simp [hnewer]
  next hnewer => simp [hnewer]

theorem State.storesOk_beginWrite {s : State} (h : storesOk s) : storesOk s.beginWrite := by
  unfold State.beginWrite
  split
  · split
    next e rest hqueue =>
      refine ⟨h.1, fun w hw => ?_⟩
      obtain rfl : s.writeOf e.record = w := Option.some.inj hw
      refine ⟨by simp [hqueue], ?_, s.writeOf_chosen e.record⟩
      rw [State.writeOf_record]
      exact s.newer_ne_writeOf e.record
    · exact h
  · exact h

theorem State.storesOk_settle {s : State} (h : storesOk s) : storesOk s.settle := by
  have hbegun := State.storesOk_beginWrite h
  have hready : storesOk s.beginWrite.enterReadyOff := by
    unfold State.enterReadyOff
    split <;> exact hbegun
  unfold State.settle State.scheduleRestart
  split <;> exact hready

theorem queueDone_sublist (l : List StoreEntry) :
    ((queueDone l).map StoreEntry.record).Sublist (l.map StoreEntry.record) := by
  cases l with
  | nil => exact .refl _
  | cons e rest =>
    simp only [queueDone]
    split
    · exact .refl _
    · exact List.sublist_cons_self _ _

theorem queueOk.done {n : Nvc} (h : queueOk n) :
    (queueDone n.queue).length ≤ 4 ∧ ((queueDone n.queue).map StoreEntry.record).Nodup := by
  obtain ⟨hlen, hnodup⟩ := h
  have hsub := (queueDone_sublist n.queue).length_le
  simp only [List.length_map] at hsub
  exact ⟨Nat.le_trans hsub hlen, hnodup.sublist (queueDone_sublist n.queue)⟩

/-! ### Aspects and changes -/

/-- What a change may leave alone: a component of the part, one for each field of `State`; the zone entries, the faults
and the meters with their items, which a store request leaves alone where it marks their owner; and the two promises
that
every operation keeps wherever it is used, of the store queue (R168) and of the notice tables (R181). -/
inductive Aspect where
  | supply | settings | spu | geu | cyt | ggu | env | lev | epc | smu | fhu | nvc | portA | portB | sli | lines
  | inFlight | pending | freeCount
  | zones | faults | meters
  | stores | notices
deriving DecidableEq

/-- The aspect of `s` stands in `t`: the component is the same, the promise is kept. -/
def Aspect.stands (s t : State) : Aspect → Prop
  | .supply => t.supply = s.supply
  | .settings => t.settings = s.settings
  | .spu => t.spu = s.spu
  | .geu => t.geu = s.geu
  | .cyt => t.cyt = s.cyt
  | .ggu => t.ggu = s.ggu
  | .env => t.env = s.env
  | .lev => t.lev = s.lev
  | .epc => t.epc = s.epc
  | .smu => t.smu = s.smu
  | .fhu => t.fhu = s.fhu
  | .nvc => t.nvc = s.nvc
  | .portA => t.portA = s.portA
  | .portB => t.portB = s.portB
  | .sli => t.sli = s.sli
  | .lines => t.lines = s.lines
  | .inFlight => t.inFlight = s.inFlight
  | .pending => t.pending = s.pending
  | .freeCount => t.freeCount = s.freeCount
  | .zones => t.env.entries = s.env.entries
  | .faults => { t.fhu with unstored := s.fhu.unstored } = s.fhu
  | .meters => { t.smu with snapDue := s.smu.snapDue, snapCount := s.smu.snapCount } = s.smu
  | .stores => storesOk s → storesOk t
  | .notices => noticesOk s → noticesOk t

theorem Aspect.stands_refl (s : State) (b : Aspect) : b.stands s s := by
  cases b with
  | stores | notices => exact id
  | _ => rfl

theorem Aspect.stands_trans {s t u : State} {b : Aspect} (h : b.stands s t) (k : b.stands t u) : b.stands s u := by
  cases b with
  | stores | notices => exact k ∘ h
  | faults =>
    have hk : { u.fhu with unstored := s.fhu.unstored } = { t.fhu with unstored := s.fhu.unstored } :=
      congrArg (fun f : Fhu => { f with unstored := s.fhu.unstored }) k
    exact hk.trans h
  | meters =>
    have hk : { u.smu with snapDue := s.smu.snapDue, snapCount := s.smu.snapCount }
        = { t.smu with snapDue := s.smu.snapDue, snapCount := s.smu.snapCount } :=
      congrArg (fun m : Smu => { m with snapDue := s.smu.snapDue, snapCount := s.smu.snapCount }) k
    exact hk.trans h
  | _ => exact Eq.trans k h

/-- From `s` to `t` no aspect outside `F` is changed. -/
def changesOnly (F : List Aspect) (s t : State) : Prop := ∀ b, b ∈ F ∨ b.stands s t

theorem changesOnly.refl (F : List Aspect) (s : State) : changesOnly F s s := fun b => .inr (b.stands_refl s)

theorem changesOnly.mono {F G : List Aspect} {s t : State} (h : changesOnly F s t) (hFG : ∀ b ∈ F, b ∈ G) :
    changesOnly G s t := fun b => (h b).imp_left (hFG b)

/-- Changes that follow one another, in one footprint. -/
theorem changesOnly.trans {F : List Aspect} {s t u : State} (h : changesOnly F s t) (k : changesOnly F t u) :
    changesOnly F s u := fun b => by
  obtain hF | hst := h b
  · exact .inl hF
  · exact (k b).imp_right (Aspect.stands_trans hst)

theorem changesOnly.ite {F : List Aspect} {s t u : State} {p : Prop} [Decidable p] (h : changesOnly F s t)
    (k : changesOnly F s u) : changesOnly F s (if p then t else u) := by
  split
  · exact h
  · exact k

theorem changesOnly.foldl {F : List Aspect} {α : Type} {f : State → α → State} (hf : ∀ s x, changesOnly F s (f s x))
    (l : List α) (s : State) : changesOnly F s (l.foldl f s) := by
  induction l generalizing s with
  | nil => exact .refl F s
  | cons x l ih => exact (hf s x).trans (ih (f s x))

theorem changesOnly.repeatN {F : List Aspect} {f : State → State} (hf : ∀ s, changesOnly F s (f s)) (n : Nat)
    (s : State) : changesOnly F s (repeatN f n s) := by
  induction n generalizing s with
  | zero => exact .refl F s
  | succ n ih => exact (hf s).trans (ih (f s))

theorem changesOnly.stands {F : List Aspect} {s t : State} (h : changesOnly F s t) (b : Aspect)
    (hb : b ∉ F) : b.stands s t :=
  (h b).resolve_left hb

/-! ### The shared operations -/

section
variable (s : State)

theorem State.taken_changes (c : Instr) : changesOnly [.inFlight] s (s.taken c) := fun b => by
  cases b <;> simp [Aspect.stands, storesOk, noticesOk]

theorem State.deliver_changes (c : Instr) : changesOnly [.inFlight] s (s.deliver c) := fun b => by
  cases b <;> simp [Aspect.stands, storesOk, noticesOk]

theorem State.deliverIf_changes (p : Bool) (c : Instr) : changesOnly [.inFlight] s (s.deliverIf p c) :=
  .ite (s.deliver_changes c) (.refl _ s)

theorem State.report_changes (code : FaultCode) (d : Int) (m : Option FrameNo) :
    changesOnly [.inFlight] s (s.report code d m) := s.deliver_changes _

theorem State.reportClear_changes (code : FaultCode) (d : Int) (m : Option FrameNo) :
    changesOnly [.inFlight] s (s.reportClear code d m) := s.deliver_changes _

/-- A change of port A alone, which keeps the promise of the notice tables. -/
theorem changesOnly_portA {s : State} {p : PortA} (h : s.portA.noticesOk → p.noticesOk) :
    changesOnly [.portA] s { s with portA := p } := fun b => by
  cases b with
  | notices => exact .inr fun hs => (noticesOk_iff _).2 ⟨h ((noticesOk_iff s).1 hs).1, ((noticesOk_iff s).1 hs).2⟩
  | _ => simp [Aspect.stands, storesOk]

/-- A change of the SLI alone, which keeps the promise of the notice tables. -/
theorem changesOnly_sli {s : State} {l : Sli} (h : noticeTableOk s.sli.counts → noticeTableOk l.counts) :
    changesOnly [.sli] s { s with sli := l } := fun b => by
  cases b with
  | notices => exact .inr fun hs => (noticesOk_iff _).2 ⟨((noticesOk_iff s).1 hs).1, h ((noticesOk_iff s).1 hs).2⟩
  | _ => simp [Aspect.stands, storesOk]

/-- A change of the NVC alone, which keeps the promise of the store queue. -/
theorem changesOnly_nvc {s : State} {n : Nvc} (h : storesOk s → queueOk n ∧ writeOk n) :
    changesOnly [.nvc] s { s with nvc := n } := fun b => by
  cases b with
  | stores => exact .inr h
  | _ => simp [Aspect.stands, noticesOk]

theorem State.raiseCab_changes (k : NoticeKind) : changesOnly [.portA] s (s.raiseCab k) :=
  changesOnly_portA fun h => h.raised k

theorem State.raiseLink_changes (k : NoticeKind) : changesOnly [.sli] s (s.raiseLink k) :=
  changesOnly_sli fun h => h.raised k

theorem State.raiseBoth_changes (k : NoticeKind) : changesOnly [.portA, .sli] s (s.raiseBoth k) :=
  ((s.raiseCab_changes k).mono (by decide)).trans ((State.raiseLink_changes _ k).mono (by decide))

theorem State.answerCab_changes (k : Nat) (r : ResultCode) : changesOnly [.portA] s (s.answerCab k r) :=
  changesOnly_portA fun h => h.answered k r

theorem State.handGuidance_changes (m : GuidanceMsg) : changesOnly [.portA] s (s.handGuidance m) :=
  changesOnly_portA fun h => PortA.noticesOk.choose h

theorem State.handStatus_changes (m : StatusMsg) : changesOnly [.portA] s (s.handStatus m) :=
  changesOnly_portA fun h => PortA.noticesOk.choose h

theorem State.answerLink_changes (r : ResultCode) (res : Option Byte) (d : Option (BitVec 16)) (k : Byte)
    (data : List Byte) : changesOnly [.sli, .freeCount] s (s.answerLink r res d k data) := fun b => by
  cases b with
  | notices =>
    refine .inr fun hs => ?_
    rw [noticesOk, State.answerLink_counts, State.answerLink_frame]
    exact hs
  | _ => rw [State.answerLink_frame]; simp [Aspect.stands, storesOk]

theorem State.answerPlain_changes (r : ResultCode) : changesOnly [.sli, .freeCount] s (s.answerPlain r) :=
  s.answerLink_changes _ _ _ _ _

theorem State.answerDetail_changes (r : ResultCode) (d : Int) :
    changesOnly [.sli, .freeCount] s (s.answerDetail r d) := s.answerLink_changes _ _ _ _ _

/-- What a store request may change: the store controller, and the marks of the owner of the record (R168). -/
abbrev storeBlocks : List Aspect := [.nvc, .env, .fhu, .smu]

theorem State.requestStore_changes (r : RecordId) (head service : Bool) :
    changesOnly storeBlocks s (s.requestStore r head service) := fun b => by
  cases b with
  | stores =>
    refine .inr fun hs => ?_
    rw [storesOk, State.requestStore_frame]
    exact Nvc.requested_keeps hs.1 hs.2
  | zones => exact .inr (s.requestStore_entries r head service)
  | faults => exact .inr (by rw [Aspect.stands, State.requestStore_fhu])
  | meters => exact .inr (by rw [Aspect.stands, State.requestStore_smu])
  | _ => rw [State.requestStore_frame]; simp [Aspect.stands, noticesOk]

theorem State.ownRequest_changes (r : RecordId) (head : Bool) : changesOnly storeBlocks s (s.ownRequest r head) :=
  .ite (s.requestStore_changes r head false) (.refl _ s)

theorem State.beginWrite_changes : changesOnly [.nvc] s s.beginWrite := by
  have hframe : s.beginWrite = { s with nvc := s.beginWrite.nvc } := by
    unfold State.beginWrite
    split
    · split <;> rfl
    · rfl
  rw [hframe]
  exact changesOnly_nvc fun h => State.storesOk_beginWrite h

theorem State.settle_changes : changesOnly [.nvc, .inFlight] s s.settle := fun b => by
  cases b with
  | stores => exact .inr State.storesOk_settle
  | _ => rw [State.settle_frame]; simp [Aspect.stands, noticesOk]

theorem State.epcEvent_changes (f : Epc → Epc) : changesOnly [.epc, .portA, .sli] s (s.epcEvent f) := fun b => by
  cases b with
  | notices => exact .inr (noticesOk.of_raised (s.epcEvent_notices f))
  | _ => rw [State.epcEvent_frame]; simp [Aspect.stands, storesOk]

/-- What a change of meters or items may change: besides the SMU the notices of R141 and the summary of R142. -/
abbrev itemBlocks : List Aspect := [.smu, .meters, .portA, .sli, .inFlight]

theorem State.itemsChanged_changes (items : List Item) (n : Nat) :
    changesOnly itemBlocks s (s.itemsChanged items n) := fun b => by
  cases b with
  | notices => exact .inr (noticesOk.of_raised (s.itemsChanged_notices items n))
  | _ => rw [State.itemsChanged_frame]; simp [Aspect.stands, storesOk]

/-- A change of the SMU alone. -/
theorem changesOnly_smu (m : Smu) : changesOnly [.smu, .meters] s { s with smu := m } := fun b => by
  cases b <;> simp [Aspect.stands, storesOk, noticesOk]

theorem State.setMeter_changes (k v : Nat) : changesOnly itemBlocks s (s.setMeter k v) :=
  ((changesOnly_smu s _).mono (by decide)).trans (State.itemsChanged_changes _ _ _)

theorem State.advance_changes (k n : Nat) : changesOnly itemBlocks s (s.advance k n) :=
  .repeatN (fun s => s.setMeter_changes k _) n s

theorem State.accrue_changes (k per x : Nat) : changesOnly itemBlocks s (s.accrue k per x) := by
  exact ((changesOnly_smu s _).mono (by decide)).trans (State.advance_changes _ _ _)

theorem State.hoursStep_changes (k : Nat) (active : Bool) : changesOnly itemBlocks s (s.hoursStep k active) :=
  .ite (s.accrue_changes k 36 1) (.refl _ s)

/-! ### The cycle tracker and the geometry unit -/

/-- A change of the CYT alone. -/
theorem changesOnly_cyt (c : Cyt) : changesOnly [.cyt] s { s with cyt := c } := fun b => by
  cases b <;> simp [Aspect.stands, storesOk, noticesOk]

theorem State.cytRecord_changes (r : PoseRecord) : changesOnly [.cyt, .inFlight] s (s.cytRecord r) := fun b => by
  unfold State.cytRecord State.deliverCycleEnd
  cases b <;> dsimp only [Aspect.stands, storesOk, noticesOk] <;> split <;> simp

theorem State.geuFrame_changes (p : PoseFrame) : changesOnly [.geu, .inFlight] s (s.geuFrame p) := fun b => by
  unfold State.geuFrame
  dsimp only
  rw [State.deliverRecord_eq, State.reportRange_eq]
  cases b <;> simp [Aspect.stands, storesOk, noticesOk]

/-! ### The engine plan controller -/

/-- A change of the EPC alone. -/
theorem changesOnly_epc (p : Epc) : changesOnly [.epc] s { s with epc := p } := fun b => by
  cases b <;> simp [Aspect.stands, storesOk, noticesOk]

theorem State.reportStart_changes (p : Epc) : changesOnly [.inFlight] s (s.reportStart p) := by
  unfold State.reportStart
  split
  · exact .ite (s.report_changes _ _ _) (.refl _ s)
  · exact .refl _ s

theorem State.handDemands_changes : changesOnly [.portB] s s.handDemands := fun b => by
  cases b <;> simp [Aspect.stands, storesOk, noticesOk, State.handDemands]

theorem State.planInterval_changes : changesOnly [.epc, .portA, .sli, .portB, .inFlight] s s.planInterval :=
  ((s.reportStart_changes _).mono (by decide)).trans
    (((State.epcEvent_changes _ _).mono (by decide)).trans ((State.handDemands_changes _).mono (by decide)))

theorem State.engineReport_changes (e : Engine) (st : EngState) (load speed fuel : Nat) :
    changesOnly [.epc, .portA, .sli, .inFlight] s (s.engineReport e st load speed fuel) :=
  changesOnly.trans (.ite ((s.report_changes _ _ _).mono (by decide)) (.refl _ s))
    ((State.epcEvent_changes _ _).mono (by decide))

theorem State.requestMode_changes (place : Nat) (mode : Int) :
    changesOnly [.epc, .portA, .sli] s (s.requestMode place mode) :=
  .ite ((s.answerCab_changes _ _).mono (by decide)) (.ite ((s.answerCab_changes _ _).mono (by decide))
    ((s.epcEvent_changes _).trans ((State.answerCab_changes _ _ _).mono (by decide))))

theorem State.requestAutoSingle_changes (place : Nat) (on : Bool) :
    changesOnly [.epc, .portA, .sli] s (s.requestAutoSingle place on) :=
  .ite ((s.answerCab_changes _ _).mono (by decide))
    ((s.epcEvent_changes _).trans ((State.answerCab_changes _ _ _).mono (by decide)))

theorem State.clearFailed_changes (n : Nat) :
    changesOnly [.epc, .portA, .sli, .inFlight, .freeCount] s (s.clearFailed n) := by
  unfold State.clearFailed
  split
  · exact (s.answerPlain_changes _).mono (by decide)
  · exact .ite (((s.reportClear_changes _ _ _).mono (by decide)).trans
      (((State.epcEvent_changes _ _).mono (by decide)).trans ((State.answerPlain_changes _ _).mono (by decide))))
      ((s.answerPlain_changes _).mono (by decide))

/-! ### The envelope table -/

/-- A change of the envelope table alone. -/
theorem changesOnly_env (v : Env) : changesOnly [.env, .zones] s { s with env := v } := fun b => by
  cases b <;> simp [Aspect.stands, storesOk, noticesOk]

/-- A change of the marks of the envelope table alone. -/
theorem changesOnly_envMarks {s : State} {v : Env} (h : v.entries = s.env.entries) :
    changesOnly [.env] s { s with env := v } := fun b => by
  cases b <;> simp [Aspect.stands, storesOk, noticesOk, h]

theorem State.applyNotices_changes (e : ZoneEntry) : changesOnly [.portA, .sli] s (s.applyNotices e) := by
  unfold State.applyNotices
  refine .ite (.ite ?cab ?both) (.refl _ s)
  case cab =>
    exact changesOnly.trans (.ite (s.raiseBoth_changes _) (.refl _ s)) ((State.raiseCab_changes _ _).mono (by decide))
  case both => exact .ite (s.raiseBoth_changes _) (.refl _ s)

theorem State.storeIf_changes (changed : Bool) (r : RecordId) : changesOnly storeBlocks s (s.storeIf changed r) :=
  .ite (s.requestStore_changes r false false) (.refl _ s)

/-- What a pose record at the ENV may change. -/
abbrev frameBlocks : List Aspect := [.nvc, .env, .zones, .fhu, .smu, .portA, .sli, .inFlight]

theorem State.applyPending_changes : changesOnly frameBlocks s s.applyPending := by
  unfold State.applyPending
  dsimp only
  have hnotices := changesOnly.foldl (fun s e => State.applyNotices_changes s e) s.env.entries s
  exact (((hnotices.mono (by decide)).trans ((changesOnly_env _ _).mono (by decide))).trans
    ((State.storeIf_changes _ _ .zonesSite).mono (by decide))).trans
      ((State.storeIf_changes _ _ .zonesOper).mono (by decide))

theorem State.formSet_changes (m : FrameNo) : changesOnly [.env, .inFlight] s (s.formSet m) :=
  ((changesOnly_envMarks (by exact rfl)).mono (by decide)).trans
    (((State.deliver_changes _ _).trans (State.deliver_changes _ _)).mono (by decide))

theorem State.envRecord_changes (r : PoseRecord) : changesOnly frameBlocks s (s.envRecord r) :=
  s.applyPending_changes.trans (((State.formSet_changes _ _).mono (by decide)).trans
    ((State.settle_changes _).mono (by decide)))

theorem State.endSuspension_changes (i : Nat) : changesOnly [.env, .zones, .portA, .sli] s (s.endSuspension i) :=
  ((changesOnly_env s _).mono (by decide)).trans ((State.raiseBoth_changes _ _).mono (by decide))

theorem State.suspended_changes (lo hi : Int) (top : Nat) (index : Int) (seconds : Nat) :
    changesOnly [.env, .zones, .portA, .sli] s (s.suspended lo hi top index seconds) :=
  .ite (.ite (s.endSuspension_changes _) ((changesOnly_env s _).mono (by decide))) (.refl _ s)

theorem State.suspensionTick_changes : changesOnly [.env, .zones, .portA, .sli] s s.suspensionTick :=
  ((changesOnly_env s _).mono (by decide)).trans
    (.foldl (fun s i => .ite (s.endSuspension_changes i) (.refl _ s)) _ _)

theorem State.endOperatorSuspensions_changes : changesOnly [.env, .zones, .portA, .sli] s s.endOperatorSuspensions :=
  .foldl (fun s i => .ite (s.endSuspension_changes i) (.refl _ s)) _ s

theorem State.reportNotices_changes (z : FrameZone) (before after : ZoneEntry) :
    changesOnly [.portA, .sli] s (s.reportNotices z before after) := by
  have hstate : changesOnly [.portA, .sli] s (if before.pair ≠ after.pair then s.raiseCab .zoneState else s) :=
    .ite ((s.raiseCab_changes _).mono (by decide)) (.refl _ s)
  exact .ite (hstate.trans (State.raiseBoth_changes _ _)) hstate

theorem State.reportEntry_changes (zones : List FrameZone) (states : List ZoneState) (i : Nat) :
    changesOnly [.env, .zones, .portA, .sli] s (s.reportEntry zones states i) := by
  unfold State.reportEntry
  split
  · exact ((changesOnly_env s _).mono (by decide)).trans ((State.reportNotices_changes _ _ _ _).mono (by decide))
  · exact .refl _ s

theorem State.takeReport_changes (m : FrameNo) (states : List ZoneState) :
    changesOnly [.env, .zones, .portA, .sli] s (s.takeReport m states) := by
  unfold State.takeReport
  split
  · exact .ite (.foldl (fun s i => s.reportEntry_changes _ states i) _ s) (.refl _ s)
  · exact .refl _ s

/-! ### The grade guidance unit -/

/-- A change of the GGU alone. -/
theorem changesOnly_ggu (g : Ggu) : changesOnly [.ggu] s { s with ggu := g } := fun b => by
  cases b <;> simp [Aspect.stands, storesOk, noticesOk]

theorem State.retire_changes : changesOnly [.ggu, .portA] s s.retire :=
  ((changesOnly_ggu s _).mono (by decide)).trans ((State.raiseCab_changes _ _).mono (by decide))

theorem State.advanceTarget_changes (place : Nat) : changesOnly [.ggu, .portA] s (s.advanceTarget place) := by
  unfold State.advanceTarget
  split
  · exact (s.answerCab_changes _ _).mono (by decide)
  · exact s.retire_changes.trans ((State.answerCab_changes _ _ _).mono (by decide))

theorem State.formCue_changes (j : GguJoin) (r : PoseRecord) (floors : List FloorZone) :
    changesOnly [.ggu, .portA, .inFlight] s (s.formCue j r floors) :=
  ((changesOnly_ggu s _).mono (by decide)).trans (((State.deliver_changes _ _).mono (by decide)).trans
    (.ite (.refl _ _) ((State.handGuidance_changes _ _).mono (by decide))))

theorem State.tryCue_changes : changesOnly [.ggu, .portA, .inFlight] s s.tryCue := by
  unfold State.tryCue
  split
  · split
    · exact s.formCue_changes _ _ _
    · exact .refl _ s
  · exact .refl _ s

theorem State.tryAssist_changes : changesOnly [.ggu, .inFlight] s s.tryAssist := by
  unfold State.tryAssist
  split
  · split
    · exact fun b => by cases b <;> simp [Aspect.stands, storesOk, noticesOk, State.formAssist]
    · exact .refl _ s
  · exact .refl _ s

theorem State.gguAdd_changes (j : GguJoin) (part : GguPart) :
    changesOnly [.ggu, .portA, .inFlight] s (s.gguAdd j part) :=
  ((changesOnly_ggu s _).mono (by decide)).trans ((State.tryCue_changes _).trans
    ((State.tryAssist_changes _).mono (by decide)))

theorem State.gguClose_changes (j : GguJoin) : changesOnly [.inFlight] s (s.gguClose j) :=
  .ite (.refl _ s) (s.deliver_changes _)

theorem State.gguPart_changes (m : FrameNo) (part : GguPart) :
    changesOnly [.ggu, .portA, .inFlight] s (s.gguPart m part) := by
  unfold State.gguPart
  split
  · exact s.gguAdd_changes _ _
  · exact .ite (s.gguAdd_changes _ _) (.ite (((s.gguClose_changes _).mono (by decide)).trans
      (State.gguAdd_changes _ _ _)) (.refl _ s))

theorem State.gguCycleEnd_changes (onGrade : Nat) : changesOnly [.ggu, .portA] s (s.gguCycleEnd onGrade) := by
  unfold State.gguCycleEnd
  split
  · exact .refl _ s
  · exact .ite (.ite s.retire_changes ((changesOnly_ggu s _).mono (by decide))) (.refl _ s)

/-! ### The fault and hold unit -/

/-- A change of the FHU alone. -/
theorem changesOnly_fhu (f : Fhu) : changesOnly [.fhu, .faults] s { s with fhu := f } := fun b => by
  cases b <;> simp [Aspect.stands, storesOk, noticesOk]

/-- A change of the unstored mark of the FHU alone. -/
theorem changesOnly_fhuMark (u : Bool) : changesOnly [.fhu] s { s with fhu := { s.fhu with unstored := u } } :=
    fun b => by
  cases b <;> simp [Aspect.stands, storesOk, noticesOk]

/-- What a fault report may change. -/
abbrev faultBlocks : List Aspect := [.nvc, .env, .fhu, .faults, .smu, .portA, .sli, .inFlight]

theorem State.recordFault_changes (r : FaultReport) (second : Bool) :
    changesOnly [.fhu, .faults, .portA, .sli] s (s.recordFault r second) :=
  ((changesOnly_fhu s _).mono (by decide)).trans ((State.raiseBoth_changes _ _).mono (by decide))

theorem State.deliverHold_changes : changesOnly [.inFlight] s s.deliverHold :=
  (s.deliver_changes _).trans (State.deliver_changes _ _)

theorem State.enterHold_changes (r : FaultReport) : changesOnly faultBlocks s (s.enterHold r) := by
  unfold State.enterHold
  exact (((((s.recordFault_changes r false).mono (by decide)).trans ((changesOnly_fhu _ _).mono (by decide))).trans
    ((State.deliverHold_changes _).mono (by decide))).trans
      ((State.requestStore_changes _ _ _ _).mono (by decide))).trans
      ((State.raiseBoth_changes _ _).mono (by decide))

/-- A second latching fault recorded and counted, before the store of an unstored hold is asked for (R161). -/
def State.escalated (r : FaultReport) (s : State) : State :=
  let t := s.recordFault r true
  { t with fhu := { t.fhu with escalation := satAdd 255 t.fhu.escalation 1 } }

theorem State.escalate_eq (r : FaultReport) :
    s.escalate r = if s.fhu.unstored then (s.escalated r).requestStore .hold true false else s.escalated r := rfl

theorem State.escalate_changes (r : FaultReport) : changesOnly faultBlocks s (s.escalate r) := by
  have hcount : changesOnly faultBlocks s (State.escalated r s) :=
    ((s.recordFault_changes r true).mono (by decide)).trans ((changesOnly_fhu _ _).mono (by decide))
  exact .ite (hcount.trans ((State.requestStore_changes _ _ _ _).mono (by decide))) hcount

theorem State.recoverable_changes (r : FaultReport) : changesOnly [.fhu, .faults, .portA, .sli] s (s.recoverable r) :=
  .ite ((changesOnly_fhu s _).mono (by decide)) (.ite (.refl _ s)
    (((changesOnly_fhu s _).mono (by decide)).trans (State.recordFault_changes _ _ _)))

theorem State.takeFault_changes (r : FaultReport) : changesOnly faultBlocks s (s.takeFault r) := by
  unfold State.takeFault
  split
  · exact (s.recordFault_changes r false).mono (by decide)
  · exact (s.recoverable_changes r).mono (by decide)
  · exact .ite (s.enterHold_changes r) (s.escalate_changes r)

theorem State.leaveHold_changes : changesOnly faultBlocks s s.leaveHold := by
  unfold State.leaveHold
  exact ((((changesOnly_fhu s _).mono (by decide)).trans (((State.deliver_changes _ _).trans
    (State.deliver_changes _ _)).mono (by decide))).trans ((State.requestStore_changes _ _ _ _).mono (by decide))).trans
      ((State.raiseBoth_changes _ _).mono (by decide))

theorem State.clearHold_changes : changesOnly (.freeCount :: faultBlocks) s s.clearHold := by
  have hanswer : ∀ (u : State) (r : ResultCode) (d : Int),
      changesOnly (.freeCount :: faultBlocks) u (u.answerDetail r d) :=
    fun u r d => (u.answerDetail_changes r d).mono (by decide)
  exact .ite (.ite ((s.leaveHold_changes.mono (by decide)).trans (hanswer _ _ _)) (hanswer _ _ _))
    (.ite (((s.requestStore_changes _ _ _).mono (by decide)).trans (hanswer _ _ _)) (hanswer _ _ _))

/-! ### The limit evaluator -/

/-- A change of the LEV alone. -/
theorem changesOnly_lev (l : Lev) : changesOnly [.lev] s { s with lev := l } := fun b => by
  cases b <;> simp [Aspect.stands, storesOk, noticesOk]

theorem State.reportZone_changes (c : LevCfg) (r : PoseRecord) (i : Nat) (z : FrameZone) (l : LevZone) :
    changesOnly [.inFlight] s (s.reportZone c r i z l) := by
  have hbreach : changesOnly [.inFlight] s
      (if zoneBreach c r z && !l.flagBefore z then s.report .zoneBreach i (some r.pose.frame) else s) :=
    .ite (s.report_changes _ _ _) (.refl _ s)
  exact .ite (hbreach.trans (State.report_changes _ _ _ _)) hbreach

theorem State.reportZones_changes (c : LevCfg) (r : PoseRecord) (zones : List FrameZone) (ls : List LevZone) :
    changesOnly [.inFlight] s (s.reportZones c r zones ls) :=
  .foldl (fun (s : State) (x : (FrameZone × LevZone) × Nat) => s.reportZone_changes c r x.2 x.1.1 x.1.2) _ s

theorem State.validCeilings_changes (r : PoseRecord) (zones : List FrameZone) :
    changesOnly [.lev, .inFlight] s (s.validCeilings r zones) :=
  ((s.reportZones_changes _ r zones _).mono (by decide)).trans
    (((changesOnly_lev _ _).mono (by decide)).trans ((State.deliver_changes _ _).mono (by decide)))

theorem State.invalidCeilings_changes (r : PoseRecord) : changesOnly [.lev, .inFlight] s (s.invalidCeilings r) :=
  changesOnly.trans (.ite ((s.report_changes _ _ _).mono (by decide)) (.refl _ s))
    ((changesOnly_lev _ _).mono (by decide))

theorem State.tryCeilings_changes : changesOnly [.lev, .inFlight] s s.tryCeilings := by
  unfold State.tryCeilings
  split
  · split
    · exact .ite (s.validCeilings_changes _ _) (s.invalidCeilings_changes _)
    · exact .refl _ s
  · exact .refl _ s

theorem State.handOn_changes (a : Allotment) : changesOnly [.lev, .portB] s (s.handOn a) := fun b => by
  cases b <;> simp [Aspect.stands, storesOk, noticesOk]

theorem State.buildAllotment_changes (j : LevJoin) (c : Ceilings) (assist : Nat) :
    changesOnly [.lev, .portB] s (s.buildAllotment j c assist) :=
  ((changesOnly_lev s _).mono (by decide)).trans (State.handOn_changes _ _)

theorem State.tryBuild_changes : changesOnly [.lev, .portB] s s.tryBuild := by
  unfold State.tryBuild
  split
  · split
    · exact s.buildAllotment_changes _ _ _
    · exact .refl _ s
  · exact .refl _ s

theorem State.levAdd_changes (j : LevJoin) (part : LevPart) :
    changesOnly [.lev, .portB, .inFlight] s (s.levAdd j part) :=
  ((changesOnly_lev s _).mono (by decide)).trans (((State.tryCeilings_changes _).mono (by decide)).trans
    ((State.tryBuild_changes _).mono (by decide)))

theorem State.levClose_changes (j : LevJoin) : changesOnly [.lev, .portB] s (s.levClose j) := by
  unfold State.levClose
  split
  · exact s.buildAllotment_changes _ _ _
  · exact .refl _ s

theorem State.levPart_changes (m : FrameNo) (part : LevPart) :
    changesOnly [.lev, .portB, .inFlight] s (s.levPart m part) := by
  unfold State.levPart
  split
  · exact s.levAdd_changes _ _
  · exact .ite (s.levAdd_changes _ _) (.ite (((s.levClose_changes _).mono (by decide)).trans
      (State.levAdd_changes _ _ _)) (.refl _ s))

/-! ### The service meter unit -/

/-- What a request to the SMU that is stored may change. -/
abbrev doneBlocks : List Aspect := [.nvc, .env, .fhu, .smu, .meters, .portA, .sli, .inFlight]

/-- What a request of the service link to the SMU may change: its answer too. -/
abbrev meterBlocks : List Aspect := .freeCount :: doneBlocks

/-- What a write into a table may change. -/
abbrev tableBlocks : List Aspect := .zones :: meterBlocks

theorem State.requestSnapshot_changes : changesOnly storeBlocks s s.requestSnapshot :=
  .ite (s.requestStore_changes _ _ _) (.refl _ s)

theorem State.oneSecond_changes : changesOnly meterBlocks s s.oneSecond := by
  unfold State.oneSecond
  dsimp only
  have hmeters := ((((s.hoursStep_changes 0 (s.epc.e1.reported == .running)).trans
    (State.hoursStep_changes _ 1 (s.epc.e2.reported == .running))).trans (State.hoursStep_changes _ 2
      (s.epc.e1.reported == .running || s.epc.e2.reported == .running))).trans (State.accrue_changes _ 3 36000
        (fuelUnits s.epc.e1.fuel))).trans (State.accrue_changes _ 4 36000 (fuelUnits s.epc.e2.fuel))
  exact (((((hmeters.trans (State.hoursStep_changes _ 7 s.smu.travel)).mono (by decide)).trans
    ((State.deliver_changes _ _).mono (by decide))).trans ((changesOnly_smu _ _).mono (by decide))).trans
      ((State.requestSnapshot_changes _).mono (by decide))).trans ((State.settle_changes _).mono (by decide))

theorem State.resetItem_changes (n : Nat) : changesOnly itemBlocks s (s.resetItem n) := s.itemsChanged_changes _ _

theorem State.defineItem_changes (n : Nat) (d : ItemDef) : changesOnly itemBlocks s (s.defineItem n d) :=
  s.itemsChanged_changes _ _

theorem State.storeAnd_changes (result : ResultCode) (r : RecordId) (service : Bool) {f : State → State}
    (hf : ∀ s, changesOnly itemBlocks s (f s)) : changesOnly doneBlocks s (s.storeAnd result r service f) :=
  .ite (((s.requestStore_changes _ _ _).mono (by decide)).trans ((hf _).mono (by decide))) (.refl _ s)

theorem State.cabDone_changes (place n : Nat) : changesOnly doneBlocks s (s.cabDone place n) :=
  ((s.storeAnd_changes _ _ _ (fun s => s.resetItem_changes n)).trans
    ((State.answerCab_changes _ _ _).mono (by decide))).trans
    ((State.settle_changes _).mono (by decide))

theorem State.serviceDone_changes (n : Nat) : changesOnly meterBlocks s (s.serviceDone n) :=
  (((s.storeAnd_changes _ _ _ (fun s => s.resetItem_changes n)).mono (by decide)).trans
    ((State.answerPlain_changes _ _).mono (by decide))).trans ((State.settle_changes _).mono (by decide))

theorem State.preset_changes (k v : Nat) : changesOnly meterBlocks s (s.preset k v) :=
  (((s.storeAnd_changes _ _ _ (fun s => s.setMeter_changes k _)).mono (by decide)).trans
    ((State.answerPlain_changes _ _).mono (by decide))).trans ((State.settle_changes _).mono (by decide))

theorem State.itemWritten_changes (n : Nat) (l : List Byte) : changesOnly doneBlocks s (s.itemWritten n l) := by
  unfold State.itemWritten
  split
  · exact s.storeAnd_changes _ _ _ (fun s => s.defineItem_changes n _)
  · exact .refl _ s

/-! ### The store controller -/

theorem State.writeFailed_changes (r : RecordId) : changesOnly [.env, .fhu, .inFlight] s (s.writeFailed r) := by
  have hreport : changesOnly [.env, .fhu, .inFlight] s (s.report .nvWriteFail r.number none) :=
    (s.report_changes _ _ _).mono (by decide)
  cases r with
  | zonesSite | zonesOper => exact hreport.trans ((changesOnly_envMarks (by exact rfl)).mono (by decide))
  | hold => exact hreport.trans ((changesOnly_fhuMark _ _).mono (by decide))
  | items | meters | config => exact hreport

theorem State.writeEnded_changes (w : NvWrite) (ok : Bool) :
    changesOnly [.nvc, .env, .fhu, .sli, .inFlight] s (s.writeEnded w ok) := by
  have hfailed : changesOnly [.nvc, .env, .fhu, .sli, .inFlight] s (if ok then s else s.writeFailed w.record) :=
    .ite (.refl _ s) ((s.writeFailed_changes _).mono (by decide))
  have hdone := hfailed.trans (.ite (p := headService s.nvc.queue = true)
    ((State.raiseLink_changes _ .storeDone).mono (by decide)) (.refl _ _))
  exact hdone.trans ((changesOnly_nvc (by exact fun h => ⟨h.1.done, fun _ hv => nomatch hv⟩)).mono (by decide))

/-- What a write completion may change. -/
abbrev writeBlocks : List Aspect := [.nvc, .env, .fhu, .smu, .sli, .inFlight]

theorem State.requestListed_changes : changesOnly storeBlocks s s.requestListed := by
  unfold State.requestListed
  split
  · exact .refl _ s
  · exact .ite (((changesOnly_nvc (by exact id)).mono (by decide)).trans (State.ownRequest_changes _ _ _)) (.refl _ s)

theorem State.writeComplete_changes (ok : Bool) : changesOnly writeBlocks s (s.writeComplete ok) := by
  unfold State.writeComplete
  split
  · exact .refl _ s
  · exact ((((s.writeEnded_changes _ _).mono (by decide)).trans ((State.beginWrite_changes _).mono (by decide))).trans
      ((State.requestListed_changes _).mono (by decide))).trans ((State.settle_changes _).mono (by decide))

theorem State.requestKeyOff_changes (r : RecordId) : changesOnly storeBlocks s (s.requestKeyOff r) :=
  .ite (s.ownRequest_changes _ _) ((changesOnly_nvc (by exact id)).mono (by decide))

/-- What KEY-off may change. -/
abbrev keyBlocks : List Aspect := [.nvc, .env, .fhu, .smu, .epc, .portA, .sli, .inFlight]

theorem State.keyOffTaken_changes : changesOnly keyBlocks s s.keyOffTaken := by
  unfold State.keyOffTaken
  refine .ite ?_ (.refl _ s)
  exact ((((changesOnly_nvc (by exact id)).mono (by decide)).trans
    ((State.epcEvent_changes _ _).mono (by decide))).trans
    (.foldl (fun s r => (s.requestKeyOff_changes r).mono (by decide)) _ _)).trans
      ((State.settle_changes _).mono (by decide))

theorem State.keyOnTaken_changes : changesOnly [.nvc, .epc, .portA, .sli] s s.keyOnTaken :=
  .ite (.refl _ s) (((changesOnly_nvc (by exact id)).mono (by decide)).trans
    ((State.epcEvent_changes _ _).mono (by decide)))

/-! ### The service link -/

theorem State.blockArrived_changes (block : List Byte) : changesOnly [.sli, .inFlight] s (s.blockArrived block) := by
  unfold State.blockArrived
  refine .ite (.refl _ s) ?_
  dsimp only
  split
  · exact ((changesOnly_sli (by exact id)).mono (by decide)).trans ((State.deliver_changes _ _).mono (by decide))
  · exact (changesOnly_sli (by exact id)).mono (by decide)
  · exact (changesOnly_sli (by exact id)).mono (by decide)

theorem State.answerRead_changes : changesOnly [.sli, .freeCount] s s.answerRead := fun b => by
  unfold State.answerRead
  dsimp only
  cases b <;> dsimp only [Aspect.stands, storesOk, noticesOk] <;> split <;> simp

theorem State.select_changes (table index : Nat) : changesOnly [.sli, .freeCount] s (s.select table index) := by
  unfold State.select
  split
  · exact .ite (((changesOnly_sli (by exact id)).mono (by decide)).trans (State.answerPlain_changes _ _))
      (s.answerPlain_changes _)
  · exact s.answerPlain_changes _

theorem State.moveCursor_changes (k : Nat) : changesOnly [.sli] s (s.moveCursor k) := changesOnly_sli (by exact id)

theorem State.readTable_changes (n : Nat) : changesOnly [.sli, .freeCount] s (s.readTable n) :=
  .ite (s.answerPlain_changes _) (((s.moveCursor_changes _).mono (by decide)).trans
    (State.answerLink_changes _ _ _ _ _ _))

theorem State.entryWritten_changes (t : Table) (i : Nat) (b : List Byte) :
    changesOnly tableBlocks s (s.entryWritten t i b) := by
  cases t with
  | zones => exact (changesOnly_env s _).mono (by decide)
  | items => exact (s.itemWritten_changes i b).mono (by decide)
  | config => exact .ite (.refl _ s) ((changesOnly_sli (by exact id)).mono (by decide))
  | ident | meters | faults | targets | status => exact .refl _ s

theorem State.writeLoop_changes (l : List (List Byte)) (k : Nat) :
    changesOnly tableBlocks s (State.writeLoop l k s).2.2 := by
  induction l generalizing k s with
  | nil => exact .refl _ s
  | cons b l ih =>
    unfold State.writeLoop
    dsimp only
    split
    · exact .refl _ s
    · split
      · exact (s.entryWritten_changes _ _ b).trans (((State.moveCursor_changes _ _).mono (by decide)).trans (ih _ _))
      · exact .refl _ s

theorem State.writeTable_changes (n : Nat) (data : List Byte) : changesOnly tableBlocks s (s.writeTable n data) := by
  have hanswer : ∀ (u : State) (r : ResultCode) (res : Option Byte) (d : Option (BitVec 16)),
      changesOnly tableBlocks u (u.answerLink r res d 0 []) :=
    fun u r res d => (u.answerLink_changes r res d 0 []).mono (by decide)
  have hloop := (s.writeLoop_changes (entriesOf (entrySize s.sli.table) n data) 0).mono (G := tableBlocks) (by decide)
  unfold State.writeTable
  refine .ite (hanswer _ _ _ _) (.ite (hanswer _ _ _ _) ?_)
  split <;> rename_i h <;> rw [h] at hloop <;> exact hloop.trans (hanswer _ _ _ _)

theorem State.commit_changes : changesOnly (.sli :: .freeCount :: storeBlocks) s s.commit := by
  unfold State.commit
  split
  · exact (s.answerDetail_changes _ _).mono (by decide)
  · exact ((changesOnly_nvc (by exact id)).mono (by decide)).trans
      (((State.requestStore_changes _ _ _ _).mono (by decide)).trans
      ((State.answerPlain_changes _ _).mono (by decide)))

theorem State.takeNotice_changes : changesOnly [.sli, .freeCount] s s.takeNotice := by
  unfold State.takeNotice
  split
  · exact ((changesOnly_sli (by exact fun h => h.taken _)).mono (by decide)).trans
      (State.answerLink_changes _ _ _ _ _ _)
  · exact s.answerLink_changes _ _ _ _ _

/-! ### The ports -/

/-- A change of port B alone. -/
theorem changesOnly_portB (p : PortB) : changesOnly [.portB] s { s with portB := p } := fun b => by
  cases b <;> simp [Aspect.stands, storesOk, noticesOk]

theorem State.stepA_changes : changesOnly [.portA, .inFlight] s s.stepA := by
  have hstale : ∀ u : State, changesOnly [.portA, .inFlight] u u.cabStale := fun u =>
    (((u.deliver_changes _).trans (State.report_changes _ _ _ _)).mono (by decide)).trans
      ((changesOnly_portA (by exact id)).mono (by decide))
  exact ((changesOnly_portA (by exact id)).mono (by decide)).trans (.ite (hstale _) (.refl _ _))

theorem State.pcuStale_changes : changesOnly [.inFlight] s s.pcuStale :=
  (((s.deliver_changes _).trans (State.deliver_changes _ _)).trans (State.deliver_changes _ _)).trans
    (State.report_changes _ _ _ _)

theorem State.govStale_changes (e : Engine) : changesOnly [.inFlight] s (s.govStale e) :=
  (s.deliver_changes _).trans (State.report_changes _ _ _ _)

theorem State.applyIf_changes {F : List Aspect} (p : Bool) {f : State → State} (hf : ∀ s, changesOnly F s (f s)) :
    changesOnly F s (s.applyIf p f) := .ite (hf s) (.refl _ s)

theorem State.stepB_changes : changesOnly [.portB, .inFlight] s s.stepB :=
  ((changesOnly_portB s _).mono (by decide)).trans ((((State.applyIf_changes _ _ State.pcuStale_changes).trans
    (State.applyIf_changes _ _ (fun s => s.govStale_changes .e1))).trans
      (State.applyIf_changes _ _ (fun s => s.govStale_changes .e2))).mono (by decide))

theorem State.hearCab_changes : changesOnly [.portA, .inFlight] s s.hearCab :=
  ((changesOnly_portA (by exact id)).mono (by decide)).trans ((State.deliverIf_changes _ _ _).mono (by decide))

theorem State.hearPcu_changes : changesOnly [.portB, .inFlight] s s.hearPcu :=
  ((changesOnly_portB s _).mono (by decide)).trans (((State.applyIf_changes _ _ (fun s =>
    ((s.deliver_changes .cytPcuFreshness).trans (State.deliver_changes _ .epcPcuFreshness)).trans
      (State.deliver_changes _ .smuPcuFreshness))).trans
        (State.applyIf_changes _ _ (fun s => s.reportClear_changes .pcuStale 3 none))).mono (by decide))

theorem State.hearGov_changes (e : Engine) : changesOnly [.portB, .inFlight] s (s.hearGov e) := by
  cases e <;>
    exact ((changesOnly_portB s _).mono (by decide)).trans (((State.deliverIf_changes _ _ _).mono (by decide)).trans
      (.ite ((State.reportClear_changes _ _ _ _).mono (by decide)) (.refl _ _)))

theorem State.pumpArrived_changes (data : List Byte) : changesOnly [.portB, .inFlight] s (s.pumpArrived data) :=
  s.hearPcu_changes.trans ((((State.deliver_changes _ _).trans (State.deliver_changes _ _)).trans
    (State.deliver_changes _ _)).mono (by decide))

theorem State.engineArrived_changes (e : Engine) (data : List Byte) :
    changesOnly [.portB, .inFlight] s (s.engineArrived e data) :=
  (s.hearGov_changes e).trans ((State.deliver_changes _ _).mono (by decide))

theorem State.hearSource_changes (rx : RxFrame) : changesOnly [.portA, .portB, .inFlight] s (s.hearSource rx) :=
  .ite (s.hearCab_changes.mono (by decide)) (.ite (s.hearPcu_changes.mono (by decide))
    (.ite ((s.hearGov_changes .e1).mono (by decide)) ((s.hearGov_changes .e2).mono (by decide))))

theorem State.takeFrame_changes {F : List Aspect} (rx : RxFrame) {f : State → State} (hf : ∀ s, changesOnly F s (f s)) :
    changesOnly F s (s.takeFrame rx f) := .ite (hf s) (.refl _ s)

/-- Taking a transmitted message out of its place keeps the promise of the notice tables. -/
theorem PortA.noticesOk.placeEnded {p : PortA} (h : p.noticesOk) (o : OfferA) (ok : Bool) :
    (p.placeEnded o ok).noticesOk := by
  obtain ⟨hcounts, hplaces⟩ := h
  cases o with
  | guidance | status => exact ⟨hcounts, hplaces⟩
  | result =>
    unfold PortA.placeEnded
    dsimp only
    split
    · exact ⟨hcounts, by simp only [List.length_drop]; omega⟩
    · exact ⟨hcounts, hplaces⟩
  | notice =>
    unfold PortA.placeEnded PortA.noticeEnded
    dsimp only
    split
    · exact ⟨hcounts.taken _, hplaces⟩
    · exact ⟨hcounts, hplaces⟩

theorem PortA.noticesOk.ended {p : PortA} (h : p.noticesOk) (o : OfferA) (ok : Bool) (n : Nat) :
    PortA.noticesOk ({ p.placeEnded o ok with offering := none, errors := n } : PortA).fillNotice.choose :=
  PortA.noticesOk.choose (PortA.noticesOk.fillNotice (p := { p.placeEnded o ok with offering := none, errors := n })
    (h.placeEnded o ok))

theorem State.endA_changes (ok : Bool) : changesOnly [.portA, .inFlight] s (s.endA ok) := by
  unfold State.endA
  split
  · exact .refl _ s
  · exact .ite (((changesOnly_portA (by exact fun h => ⟨h.1, Nat.zero_le 4⟩)).mono (by decide)).trans
      ((State.report_changes _ _ _ _).mono (by decide)))
        ((changesOnly_portA (by exact fun h => h.ended _ ok _)).mono (by decide))

theorem State.endB_changes (ok : Bool) : changesOnly [.portB, .inFlight] s (s.endB ok) := by
  unfold State.endB
  split
  · exact .refl _ s
  · exact .ite (((changesOnly_portB s _).mono (by decide)).trans ((State.report_changes _ _ _ _).mono (by decide)))
      ((changesOnly_portB s _).mono (by decide))

theorem State.rejoinA_changes : changesOnly [.portA, .inFlight] s s.rejoinA :=
  .ite (.refl _ s) (((changesOnly_portA (by
    exact fun h => (PortA.noticesOk.fillNotice (p := { s.portA with on := true, errors := 0 }) h).choose)).mono
      (by decide)).trans ((State.reportClear_changes _ _ _ _).mono (by decide)))

theorem State.rejoinB_changes : changesOnly [.portB, .inFlight] s s.rejoinB :=
  .ite (.refl _ s) (((changesOnly_portB s _).mono (by decide)).trans
    ((State.reportClear_changes _ _ _ _).mono (by decide)))

theorem State.setAssembly_changes (a : Option Assembly) : changesOnly [.portA] s (s.setAssembly a) :=
  changesOnly_portA (by exact id)

theorem State.route_changes (c : Option Instr) (ticket : Nat) : changesOnly [.portA, .inFlight] s
    (s.route c ticket) := by
  cases c with
  | some c => exact (s.deliver_changes c).mono (by decide)
  | none => exact (s.answerCab_changes _ _).mono (by decide)

theorem PortA.noticesOk.reserve {p : PortA} (h : p.noticesOk) (hroom : ¬ 4 ≤ p.results.length) (number kind : Byte) :
    (p.reserve number kind).noticesOk :=
  ⟨h.1, by simp only [PortA.reserve, List.length_append, List.length_singleton]; omega⟩

theorem State.takeRequest_changes (number kind : Byte) (p0 p1 : List Int) :
    changesOnly [.portA, .inFlight] s (s.takeRequest number kind p0 p1) := by
  unfold State.takeRequest
  split
  · exact .refl _ s
  next hroom =>
    exact ((changesOnly_portA (by exact fun h => h.reserve hroom number kind)).mono (by decide)).trans
      (State.route_changes _ _ _)

theorem State.takePart_changes (f : CabFrame) : changesOnly [.portA, .inFlight] s (s.takePart f) := by
  unfold State.takePart
  refine .ite ((s.setAssembly_changes _).mono (by decide)) (.ite ?_ (.refl _ s))
  split
  · exact .ite (((s.setAssembly_changes _).mono (by decide)).trans (State.takeRequest_changes _ _ _ _ _)) (.refl _ s)
  · exact .refl _ s

theorem State.handleRequest_changes (f : CabFrame) : changesOnly [.portA, .inFlight] s (s.handleRequest f) :=
  .ite (.refl _ s) (.ite (s.takePart_changes f) (((s.setAssembly_changes _).mono (by decide)).trans
    (State.takeRequest_changes _ _ _ _ _)))

theorem State.cabArrived_changes (f : CabFrame) : changesOnly [.portA, .inFlight] s (s.cabArrived f) :=
  s.takeFrame_changes _ fun s => s.hearCab_changes.trans (State.handleRequest_changes _ f)

/-! ### The sensor poll unit -/

/-- A change of the SPU alone. -/
theorem changesOnly_spu (p : Spu) : changesOnly [.spu] s { s with spu := p } := fun b => by
  cases b <;> simp [Aspect.stands, storesOk, noticesOk]

theorem State.frameTimer_changes : changesOnly [.spu, .inFlight] s s.frameTimer := by
  unfold State.frameTimer
  split
  · exact (changesOnly_spu s _).mono (by decide)
  · exact .ite ((changesOnly_spu s _).mono (by decide))
      (((changesOnly_spu s _).mono (by decide)).trans ((State.report_changes _ _ _ _).mono (by decide)))

theorem State.reportFlag_changes (code : FaultCode) (d : Int) (m : FrameNo) (before after : Bool) :
    changesOnly [.inFlight] s (s.reportFlag code d m before after) :=
  .ite (s.report_changes _ _ _) (.ite (s.reportClear_changes _ _ _) (.refl _ s))

theorem State.reportSlots_changes (m : FrameNo) (before after : List SlotRun) :
    changesOnly [.inFlight] s (s.reportSlots m before after) :=
  .foldl (fun (s : State) (x : (SlotRun × SlotRun) × Nat) =>
    (s.reportFlag_changes .sensorMissing x.2 m x.1.1.missing x.1.2.missing).trans
      (State.reportFlag_changes _ .sensorRange x.2 m x.1.1.range x.1.2.range)) _ s

theorem State.closePoll_changes : changesOnly [.spu, .inFlight] s s.closePoll :=
  ((changesOnly_spu s _).mono (by decide)).trans ((((State.reportSlots_changes _ _ _ _).trans
    (State.reportFlag_changes _ _ _ _ _ _)).trans (State.deliver_changes _ _)).mono (by decide))

theorem State.transferDone_changes (bits : List Bool) : changesOnly [.spu, .inFlight] s (s.transferDone bits) := by
  unfold State.transferDone
  split
  · exact .refl _ s
  · exact s.closePoll_changes
  · split
    · exact .refl _ s
    · exact .ite (((changesOnly_spu s _).mono (by decide)).trans (State.closePoll_changes _))
        ((changesOnly_spu s _).mono (by decide))

/-! ### The start -/

/-- What a start may change: everything but the lines and the queue. -/
abbrev startBlocks : List Aspect :=
  [.supply, .settings, .spu, .geu, .cyt, .ggu, .env, .lev, .epc, .smu, .fhu, .nvc, .portA, .portB, .sli, .inFlight,
    .freeCount, .zones, .faults, .meters]

theorem noticeTableOk_replicate : noticeTableOk (List.replicate 11 0) := ⟨rfl, by decide⟩

theorem storesOk_blocksStarted (meters : List Nat) : storesOk (s.blocksStarted meters) :=
  ⟨⟨Nat.zero_le 4, List.nodup_nil⟩, fun _ hw => nomatch hw⟩

theorem noticesOk_blocksStarted (meters : List Nat) : noticesOk (s.blocksStarted meters) :=
  ⟨noticeTableOk_replicate, noticeTableOk_replicate, Nat.zero_le 4⟩

theorem State.blocksStarted_changes (meters : List Nat) : changesOnly startBlocks s (s.blocksStarted meters) :=
    fun b => by
  cases b with
  | stores => exact .inr fun _ => storesOk_blocksStarted s meters
  | notices => exact .inr fun _ => noticesOk_blocksStarted s meters
  | _ => simp [Aspect.stands, State.blocksStarted]

theorem State.announceHold_changes : changesOnly [.inFlight, .portA, .sli] s s.announceHold :=
  .ite ((s.deliverHold_changes.mono (by decide)).trans ((State.raiseBoth_changes _ _).mono (by decide))) (.refl _ s)

theorem State.configInvalid_changes (d : Option Nat) : changesOnly faultBlocks s (s.configInvalid d) := by
  cases d with
  | none => exact .refl _ s
  | some k => exact s.takeFault_changes _

theorem State.keyAtStart_changes : changesOnly keyBlocks s s.keyAtStart := .ite (.refl _ s) s.keyOffTaken_changes

theorem State.started_changes (meters : List Nat) : changesOnly startBlocks s (s.started meters) := by
  unfold State.started
  dsimp only
  have hfailed : ∀ u : State, changesOnly faultBlocks u ((failedRecords s.nvc.array).foldl State.restoreBad u) :=
    .foldl (fun u r => u.takeFault_changes _) _
  exact (s.blocksStarted_changes meters).trans (((((((State.deliver_changes _ _).mono (by decide)).trans
    ((State.announceHold_changes _).mono (by decide))).trans ((hfailed _).mono (by decide))).trans
      ((State.configInvalid_changes _ _).mono (by decide))).trans ((State.settle_changes _).mono (by decide))).trans
        ((State.keyAtStart_changes _).mono (by decide)))

theorem State.supplyLost_changes : changesOnly startBlocks s s.supplyLost := fun b => by
  cases b with
  | stores =>
    exact .inr fun _ => storesOk_blocksStarted { s with nvc := { s.nvc with array := s.cutArray } } (List.replicate 8 0)
  | notices =>
    exact .inr fun _ => noticesOk_blocksStarted { s with nvc := { s.nvc with array := s.cutArray } }
      (List.replicate 8 0)
  | _ => simp [Aspect.stands, State.supplyLost, State.blocksStarted]

theorem State.poweredOn_changes : changesOnly startBlocks s s.poweredOn :=
  changesOnly.trans (.ite s.supplyLost_changes (.refl _ s)) (State.started_changes _ _)

end

/-! ### The commands -/

theorem onEvent_changes {F : List Aspect} {f : State → State} {s t : State} (hf : ∀ s, changesOnly F s (f s))
    (h : onEvent f s = .next t) : changesOnly F s t := by
  obtain rfl := Host.Outcome.next.inj h
  exact .ite (hf s) (.refl F s)

theorem onDelivery_changes {F : List Aspect} {c : Instr} {f : State → State} {s t : State} (hin : .inFlight ∈ F)
    (hf : ∀ s, changesOnly F s (f s)) (h : onDelivery c f s = .next t) : changesOnly F s t := by
  obtain rfl := Host.Outcome.next.inj h
  exact .ite (((s.taken_changes c).mono fun b hb => List.mem_singleton.1 hb ▸ hin).trans (hf _)) (.refl F s)

theorem onLine_changes {F : List Aspect} {l : Lines → Lines} {f : State → State} {s t : State} (hin : .lines ∈ F)
    (hf : ∀ s, changesOnly F s (f s)) (h : onLine l f s = .next t) : changesOnly F s t := by
  refine changesOnly.trans (t := { s with lines := l s.lines }) (fun b => ?_) (onEvent_changes hf h)
  cases b <;> simp [Aspect.stands, storesOk, noticesOk, hin]

/-- The components a command may change. -/
def footprint : Instr → List Aspect
  | .powerOn | .supplyLoss | .supervisorRestart => startBlocks
  | .frameTimerExpiry | .transferComplete _ => [.spu, .inFlight]
  | .geuPoseFrame _ => [.geu, .inFlight]
  | .cytPoseRecord _ | .cueResult _ _ | .cytPumpStatus _ | .cytPcuStaleness | .cytPcuFreshness => [.cyt, .inFlight]
  | .gguPoseRecord _ | .floorList _ _ | .phaseReport _ _ | .gguCycleEnd _ | .guidanceOn _ | .guidanceOff _ | .assistOn _
  | .assistOff _ | .targetLoad _ _ | .targetAdvance _ | .targetClear _ => [.ggu, .portA, .inFlight]
  | .envPoseRecord _ => frameBlocks
  | .suspensionTimerExpiry | .envCabStaleness | .stateReport _ _ | .zoneEdit _ _ _ | .zoneSuspend _ _ _ =>
    [.env, .zones, .portA, .sli, .inFlight]
  | .suspendZone _ _ => [.env, .zones, .portA, .sli, .inFlight, .freeCount]
  | .levPoseRecord _ | .frameZoneSet _ _ | .assistRequest _ _ | .levHoldEntry => [.lev, .portB, .inFlight]
  | .planIntervalExpiry => [.epc, .portA, .sli, .portB, .inFlight]
  | .epcEngineStatus _ _ _ _ _ | .epcPumpStatus _ _ | .epcPcuStaleness | .epcPcuFreshness | .governorStaleness _
  | .consequenceSummary _ | .epcHoldEntry | .epcHoldClear | .epcCycleEnd | .tripFuelIncrement _ | .setMode _ _
  | .autoSingle _ _ | .autoIdle _ _ | .tripReset _ => [.epc, .portA, .sli, .inFlight]
  | .clearFailed _ => [.epc, .portA, .sli, .inFlight, .freeCount]
  | .slewIncrement _ | .smuCycleEnd | .smuPumpStatus _ | .smuPcuStaleness | .reminderAck _ _ => itemBlocks
  | .smuOneSecondStep | .itemDone _ | .meterPreset _ _ => meterBlocks
  | .writeEntries _ _ => tableBlocks
  | .cabItemDone _ _ => doneBlocks
  | .faultReport _ => faultBlocks
  | .nvWriteComplete _ => writeBlocks
  | .keyOff => .lines :: keyBlocks
  | .keyOn => [.lines, .nvc, .epc, .portA, .sli]
  | .pwrfailAssert => [.lines, .nvc, .env, .fhu, .smu, .inFlight]
  | .pwrfailDeassert | .maintenanceEnableChange _ => [.lines]
  | .stepTimerExpiry _ | .ignoredFrame _ | .pumpStatus _ | .engineStatus _ _ | .transmissionEnd _ _ | .busRejoin _ =>
    [.portA, .portB, .inFlight]
  | .cabRequest _ | .presence _ | .unknownRequestKind _ _ | .requestPart0 _ _ _ | .unmatchedPart1 _ _ _ =>
    [.portA, .inFlight]
  | .statusTimerExpiry => [.portA]
  | .requestBlock _ | .shortBlock _ | .linkBusyRefusal _ => [.sli, .inFlight]
  | .answerRead => [.sli, .freeCount]
  | .unknownOperation | .levelRefusal | .selectTable _ _ | .readEntries _ | .takeNotice => [.sli, .inFlight, .freeCount]
  | .clearHold => .freeCount :: faultBlocks
  | .commitConfig => .inFlight :: .sli :: .freeCount :: storeBlocks
  | .restart => [.nvc, .sli, .inFlight, .freeCount]
  | .levHoldClear | .governorFreshness _ | .smuPcuFreshness | .envCabFreshness => [.inFlight]

/-- A command changes no component outside its footprint. -/
theorem exec_changes {c : Instr} {s t : State} (h : exec c s = .next t) : changesOnly (footprint c) s t := by
  cases c with
  | powerOn =>
    obtain rfl := Host.Outcome.next.inj h
    exact s.poweredOn_changes
  | supplyLoss => exact onEvent_changes State.supplyLost_changes h
  | frameTimerExpiry => exact onEvent_changes State.frameTimer_changes h
  | transferComplete bits => exact onEvent_changes (fun s => s.transferDone_changes bits) h
  | geuPoseFrame p => exact onDelivery_changes (by simp [footprint]) (fun s => s.geuFrame_changes p) h
  | cytPoseRecord r => exact onDelivery_changes (by simp [footprint]) (fun s => s.cytRecord_changes r) h
  | cueResult | cytPumpStatus | cytPcuStaleness | cytPcuFreshness =>
    exact onDelivery_changes (by simp [footprint]) (fun s => (changesOnly_cyt s _).mono (by simp [footprint])) h
  | gguPoseRecord | floorList | phaseReport =>
    exact onDelivery_changes (by simp [footprint]) (fun s => s.gguPart_changes _ _) h
  | gguCycleEnd n =>
    exact onDelivery_changes (by simp [footprint]) (fun s => (s.gguCycleEnd_changes n).mono (by simp [footprint])) h
  | envPoseRecord r => exact onDelivery_changes (by simp [footprint]) (fun s => s.envRecord_changes r) h
  | suspensionTimerExpiry => exact onEvent_changes (fun s => s.suspensionTick_changes.mono (by simp [footprint])) h
  | envCabStaleness =>
    exact onDelivery_changes (by simp [footprint])
      (fun s => s.endOperatorSuspensions_changes.mono (by simp [footprint])) h
  | stateReport m l =>
    exact onDelivery_changes (by simp [footprint]) (fun s => (s.takeReport_changes m l).mono (by simp [footprint])) h
  | levPoseRecord | frameZoneSet | assistRequest =>
    exact onDelivery_changes (by simp [footprint]) (fun s => s.levPart_changes _ _) h
  | levHoldEntry =>
    exact onDelivery_changes (by simp [footprint]) (fun s => (s.handOn_changes _).mono (by simp [footprint])) h
  | levHoldClear | governorFreshness | smuPcuFreshness | envCabFreshness =>
    exact onDelivery_changes (by simp [footprint]) (changesOnly.refl _) h
  | planIntervalExpiry => exact onEvent_changes State.planInterval_changes h
  | epcEngineStatus e code load speed fuel =>
    exact onDelivery_changes (by simp [footprint]) (fun s => s.engineReport_changes e _ load speed fuel) h
  | epcPumpStatus | epcPcuStaleness | epcPcuFreshness | governorStaleness | consequenceSummary | epcHoldEntry
  | epcHoldClear =>
    exact onDelivery_changes (by simp [footprint]) (fun s => (s.epcEvent_changes _).mono (by simp [footprint])) h
  | epcCycleEnd | tripFuelIncrement =>
    exact onDelivery_changes (by simp [footprint]) (fun s => (changesOnly_epc s _).mono (by simp [footprint])) h
  | tripReset =>
    exact onDelivery_changes (by simp [footprint]) (fun s => ((changesOnly_epc s _).mono (by simp [footprint])).trans
      ((State.answerCab_changes _ _ _).mono (by simp [footprint]))) h
  | smuOneSecondStep => exact onEvent_changes State.oneSecond_changes h
  | slewIncrement n => exact onDelivery_changes (by simp [footprint]) (fun s => s.accrue_changes 5 65536 n) h
  | smuCycleEnd => exact onDelivery_changes (by simp [footprint]) (fun s => s.setMeter_changes 6 _) h
  | smuPumpStatus | smuPcuStaleness =>
    exact onDelivery_changes (by simp [footprint]) (fun s => (changesOnly_smu s _).mono (by simp [footprint])) h
  | faultReport r =>
    exact onDelivery_changes (by simp [footprint])
      (fun s => (s.takeFault_changes r).trans ((State.settle_changes _).mono (by decide))) h
  | nvWriteComplete ok => exact onEvent_changes (fun s => s.writeComplete_changes ok) h
  | keyOff =>
    exact onLine_changes (l := fun l => { l with key := false }) (f := State.keyOffTaken) (by simp [footprint])
      (fun s => s.keyOffTaken_changes.mono (by simp [footprint])) h
  | keyOn =>
    exact onLine_changes (l := fun l => { l with key := true }) (f := State.keyOnTaken) (by simp [footprint])
      (fun s => s.keyOnTaken_changes.mono (by simp [footprint])) h
  | pwrfailAssert =>
    exact onLine_changes (l := fun l => { l with pwrfail := true }) (f := fun s => (s.ownRequest .meters true).settle)
      (by simp [footprint]) (fun s => ((s.ownRequest_changes .meters true).mono (by simp [footprint])).trans
      ((State.settle_changes _).mono (by simp [footprint]))) h
  | pwrfailDeassert =>
    exact onLine_changes (l := fun l => { l with pwrfail := false }) (f := id) (by simp [footprint])
      (changesOnly.refl _) h
  | maintenanceEnableChange high =>
    exact onLine_changes (l := fun l => { l with maint := high }) (f := id) (by simp [footprint]) (changesOnly.refl _) h
  | supervisorRestart =>
    exact onDelivery_changes (by simp [footprint]) (fun s => .ite (s.started_changes _) (.refl _ s)) h
  | stepTimerExpiry port =>
    cases port with
    | a => exact onEvent_changes (fun s => s.stepA_changes.mono (by simp [footprint])) h
    | b => exact onEvent_changes (fun s => s.stepB_changes.mono (by simp [footprint])) h
  | ignoredFrame rx => exact onEvent_changes (fun s => s.takeFrame_changes rx fun s => s.hearSource_changes rx) h
  | pumpStatus data =>
    exact onEvent_changes (fun s => s.takeFrame_changes _ fun s => (s.pumpArrived_changes data).mono
      (by simp [footprint])) h
  | engineStatus e data =>
    exact onEvent_changes (fun s => s.takeFrame_changes _ fun s => (s.engineArrived_changes e data).mono
      (by simp [footprint])) h
  | cabRequest | presence | unknownRequestKind | requestPart0 | unmatchedPart1 =>
    exact onEvent_changes (fun s => s.cabArrived_changes _) h
  | transmissionEnd port ok =>
    cases port with
    | a => exact onEvent_changes (fun s => (s.endA_changes ok).mono (by simp [footprint])) h
    | b => exact onEvent_changes (fun s => (s.endB_changes ok).mono (by simp [footprint])) h
  | busRejoin port =>
    cases port with
    | a => exact onEvent_changes (fun s => s.rejoinA_changes.mono (by simp [footprint])) h
    | b => exact onEvent_changes (fun s => s.rejoinB_changes.mono (by simp [footprint])) h
  | statusTimerExpiry => exact onEvent_changes (fun s => State.handStatus_changes s _) h
  | setMode place mode =>
    exact onDelivery_changes (by simp [footprint])
      (fun s => (s.requestMode_changes place mode).mono (by simp [footprint])) h
  | autoSingle place on =>
    exact onDelivery_changes (by simp [footprint])
      (fun s => (s.requestAutoSingle_changes place on).mono (by simp [footprint])) h
  | autoIdle =>
    exact onDelivery_changes (by simp [footprint]) (fun s => ((s.epcEvent_changes _).mono (by simp [footprint])).trans
      ((State.answerCab_changes _ _ _).mono (by simp [footprint]))) h
  | guidanceOn | guidanceOff | assistOn | assistOff | targetLoad | targetClear =>
    exact onDelivery_changes (by simp [footprint]) (fun s => ((changesOnly_ggu s _).mono (by simp [footprint])).trans
      ((State.answerCab_changes _ _ _).mono (by simp [footprint]))) h
  | targetAdvance place =>
    exact onDelivery_changes (by simp [footprint])
      (fun s => (s.advanceTarget_changes place).mono (by simp [footprint])) h
  | zoneEdit =>
    exact onDelivery_changes (by simp [footprint]) (fun s => ((changesOnly_env s _).mono (by simp [footprint])).trans
      ((State.answerCab_changes _ _ _).mono (by simp [footprint]))) h
  | zoneSuspend =>
    exact onDelivery_changes (by simp [footprint])
      (fun s => ((s.suspended_changes _ _ _ _ _).mono (by simp [footprint])).trans
      ((State.answerCab_changes _ _ _).mono (by simp [footprint]))) h
  | suspendZone =>
    exact onDelivery_changes (by simp [footprint])
      (fun s => ((s.suspended_changes _ _ _ _ _).mono (by simp [footprint])).trans
      ((State.answerPlain_changes _ _).mono (by simp [footprint]))) h
  | reminderAck =>
    exact onDelivery_changes (by simp [footprint]) (fun s => ((changesOnly_smu s _).mono (by simp [footprint])).trans
      ((State.answerCab_changes _ _ _).mono (by simp [footprint]))) h
  | cabItemDone place item => exact onDelivery_changes (by simp [footprint]) (fun s => s.cabDone_changes place item) h
  | requestBlock block | shortBlock block | linkBusyRefusal block =>
    exact onEvent_changes (fun s => s.blockArrived_changes block) h
  | answerRead => exact onEvent_changes State.answerRead_changes h
  | unknownOperation | levelRefusal =>
    exact onDelivery_changes (by simp [footprint]) (fun s => (s.answerPlain_changes _).mono (by simp [footprint])) h
  | selectTable table index =>
    exact onDelivery_changes (by simp [footprint])
      (fun s => (s.select_changes table index).mono (by simp [footprint])) h
  | readEntries n =>
    exact onDelivery_changes (by simp [footprint]) (fun s => (s.readTable_changes n).mono (by simp [footprint])) h
  | writeEntries n data =>
    exact onDelivery_changes (by simp [footprint])
      (fun s => (s.writeTable_changes n data).trans ((State.settle_changes _).mono (by decide))) h
  | itemDone item => exact onDelivery_changes (by simp [footprint]) (fun s => s.serviceDone_changes item) h
  | meterPreset meter value => exact onDelivery_changes (by simp [footprint]) (fun s => s.preset_changes meter value) h
  | clearHold =>
    exact onDelivery_changes (by simp [footprint])
      (fun s => s.clearHold_changes.trans ((State.settle_changes _).mono (by decide))) h
  | clearFailed n => exact onDelivery_changes (by simp [footprint]) (fun s => s.clearFailed_changes n) h
  | commitConfig =>
    exact onDelivery_changes (by simp [footprint])
      (fun s => (s.commit_changes.mono (by simp [footprint])).trans
        ((State.settle_changes _).mono (by simp [footprint]))) h
  | restart =>
    exact onDelivery_changes (by simp [footprint])
      (fun s => (((changesOnly_nvc (n := { s.nvc with restartPending := true }) (by exact id)).mono
        (by simp [footprint])).trans
      ((State.answerPlain_changes _ _).mono (by simp [footprint]))).trans
        ((State.settle_changes _).mono (by simp [footprint]))) h
  | takeNotice =>
    exact onDelivery_changes (by simp [footprint]) (fun s => s.takeNotice_changes.mono (by simp [footprint])) h

/-- Every command answers a next state. -/
theorem exec_answers (c : Instr) (s : State) : ∃ t, exec c s = .next t := by
  cases c <;> exact ⟨_, rfl⟩

/-! ### Promises kept by every step -/

/-- The promise `P` reads the components `R` alone. -/
def reads (R : List Aspect) (P : State → Prop) : Prop := ∀ s t, (∀ b ∈ R, b.stands s t) → P s → P t

/-- A change outside what a promise reads keeps it. -/
theorem reads.keeps {R F : List Aspect} {P : State → Prop} (hP : reads R P) {s t : State} (h : changesOnly F s t)
    (hd : ∀ b ∈ R, b ∉ F) (hs : P s) : P t :=
  hP s t (fun b hb => h.stands b (hd b hb)) hs

/-- A command whose footprint is disjoint from what a promise reads keeps it. -/
theorem reads.keeps_exec {R : List Aspect} {P : State → Prop} (hP : reads R P) {c : Instr} {s t : State}
    (h : exec c s = .next t) (hs : P s) (hd : ∀ b ∈ R, b ∉ footprint c) : P t :=
  hP.keeps (exec_changes h) hd hs

theorem onEvent_keeps {P : State → Prop} {f : State → State} {s t : State} (hs : P s)
    (hf : s.supply = true → P s → P (f s)) (h : onEvent f s = .next t) : P t := by
  obtain rfl := Host.Outcome.next.inj h
  split
  next on => exact hf on hs
  next => exact hs

/-- A delivery keeps a promise that does not read the deliveries in flight, when its action does. -/
theorem onDelivery_keeps {R : List Aspect} {P : State → Prop} (hP : reads R P) (hR : .inFlight ∉ R) {c : Instr}
    {f : State → State} {s t : State} (hs : P s) (hf : ∀ u : State, P u → P (f u))
    (h : onDelivery c f s = .next t) : P t := by
  obtain rfl := Host.Outcome.next.inj h
  split
  · exact hf _ (hP.keeps (s.taken_changes c) (fun b hb hin => hR (List.mem_singleton.1 hin ▸ hb)) hs)
  · exact hs

theorem onLine_keeps {R : List Aspect} {P : State → Prop} (hP : reads R P) (hR : .lines ∉ R) {l : Lines → Lines}
    {f : State → State} {s t : State} (hs : P s) (hf : ∀ u : State, P u → P (f u))
    (h : onLine l f s = .next t) : P t := by
  have hlines : changesOnly [.lines] s { s with lines := l s.lines } :=
    fun b => by cases b <;> simp [Aspect.stands, storesOk, noticesOk]
  exact onEvent_keeps (hP.keeps hlines (fun b hb hin => hR (List.mem_singleton.1 hin ▸ hb)) hs) (fun _ => hf _) h

/-- A promise that does not read the queue and that every command keeps is kept by every step. -/
theorem step_keeps {R : List Aspect} {P : State → Prop} (hP : reads R P) (hR : .pending ∉ R)
    (hexec : ∀ c s t, P s → exec c s = .next t → P t) (s t : State) (hs : P s) (h : step s = .next t) : P t := by
  unfold step at h
  split at h
  case h_1 c rest hq =>
    refine hexec c _ t ?_ h
    have hrest : changesOnly [.pending] s { s with pending := rest } :=
      fun b => by cases b <;> simp [Aspect.stands, storesOk, noticesOk]
    exact hP.keeps hrest (fun b hb hin => hR (List.mem_singleton.1 hin ▸ hb)) hs
  case h_2 hq =>
    split at h
    · exact hexec _ s t hs h
    · exact Host.Outcome.next.inj h ▸ hs

end Sys2Proof.Machine
end

/-! ## The step, the queue, the stores and the notices (O1, O2, O3, O4, O14) -/

section
namespace Sys2Proof.Machine

open Sys2Proof

/-- Settles O1: the front command is what `step` matches on. -/
theorem stepRunsTheFrontCommand : Obligations.StepRunsTheFrontCommand := by
  intro c rest s
  rfl

/-- The queue of commands and the promises are in no command's footprint. -/
theorem footprint_excludes (c : Instr) : .pending ∉ footprint c ∧ .stores ∉ footprint c ∧ .notices ∉ footprint c := by
  cases c <;> simp [footprint]

theorem reads_storesOk : reads [.nvc] storesOk := fun s t h hs => by
  have hnvc : t.nvc = s.nvc := h .nvc (by simp)
  rwa [storesOk, hnvc]

theorem reads_noticesOk : reads [.portA, .sli] noticesOk := fun s t h hs => by
  have hport : t.portA = s.portA := h .portA (by simp)
  have hlink : t.sli = s.sli := h .sli (by simp)
  rwa [noticesOk, hport, hlink]

/-- Settles O3: the promise is an aspect that no operation changes. -/
theorem storeQueueAndCopiesAreKept : Obligations.StoreQueueAndCopiesAreKept :=
  step_keeps reads_storesOk (by simp) fun c _ _ hs h =>
    (exec_changes h).stands .stores (footprint_excludes c).2.1 hs

/-- Settles O4: the promise is an aspect that no operation changes. -/
theorem noticeCountsStayInRange : Obligations.NoticeCountsStayInRange :=
  step_keeps reads_noticesOk (by simp) fun c _ _ hs h =>
    (exec_changes h).stands .notices (footprint_excludes c).2.2 hs

/-- The five events of a line: they act without supply too, on the lines alone. -/
def isLineEvent : Instr → Bool
  | .keyOff | .keyOn | .pwrfailAssert | .pwrfailDeassert | .maintenanceEnableChange _ => true
  | _ => false

/-- Without supply a command that is no line event and not POWER_ON changes nothing (log 5). -/
theorem exec_off {c : Instr} {s : State} (off : s.supply = false) (hon : c ≠ .powerOn) (hline : isLineEvent c = false) :
    exec c s = .next s := by
  have hoff : ¬ s.supply = true := by simp [off]
  cases c with
  | powerOn => exact absurd rfl hon
  | keyOff | keyOn | pwrfailAssert | pwrfailDeassert | maintenanceEnableChange =>
    exact absurd hline (by simp [isLineEvent])
  | stepTimerExpiry port | transmissionEnd port _ | busRejoin port =>
    cases port <;> exact congrArg Host.Outcome.next (if_neg hoff)
  | _ => exact congrArg Host.Outcome.next (if_neg hoff)

/-- Without supply a line event changes the lines alone (log 5). -/
theorem exec_line_off {c : Instr} {s : State} (off : s.supply = false) (hline : isLineEvent c = true) :
    ∃ l, exec c s = .next { s with lines := l } := by
  have hoff : ¬ s.supply = true := by simp [off]
  cases c with
  | keyOff | keyOn | pwrfailAssert | pwrfailDeassert | maintenanceEnableChange =>
    exact ⟨_, congrArg Host.Outcome.next (if_neg hoff)⟩
  | _ => simp [isLineEvent] at hline

/-- Settles O2: the queue is in no footprint, and without supply a command is one of the five line events or does
nothing. -/
theorem everyCommandCompletesAndKeepsTheQueue : Obligations.EveryCommandCompletesAndKeepsTheQueue := by
  constructor
  · intro c s
    obtain ⟨t, h⟩ := exec_answers c s
    exact ⟨t, h, (exec_changes h).stands .pending (footprint_excludes c).1⟩
  · intro c s off hon
    cases hline : isLineEvent c with
    | false => exact ⟨s.lines, exec_off off hon hline, fun _ _ _ _ _ => rfl⟩
    | true =>
      obtain ⟨l, h⟩ := exec_line_off off hline
      refine ⟨l, h, fun hkeyOff hkeyOn hassert hdeassert hmaint => ?_⟩
      cases c with
      | keyOff => exact absurd rfl hkeyOff
      | keyOn => exact absurd rfl hkeyOn
      | pwrfailAssert => exact absurd rfl hassert
      | pwrfailDeassert => exact absurd rfl hdeassert
      | maintenanceEnableChange high => exact absurd rfl (hmaint high)
      | _ => simp [isLineEvent] at hline

end Sys2Proof.Machine
end

/-! ## Store requests: what the queue holds after one (R168) -/

section
namespace Sys2Proof.Machine

open Sys2Proof

theorem Nvc.queued_iff (r : RecordId) (n : Nvc) : n.queued r = true ↔ r ∈ n.queue.map StoreEntry.record := by
  simp [Nvc.queued]

/-- The queue has an entry for the record whose write is in flight (R165). -/
theorem writeOk.queued {n : Nvc} (h : writeOk n) {r : RecordId} (hw : n.writing r = true) : n.queued r = true := by
  unfold Nvc.writing at hw
  split at hw
  next w hwrite =>
    obtain ⟨hhead, -⟩ := h w hwrite
    have hr : w.record = r := of_decide_eq_true hw
    rw [Nvc.queued_iff]
    cases hq : n.queue with
    | nil => simp [hq] at hhead
    | cons e rest =>
      have he : e.record = w.record := by simpa [hq] using hhead
      simp [he, hr]
  next => exact absurd hw (by simp)

/-- A request for a record without an entry adds its entry, at one place or another. -/
theorem Nvc.queueAfter_new {r : RecordId} {n : Nvc} (head service : Bool) (hw : n.writing r = false)
    (hq : n.queued r = false) :
    (n.queueAfter r head service).Perm ({ record := r, again := false, service := service } :: n.queue) := by
  have hfind : n.queue.find? (fun e => decide (e.record = r)) = none := by
    simpa [Nvc.queued] using hq
  unfold Nvc.queueAfter
  rw [if_neg (by simp [hw]), hfind]
  dsimp only
  split
  · exact atHead_perm _ _ _
  · exact List.perm_append_singleton _ _

/-- A request for a record that has an entry leaves the records of the queue, in one order or another. -/
theorem Nvc.queueAfter_absorbed {r : RecordId} {n : Nvc} (head service : Bool)
    (hnodup : (n.queue.map StoreEntry.record).Nodup) (hq : n.queued r = true) :
    ((n.queueAfter r head service).map StoreEntry.record).Perm (n.queue.map StoreEntry.record) := by
  have habsorbed : ∀ again : Bool,
      ((n.queue.map fun e => if e.record = r then e.absorbed again service else e).map StoreEntry.record)
        = n.queue.map StoreEntry.record := fun again => map_records (absorbed_record_of r again service) _
  unfold Nvc.queueAfter
  split
  · rw [habsorbed]
  · split
    next e hfind =>
      split
      · have hr : e.record = r := by simpa using List.find?_some hfind
        have hmem : r ∈ n.queue.map StoreEntry.record := (Nvc.queued_iff r n).1 hq
        refine ((atHead_perm _ _ _).map _).trans ?_
        have hrest : (n.queue.filter fun x => !decide (x.record = r)).map StoreEntry.record
            = (n.queue.map StoreEntry.record).erase r := by
          rw [hnodup.erase_eq_filter, List.filter_map]
          congr 1
        rw [List.map_cons, StoreEntry.absorbed_record, hr, hrest]
        exact (List.perm_cons_erase hmem).symm
      · rw [habsorbed]
    next hfind =>
      obtain ⟨hnot, -⟩ := Nvc.queued_eq_false hfind
      rw [hq] at hnot
      exact absurd hnot (by simp)

/-- R168: after a request the queue holds the records it held, and its own where the request is taken. -/
theorem Nvc.queued_requested {n : Nvc} (hq : queueOk n) (hw : writeOk n) (r r' : RecordId) (head service : Bool) :
    (n.requested r head service).queued r' = (n.queued r' || (decide (r = r') && n.takes r)) := by
  cases ht : n.takes r with
  | false => rw [Nvc.requested_refused r head service n ht]; simp
  | true =>
    rw [Bool.eq_iff_iff, Nvc.queued_iff, Nvc.requested_queue r head service n ht]
    cases hqueued : n.queued r with
    | true =>
      rw [(Nvc.queueAfter_absorbed head service hq.2 hqueued).mem_iff, ← Nvc.queued_iff]
      by_cases hr : r = r'
      · subst hr; simp [hqueued]
      · simp [hr]
    | false =>
      have hidle : n.writing r = false := by
        by_contra hwr
        exact absurd (hw.queued (by simpa using hwr)) (by simp [hqueued])
      rw [((Nvc.queueAfter_new head service hidle hqueued).map _).mem_iff]
      rw [List.map_cons, List.mem_cons, ← Nvc.queued_iff, Bool.and_true, Bool.or_eq_true, decide_eq_true_eq, or_comm,
        eq_comm (a := r)]

/-- R168: a request adds one place where it is taken without an entry to absorb it. -/
theorem Nvc.length_requested {n : Nvc} (hq : queueOk n) (hw : writeOk n) (r : RecordId) (head service : Bool) :
    (n.requested r head service).queue.length
      = n.queue.length + (if n.queued r = false ∧ n.queue.length < 4 then 1 else 0) := by
  cases hqueued : n.queued r with
  | true =>
    have ht : n.takes r = true := by simp [Nvc.takes, hqueued]
    rw [Nvc.requested_queue r head service n ht]
    simpa using (Nvc.queueAfter_absorbed head service hq.2 hqueued).length_eq
  | false =>
    by_cases hroom : n.queue.length < 4
    · have ht : n.takes r = true := by simp [Nvc.takes, hroom]
      have hidle : n.writing r = false := by
        by_contra hwr
        exact absurd (hw.queued (by simpa using hwr)) (by simp [hqueued])
      rw [Nvc.requested_queue r head service n ht, (Nvc.queueAfter_new head service hidle hqueued).length_eq]
      simp [hroom]
    · have ht : n.takes r = false := by simp [Nvc.takes, hroom, hqueued]
      rw [Nvc.requested_refused r head service n ht]
      simp [hroom]

theorem storesOk.requested {n : Nvc} (h : queueOk n ∧ writeOk n) (r : RecordId) (head service : Bool) :
    queueOk (n.requested r head service) ∧ writeOk (n.requested r head service) := Nvc.requested_keeps h.1 h.2

/-! ### The marks of the owners -/

section
variable (head service : Bool) (s : State)

theorem State.requestStore_zonesSite : s.requestStore .zonesSite head service = { s with
    nvc := s.nvc.requested .zonesSite head service
    env := { s.env with unstoredSite := !s.nvc.takes .zonesSite } } := rfl

theorem State.requestStore_zonesOper : s.requestStore .zonesOper head service = { s with
    nvc := s.nvc.requested .zonesOper head service
    env := { s.env with unstoredOper := !s.nvc.takes .zonesOper } } := rfl

theorem State.requestStore_holdRecord : s.requestStore .hold head service = { s with
    nvc := s.nvc.requested .hold head service
    fhu := { s.fhu with unstored := !s.nvc.takes .hold } } := rfl

theorem State.requestStore_items :
    s.requestStore .items head service = { s with nvc := s.nvc.requested .items head service } := rfl

theorem State.requestStore_config :
    s.requestStore .config head service = { s with nvc := s.nvc.requested .config head service } := rfl

theorem State.requestStore_meters : s.requestStore .meters head service = { s with
    nvc := s.nvc.requested .meters head service
    smu := if s.nvc.takes .meters then { s.smu with snapDue := false, snapCount := 0 } else s.smu } := by
  cases h : s.nvc.takes .meters <;> simp [State.requestStore, State.ownerTold, h]

end

end Sys2Proof.Machine
end

/-! ## The start: what it restores, and what stands after its reports -/

section
namespace Sys2Proof.Machine

open Sys2Proof

/-! ### Restored contents (R165, R166) -/

theorem NvPair.newer_passes {r : RecordId} {p : NvPair} {b : Bool} (h : p.newer r = some b) :
    (p.copy b).passes r = true := by
  unfold NvPair.newer at h
  split at h
  next ha =>
    split at h
    next hb =>
      obtain rfl := Option.some.inj h
      cases hn : p.aNewer <;> simp [NvPair.copy, ha, hb]
    next =>
      obtain rfl := Option.some.inj h
      exact ha
  next =>
    split at h
    next hb =>
      obtain rfl := Option.some.inj h
      exact hb
    next => exact absurd h (by simp)

theorem NvCopy.fits_of_passes {r : RecordId} {x : NvCopy} {c : Content} (h : x.passes r = true)
    (hc : x.content? = some c) : contentFits r c = true := by
  cases x with
  | written id generation content code =>
    obtain rfl : content = c := by simpa [NvCopy.content?] using hc
    obtain ⟨⟨-, hfits⟩, -⟩ : (_ ∧ contentFits r content = true) ∧ _ := by simpa [NvCopy.passes] using h
    exact hfits
  | _ => simp [NvCopy.content?] at hc

/-- R166: what a record restores has the fields of that record. -/
theorem NvPair.restored_fits {r : RecordId} {p : NvPair} {c : Content} (h : p.restored r = some c) :
    contentFits r c = true := by
  unfold NvPair.restored at h
  split at h
  next b hb => exact NvCopy.fits_of_passes (NvPair.newer_passes hb) h
  next => exact absurd h (by simp)

theorem restoredZones_length {a : NvArray} {r : RecordId} {l : List ZoneDef} (h : restoredZones a r = some l) :
    l.length = 8 := by
  unfold restoredZones at h
  split at h
  next defs hr =>
    obtain rfl := Option.some.inj h
    have := NvPair.restored_fits hr
    simp only [contentFits, Bool.and_eq_true, beq_iff_eq] at this
    exact this.2
  next => exact absurd h (by simp)

theorem restoredItems_length {a : NvArray} {l : List (ItemDef × Nat)} (h : restoredItems a = some l) :
    l.length = 32 := by
  unfold restoredItems at h
  split at h
  next defs hr =>
    obtain rfl := Option.some.inj h
    have := NvPair.restored_fits hr
    simp only [contentFits, Bool.and_eq_true, beq_iff_eq] at this
    exact this.2
  next => exact absurd h (by simp)

/-- Eight meter values of 32 bits (R133, R150). -/
def metersFit (l : List Nat) : Prop := l.length = 8 ∧ ∀ v ∈ l, v ≤ 4294967295

theorem metersFit_zeros : metersFit (List.replicate 8 0) := ⟨rfl, by decide⟩

theorem restoredMeters_fit (a : NvArray) : metersFit ((restoredMeters a).getD (List.replicate 8 0)) := by
  unfold restoredMeters
  split
  next values hr =>
    have := NvPair.restored_fits hr
    simp only [contentFits, Bool.and_eq_true, beq_iff_eq, List.all_eq_true, decide_eq_true_eq] at this
    exact ⟨this.1.2, this.2⟩
  next => exact metersFit_zeros

theorem restoredZones_getD_length (a : NvArray) (r : RecordId) : ((restoredZones a r).getD emptyZones).length = 8 := by
  cases h : restoredZones a r with
  | some l => exact restoredZones_length h
  | none => rfl

theorem restoredItems_getD_length (a : NvArray) : ((restoredItems a).getD emptyItems).length = 32 := by
  cases h : restoredItems a with
  | some l => exact restoredItems_length h
  | none => rfl

/-! ### After the blocks have started -/

/-- What the summary, the announcement, the reports and KEY-off of a start may change of the blocks as they started. -/
abbrev followBlocks : List Aspect := [.nvc, .env, .fhu, .faults, .smu, .epc, .portA, .sli, .inFlight]

theorem State.started_follows (s : State) (meters : List Nat) :
    changesOnly followBlocks (s.blocksStarted meters) (s.started meters) := by
  unfold State.started
  dsimp only
  have hfailed : ∀ u : State, changesOnly faultBlocks u ((failedRecords s.nvc.array).foldl State.restoreBad u) :=
    .foldl (fun u r => u.takeFault_changes _) _
  exact ((((((State.deliver_changes _ _).mono (by decide)).trans
    ((State.announceHold_changes _).mono (by decide))).trans ((hfailed _).mono (by decide))).trans
      ((State.configInvalid_changes _ _).mono (by decide))).trans ((State.settle_changes _).mono (by decide))).trans
        ((State.keyAtStart_changes _).mono (by decide))

/-- A promise that reads nothing a start reports on holds after a start when it holds of the blocks as they start. -/
theorem reads.started {R : List Aspect} {P : State → Prop} (hP : reads R P) (hR : ∀ b ∈ R, b ∉ followBlocks) {s : State}
    {meters : List Nat} (h : P (s.blocksStarted meters)) : P (s.started meters) :=
  hP.keeps (s.started_follows meters) hR h

/-- A promise that does not read the supply holds after a loss of supply when it holds of the blocks as they start. -/
theorem reads.supplyLost {R : List Aspect} {P : State → Prop} (hP : reads R P) (hsupply : .supply ∉ R)
    (hfree : .freeCount ∉ R) (h : ∀ u : State, P (u.blocksStarted (List.replicate 8 0)))
      (s : State) : P s.supplyLost := by
  refine hP.keeps (F := [.supply, .freeCount]) (s := State.blocksStarted (List.replicate 8 0)
    { s with nvc := { s.nvc with array := s.cutArray } }) (fun b => ?_) (fun b hb hin => ?_) (h _)
  · cases b <;> simp [Aspect.stands, storesOk, noticesOk, State.supplyLost]
  · obtain rfl | rfl : b = .supply ∨ b = .freeCount := by simpa using hin
    · exact hsupply hb
    · exact hfree hb

/-- The commands that start the part or stop it. -/
def isStart (c : Instr) : Prop := c = .powerOn ∨ c = .supplyLoss ∨ c = .supervisorRestart

/-- A promise that every start and every loss of supply meets is kept by POWER_ON, SUPPLY_LOSS and SUPERVISOR_RESTART;
`M` is what a start asks of the meters. -/
theorem exec_start_keeps {R : List Aspect} {P : State → Prop} {M : List Nat → Prop} (hP : reads R P)
    (hR : .inFlight ∉ R) (hstarted : ∀ (u : State) m, M m → P (u.started m)) (hlost : ∀ u : State, P u.supplyLost)
    (hrestored : ∀ a : NvArray, M ((restoredMeters a).getD (List.replicate 8 0))) {c : Instr} {s t : State} (hs : P s)
    (hmeters : M s.smu.meters) (hc : isStart c) (h : exec c s = .next t) : P t := by
  obtain rfl | rfl | rfl := hc
  · obtain rfl := Host.Outcome.next.inj h
    exact hstarted _ _ (hrestored _)
  · exact onEvent_keeps hs (fun _ _ => hlost s) h
  · obtain rfl := Host.Outcome.next.inj h
    split
    · dsimp only
      split
      · exact hstarted _ _ hmeters
      · exact hP.keeps (s.taken_changes _) (fun b hb hin => hR (List.mem_singleton.1 hin ▸ hb)) hs
    · exact hs

end Sys2Proof.Machine
end

/-! ## The envelope table (O11, O14, O29 to O33) -/

section
namespace Sys2Proof.Machine

open Sys2Proof

/-! ### What holds of every zone entry -/

/-- The table has `n` entries, and `Q` holds of each at its index. -/
def zonesHold (n : Nat) (Q : Nat → ZoneEntry → Prop) (s : State) : Prop :=
  s.env.entries.length = n ∧ ∀ i e, s.env.entries[i]? = some e → Q i e

theorem reads_zonesHold (n : Nat) (Q : Nat → ZoneEntry → Prop) : reads [.zones] (zonesHold n Q) := fun s t h hs => by
  have hzones : t.env.entries = s.env.entries := h .zones (by simp)
  rwa [zonesHold, hzones]

/-- What the ENV does to one entry outside a pose frame keeps `Q`: its suspension ends, a report of its state is taken,
an edit waits. -/
structure EntryKept (Q : Nat → ZoneEntry → Prop) : Prop where
  ended : ∀ i e, Q i e → Q i { e with suspension := none }
  reported : ∀ i e z st, Q i e → Q i (e.reported z st)
  edited : ∀ i e d, Q i e → Q i { e with pending := some d }

section
variable {n : Nat} {Q : Nat → ZoneEntry → Prop} {s : State}

theorem zonesHold.onEntry (hs : zonesHold n Q s) (i : Nat) {f : ZoneEntry → ZoneEntry} (hf : ∀ e, Q i e → Q i (f e)) :
    zonesHold n Q { s with env := s.env.onEntry i f } := by
  obtain ⟨hlen, hQ⟩ := hs
  refine ⟨by simpa [Env.onEntry] using hlen, fun j e he => ?_⟩
  simp only [Env.onEntry, List.getElem?_modify] at he
  split at he
  next hij =>
    obtain ⟨e', he', rfl⟩ := Option.map_eq_some_iff.1 he
    exact hij ▸ hf e' (hij ▸ hQ _ e' he')
  next => exact hQ j e (by simpa using he)

theorem zonesHold.changed {F : List Aspect} {t : State} (hs : zonesHold n Q s) (h : changesOnly F s t)
    (hF : .zones ∉ F) :
    zonesHold n Q t :=
  (reads_zonesHold n Q).keeps h (by simpa using hF) hs

theorem zonesHold.endSuspension (hQ : EntryKept Q) (hs : zonesHold n Q s) (i : Nat) : zonesHold n Q
    (s.endSuspension i) :=
  (hs.onEntry i (hQ.ended i)).changed (State.raiseBoth_changes _ _) (by simp)

theorem zonesHold.suspended (hQ : EntryKept Q) (hs : zonesHold n Q s) (lo hi : Int) (top : Nat) (index : Int)
    (seconds : Nat)
    (hset : ∀ e, lo ≤ index → index ≤ hi → 1 ≤ seconds → Q index.toNat e →
      Q index.toNat { e with suspension := some (min seconds top) }) :
    zonesHold n Q (s.suspended lo hi top index seconds) := by
  unfold State.suspended
  split
  next hresult =>
    split
    · exact hs.endSuspension hQ _
    next hseconds =>
      have hown : within lo hi index = true := by
        by_contra hout
        have hnot : (!within lo hi index) = true := by simpa using hout
        unfold suspendResult at hresult
        rw [if_pos hnot] at hresult
        split at hresult <;> exact absurd hresult (by simp)
      obtain ⟨hlo, hhi⟩ : lo ≤ index ∧ index ≤ hi := by simpa [within] using hown
      exact hs.onEntry _ fun e => hset e hlo hhi (by omega)
  next => exact hs

theorem zonesHold.reportEntry (hQ : EntryKept Q) (hs : zonesHold n Q s) (zones : List FrameZone)
    (states : List ZoneState) (i : Nat) : zonesHold n Q (s.reportEntry zones states i) := by
  unfold State.reportEntry
  split
  next z st _ _ => exact (hs.onEntry i (hQ.reported i · z st)).changed (State.reportNotices_changes _ _ _ _) (by simp)
  next => exact hs

theorem zonesHold.takeReport (hQ : EntryKept Q) (hs : zonesHold n Q s) (m : FrameNo) (states : List ZoneState) :
    zonesHold n Q (s.takeReport m states) := by
  unfold State.takeReport
  split
  · split
    · exact foldl_keeps (zonesHold n Q) _ (fun _ i hu => hu.reportEntry hQ _ _ i) _ _ hs
    · exact hs
  · exact hs

theorem zonesHold.endOperatorSuspensions (hQ : EntryKept Q) (hs : zonesHold n Q s) :
    zonesHold n Q s.endOperatorSuspensions := by
  refine foldl_keeps (zonesHold n Q) _ (fun u i hu => ?_) _ _ hs
  unfold State.endIfSuspended
  split
  · exact hu.endSuspension hQ i
  · exact hu

theorem zonesHold.edited (hQ : EntryKept Q) (hs : zonesHold n Q s) (lo hi index : Int) (f : ZoneFields) :
    zonesHold n Q { s with env := s.env.edited lo hi index f } := by
  unfold Env.edited
  split
  · split
    next d _ => exact hs.onEntry _ fun e => hQ.edited _ e d
    next => exact hs
  · exact hs

end

/-! ### A write into a table keeps what its entries keep -/

theorem State.writeLoop_keeps {P : State → Prop} (hmove : ∀ u k, P u → P (u.moveCursor k))
    (hentry : ∀ (u : State) i b, P u → P (u.entryWritten u.sli.table i b)) (l : List (List Byte)) (k : Nat) (s : State)
    (hs : P s) : P (State.writeLoop l k s).2.2 := by
  induction l generalizing k s with
  | nil => exact hs
  | cons b l ih =>
    unfold State.writeLoop
    dsimp only
    split
    · exact hs
    · split
      · exact ih _ _ (hmove _ _ (hentry s _ b hs))
      · exact hs

/-- A promise that does not read the service link is kept by WRITE_ENTRIES when every entry written keeps it. -/
theorem State.writeTable_keeps {R : List Aspect} {P : State → Prop} (hP : reads R P) (hsli : .sli ∉ R)
    (hfree : .freeCount ∉ R) (hentry : ∀ (u : State) i b, P u → P (u.entryWritten u.sli.table i b)) (n : Nat)
    (data : List Byte) (s : State) (hs : P s) : P (s.writeTable n data) := by
  have hanswer : ∀ (u : State) (r : ResultCode) (res : Option Byte) (d : Option (BitVec 16)), P u →
      P (u.answerLink r res d 0 []) := fun u r res d hu =>
    hP.keeps (u.answerLink_changes r res d 0 []) (fun b hb hin => by
      obtain rfl | rfl : b = .sli ∨ b = .freeCount := by simpa using hin
      · exact hsli hb
      · exact hfree hb) hu
  have hmove : ∀ (u : State) k, P u → P (u.moveCursor k) := fun u k hu =>
    hP.keeps (u.moveCursor_changes k) (fun b hb hin => hsli (List.mem_singleton.1 hin ▸ hb)) hu
  have hloop := State.writeLoop_keeps hmove hentry (entriesOf (entrySize s.sli.table) n data) 0 s hs
  unfold State.writeTable
  split
  · exact hanswer _ _ _ _ hs
  · split
    · exact hanswer _ _ _ _ hs
    · split <;> rename_i h <;> rw [h] at hloop <;> exact hanswer _ _ _ _ hloop

/-- An entry written keeps what edits keep. -/
theorem zonesHold.entryWritten {n : Nat} {Q : Nat → ZoneEntry → Prop} {s : State} (hQ : EntryKept Q)
    (hs : zonesHold n Q s)
    (t : Table) (i : Nat) (b : List Byte) : zonesHold n Q (s.entryWritten t i b) := by
  cases t with
  | zones => exact hs.edited hQ _ _ _ _
  | items => exact hs.changed (s.itemWritten_changes i b) (by simp)
  | config => exact hs.changed (changesOnly.ite (.refl _ s) (changesOnly_sli (by exact id))) (by simp)
  | ident | meters | faults | targets | status => exact hs

/-- What an entry may change in: its suspension runs down, or is set within its owner's longest time. -/
structure EntrySuspended (Q : Nat → ZoneEntry → Prop) : Prop where
  cab : ∀ i e n, 8 ≤ i → i ≤ 15 → 1 ≤ n → Q i e → Q i { e with suspension := some (min n 600) }
  link : ∀ i e n, i ≤ 7 → 1 ≤ n → Q i e → Q i { e with suspension := some (min n 3600) }

/-- Outside the start, the pose frames and the expiry of suspensions, every command keeps what holds of the entries. -/
theorem zonesHold.exec {n : Nat} {Q : Nat → ZoneEntry → Prop} (hQ : EntryKept Q) (hset : EntrySuspended Q) {c : Instr}
    {s t : State} (hs : zonesHold n Q s) (h : exec c s = .next t)
    (hstart : c ≠ .powerOn ∧ c ≠ .supplyLoss ∧ c ≠ .supervisorRestart) (hframe : ∀ r, c ≠ .envPoseRecord r)
    (htick : c ≠ .suspensionTimerExpiry) : zonesHold n Q t := by
  have hreads := reads_zonesHold n Q
  have hanswer : ∀ (u : State) k r, zonesHold n Q u → zonesHold n Q (u.answerCab k r) := fun u k r hu =>
    hu.changed (u.answerCab_changes k r) (by simp)
  cases c with
  | powerOn => exact absurd rfl hstart.1
  | supplyLoss => exact absurd rfl hstart.2.1
  | supervisorRestart => exact absurd rfl hstart.2.2
  | envPoseRecord r => exact absurd rfl (hframe r)
  | suspensionTimerExpiry => exact absurd rfl htick
  | envCabStaleness => exact onDelivery_keeps hreads (by simp) hs (fun _ hu => hu.endOperatorSuspensions hQ) h
  | stateReport m l => exact onDelivery_keeps hreads (by simp) hs (fun _ hu => hu.takeReport hQ m l) h
  | zoneEdit k i f =>
    exact onDelivery_keeps hreads (by simp) hs (fun _ hu => hanswer _ _ _ (hu.edited hQ 8 15 i f)) h
  | zoneSuspend k i m =>
    exact onDelivery_keeps hreads (by simp) hs (fun _ hu => hanswer _ _ _
      (hu.suspended hQ 8 15 600 i m fun e hlo hhi hm => hset.cab i.toNat e m (by omega) (by omega) hm)) h
  | suspendZone i m =>
    exact onDelivery_keeps hreads (by simp) hs (fun _ hu =>
      (hu.suspended hQ 0 7 3600 i m fun e hlo hhi hm => hset.link _ e m (by omega) hm).changed
        (State.answerPlain_changes _ _) (by simp)) h
  | writeEntries k data =>
    exact onDelivery_keeps hreads (by simp) hs (fun u hu =>
      (State.writeTable_keeps hreads (by simp) (by simp) (fun v i b hv => hv.entryWritten hQ _ i b) k data u hu).changed
        (State.settle_changes _) (by simp)) h
  | _ => exact hreads.keeps_exec h hs (by simp [footprint])

/-- An expiry keeps what a second less on every suspension keeps. -/
theorem zonesHold.suspensionTick {n : Nat} {Q : Nat → ZoneEntry → Prop} {s : State} (hQ : EntryKept Q)
    (htick : ∀ i e, Q i e → Q i e.tick) (hs : zonesHold n Q s) : zonesHold n Q s.suspensionTick := by
  have hticked : zonesHold n Q { s with env := { s.env with entries := s.env.entries.map ZoneEntry.tick } } := by
    obtain ⟨hlen, hall⟩ := hs
    refine ⟨by simpa using hlen, fun i e he => ?_⟩
    rw [List.getElem?_map] at he
    obtain ⟨e', he', rfl⟩ := Option.map_eq_some_iff.1 he
    exact htick i e' (hall i e' he')
  refine foldl_keeps (zonesHold n Q) _ (fun u i hu => ?_) _ _ hticked
  unfold State.endIfExpired
  split
  · exact hu.endSuspension hQ i
  · exact hu

/-! ### The effective copies (R76) -/

/-- The entry at each index has the effective copy it has in `s`. -/
def inForceAs (s : State) (i : Nat) (e : ZoneEntry) : Prop :=
  (s.env.entries.map ZoneEntry.effective)[i]? = some e.effective

theorem inForceAs_kept (s : State) : EntryKept (inForceAs s) where
  ended _ _ he := he
  reported i e z st he := by
    unfold ZoneEntry.reported
    split <;> exact he
  edited _ _ _ he := he

theorem inForceAs_suspended (s : State) : EntrySuspended (inForceAs s) where
  cab _ _ _ _ _ _ he := he
  link _ _ _ _ _ he := he

theorem zonesHold_inForceAs (s : State) : zonesHold s.env.entries.length (inForceAs s) s :=
  ⟨rfl, fun i e he => by simp [inForceAs, he]⟩

theorem zonesHold.inForce {s t : State} (h : zonesHold s.env.entries.length (inForceAs s) t) :
    t.env.entries.map ZoneEntry.effective = s.env.entries.map ZoneEntry.effective := by
  obtain ⟨hlen, hall⟩ := h
  refine List.ext_getElem? fun i => ?_
  rw [List.getElem?_map]
  cases he : t.env.entries[i]? with
  | some e => exact (hall i e he).symm
  | none =>
    have hi : s.env.entries.length ≤ i := hlen ▸ List.getElem?_eq_none_iff.1 he
    simp [hi]

/-- Settles O14: the effective copies stand at every command but a frame and a start, and so does the configuration. -/
theorem zonesInForceChangeOnlyAtFrames : Obligations.ZonesInForceChangeOnlyAtFrames := by
  intro c s t hon hloss hrestart h
  constructor
  · refine (exec_changes h).stands .settings ?_
    cases c with
    | powerOn => exact absurd rfl hon
    | supplyLoss => exact absurd rfl hloss
    | supervisorRestart => exact absurd rfl hrestart
    | _ => simp [footprint]
  · intro hframe
    have hs := zonesHold_inForceAs s
    refine zonesHold.inForce ?_
    by_cases htick : c = .suspensionTimerExpiry
    · subst htick
      exact onEvent_keeps hs (fun _ hu => hu.suspensionTick (inForceAs_kept s) fun _ _ he => he) h
    · exact hs.exec (inForceAs_kept s) (inForceAs_suspended s) h ⟨hon, hloss, hrestart⟩ hframe htick

/-! ### Entries visited in turn -/

/-- The state with the notices `cab` raised into the cab's table and `link` into the service link's. -/
def State.notified (cab link : List NoticeKind) (s : State) : State :=
  { s with portA := s.portA.raisedAll cab, sli := { s.sli with counts := countsAfter link s.sli.counts } }

theorem State.notified_notices (cab link : List NoticeKind) (s : State) :
    noticesRaised cab link s (s.notified cab link) := ⟨rfl, rfl⟩

@[simp] theorem State.notified_nil (s : State) : s.notified [] [] = s := rfl

@[simp] theorem State.notified_notified (a b c d : List NoticeKind) (s : State) :
    (s.notified a b).notified c d = s.notified (a ++ c) (b ++ d) := by
  simp [State.notified]

theorem State.raiseBoth_eq (k : NoticeKind) (s : State) : s.raiseBoth k = s.notified [k] [k] := rfl

theorem State.raiseCab_eq (k : NoticeKind) (s : State) : s.raiseCab k = s.notified [k] [] := rfl

/-- A visit of entry `i` changes that entry alone by `f`, and raises the notices `cab` and `link` give for it. -/
def entryVisited (f : ZoneEntry → ZoneEntry) (cab link : ZoneEntry → List NoticeKind) (i : Nat) (s t : State) : Prop :=
  t = State.notified (cab (s.env.entry i)) (link (s.env.entry i)) { s with env := s.env.onEntry i f }

theorem Env.entry_onEntry_ne {i j : Nat} (h : i ≠ j) (f : ZoneEntry → ZoneEntry) (v : Env) :
    (v.onEntry i f).entry j = v.entry j := by
  simp [Env.entry, Env.onEntry, List.getD, h]

/-- The entries from `lo` on, `n` of them, each visited once. -/
def visitedFrom (lo n : Nat) (f : Nat → ZoneEntry → ZoneEntry) (l : List ZoneEntry) : List ZoneEntry :=
  l.mapIdx fun j e => if lo ≤ j ∧ j < lo + n then f j e else e

theorem visitedFrom_zero (lo : Nat) (f : Nat → ZoneEntry → ZoneEntry) (l : List ZoneEntry) :
    visitedFrom lo 0 f l = l := by
  refine List.ext_getElem? fun j => ?_
  have hempty : ¬ (lo ≤ j ∧ j < lo) := by omega
  simp [visitedFrom, hempty]

theorem visitedFrom_modify (lo n : Nat) (f : Nat → ZoneEntry → ZoneEntry) (l : List ZoneEntry) :
    visitedFrom (lo + 1) n f (l.modify lo (f lo)) = visitedFrom lo (n + 1) f l := by
  refine List.ext_getElem? fun j => ?_
  simp only [visitedFrom, List.getElem?_mapIdx, List.getElem?_modify]
  cases l[j]? with
  | none => simp
  | some e =>
    by_cases hj : lo = j
    · subst hj; simp
    · have hiff : (lo < j ∧ j < lo + 1 + n) ↔ (lo ≤ j ∧ j < lo + (n + 1)) := by omega
      simp [hj, hiff]

theorem visitedFrom_all (n : Nat) (f : Nat → ZoneEntry → ZoneEntry) (l : List ZoneEntry) (h : l.length = n) :
    visitedFrom 0 n f l = l.mapIdx f := by
  refine List.ext_getElem? fun j => ?_
  simp only [visitedFrom, List.getElem?_mapIdx, Nat.zero_le, Nat.zero_add, true_and]
  cases hj : l[j]? with
  | none => rfl
  | some e =>
    have hlt : j < n := h ▸ (List.getElem?_eq_some_iff.1 hj).1
    simp [hlt]

/-- Visits of the entries from `lo` on, in turn: each is changed once, and the notices are raised in the order of the
entries. -/
theorem entries_visited {f : Nat → ZoneEntry → ZoneEntry} {cab link : Nat → ZoneEntry → List NoticeKind}
    {visit : State → Nat → State} (hvisit : ∀ s i, entryVisited (f i) (cab i) (link i) i s (visit s i)) (n lo : Nat)
    (s : State) :
    (List.range' lo n).foldl visit s
      = State.notified ((List.range' lo n).flatMap fun j => cab j (s.env.entry j))
          ((List.range' lo n).flatMap fun j => link j (s.env.entry j))
          { s with env := { s.env with entries := visitedFrom lo n f s.env.entries } } := by
  induction n generalizing lo s with
  | zero => simp [visitedFrom_zero]
  | succ n ih =>
    have hlater : ∀ g : Nat → ZoneEntry → List NoticeKind,
        ((List.range' (lo + 1) n).flatMap fun j => g j ((s.env.onEntry lo (f lo)).entry j))
          = (List.range' (lo + 1) n).flatMap fun j => g j (s.env.entry j) := fun g => by
      refine List.flatMap_congr fun j hj => ?_
      have hne : lo ≠ j := by
        have := (List.mem_range'_1.1 hj).1
        omega
      rw [Env.entry_onEntry_ne hne]
    rw [List.range'_succ, List.foldl_cons, hvisit s lo, ih]
    simp only [State.notified, List.flatMap_cons, hlater, PortA.raisedAll_append, countsAfter_append]
    simp only [Env.onEntry, visitedFrom_modify]

/-- A list read place by place from `lo` on. -/
theorem flatMap_range'_getD {α β : Type} (g : α → List β) (d : α) (l : List α) (n lo : Nat) (h : lo + n = l.length) :
    ((List.range' lo n).flatMap fun j => g (l.getD j d)) = (l.drop lo).flatMap g := by
  induction n generalizing lo with
  | zero => simp [List.drop_eq_nil_of_le (show l.length ≤ lo by omega)]
  | succ n ih =>
    have hlo : lo < l.length := by omega
    rw [List.range'_succ, List.flatMap_cons, ih (lo + 1) (by omega), List.drop_eq_getElem_cons hlo, List.flatMap_cons]
    simp [List.getD, hlo]

end Sys2Proof.Machine
end

/-! ## Suspensions and state reports, entry by entry (O11, O31 to O33) -/

section
namespace Sys2Proof.Machine

open Sys2Proof

/-! ### Visits of the table -/

theorem Env.onEntry_congr {i : Nat} {f g : ZoneEntry → ZoneEntry} {v : Env} (h : f (v.entry i) = g (v.entry i)) :
    v.onEntry i f = v.onEntry i g := by
  unfold Env.onEntry
  congr 1
  refine List.ext_getElem? fun j => ?_
  rw [List.getElem?_modify, List.getElem?_modify]
  split
  next hij =>
    subst hij
    cases he : v.entries[i]? with
    | none => rfl
    | some e =>
      have hentry : v.entry i = e := by simp [Env.entry, List.getD, he]
      rw [hentry] at h
      simp [h]
  next => rfl

theorem Env.onEntry_id (i : Nat) (v : Env) : v.onEntry i (fun e => e) = v := by
  have hid : v.entries.modify i (fun e => e) = v.entries := List.modify_id i v.entries
  unfold Env.onEntry
  rw [hid]

theorem Env.onEntry_fixed {i : Nat} {f : ZoneEntry → ZoneEntry} {v : Env} (h : f (v.entry i) = v.entry i) :
    v.onEntry i f = v :=
  (Env.onEntry_congr (g := fun e => e) h).trans (v.onEntry_id i)

/-- An entry whose suspension has been ended where `p` holds of it. -/
def ZoneEntry.endedIf (p : ZoneEntry → Bool) (e : ZoneEntry) : ZoneEntry :=
  if p e then { e with suspension := none } else e

/-- The notice of a suspension ended where `p` holds of the entry. -/
def endNotices (p : ZoneEntry → Bool) (e : ZoneEntry) : List NoticeKind := if p e then [.suspensionEnded] else []

theorem endSuspension_visited (p : ZoneEntry → Bool) (s : State) (i : Nat) :
    entryVisited (ZoneEntry.endedIf p) (endNotices p) (endNotices p) i s
      (if p (s.env.entry i) then s.endSuspension i else s) := by
  unfold entryVisited endNotices
  cases hp : p (s.env.entry i) with
  | false =>
    rw [Env.onEntry_fixed (by simp [ZoneEntry.endedIf, hp])]
    rfl
  | true =>
    have henv : s.env.onEntry i (ZoneEntry.endedIf p) = s.env.onEntry i fun e => { e with suspension := none } :=
      Env.onEntry_congr (by simp [ZoneEntry.endedIf, hp])
    rw [henv]
    rfl

/-! ### The expiry (R81) -/

/-- An entry after an expiry (R81). -/
def ZoneEntry.expired (e : ZoneEntry) : ZoneEntry :=
  { e with suspension := match e.suspension with
      | some n => if n ≤ 1 then none else some (n - 1)
      | none => none }

/-- The notice of an entry at an expiry (R81). -/
def expiryNotices (e : ZoneEntry) : List NoticeKind :=
  match e.suspension with
  | some n => if n ≤ 1 then [.suspensionEnded] else []
  | none => []

/-- The suspension has no time left. -/
def ZoneEntry.runOut (e : ZoneEntry) : Bool := decide (e.suspension = some 0)

theorem ZoneEntry.endedIf_tick (e : ZoneEntry) : e.tick.endedIf ZoneEntry.runOut = e.expired := by
  unfold ZoneEntry.endedIf ZoneEntry.runOut ZoneEntry.tick ZoneEntry.expired
  cases e.suspension with
  | none => simp
  | some n =>
    by_cases hn : n ≤ 1
    · have h0 : n - 1 = 0 := by omega
      simp [h0, hn]
    · have h1 : n - 1 ≠ 0 := by omega
      simp [h1, hn]

theorem endNotices_tick (e : ZoneEntry) : endNotices ZoneEntry.runOut e.tick = expiryNotices e := by
  unfold endNotices ZoneEntry.runOut ZoneEntry.tick expiryNotices
  cases e.suspension with
  | none => simp
  | some n =>
    by_cases hn : n ≤ 1
    · have h0 : n - 1 = 0 := by omega
      simp [h0, hn]
    · have h1 : n - 1 ≠ 0 := by omega
      simp [h1, hn]

/-- R81: an expiry entry by entry, with its notices. -/
theorem State.suspensionTick_visits (s : State) (hlen : s.env.entries.length = 16) :
    s.suspensionTick = State.notified (s.env.entries.flatMap expiryNotices) (s.env.entries.flatMap expiryNotices)
      { s with env := { s.env with entries := s.env.entries.map ZoneEntry.expired } } := by
  have hvisit : ∀ (u : State) (i : Nat), entryVisited (ZoneEntry.endedIf ZoneEntry.runOut) (endNotices ZoneEntry.runOut)
      (endNotices ZoneEntry.runOut) i u (u.endIfExpired i) := fun u i => by
    simpa only [ZoneEntry.runOut, decide_eq_true_eq, State.endIfExpired] using endSuspension_visited ZoneEntry.runOut
      u i
  have hnotices : ((List.range' 0 16).flatMap fun j => endNotices ZoneEntry.runOut
      (Env.entry { s.env with entries := s.env.entries.map ZoneEntry.tick } j)) = s.env.entries.flatMap expiryNotices
        := by
    unfold Env.entry
    rw [flatMap_range'_getD _ _ _ 16 0 (by simp [hlen]), List.drop_zero, List.flatMap_map]
    simp only [endNotices_tick]
  have hentries : visitedFrom 0 16 (fun _ => ZoneEntry.endedIf ZoneEntry.runOut) (s.env.entries.map ZoneEntry.tick)
      = s.env.entries.map ZoneEntry.expired := by
    rw [visitedFrom_all 16 _ _ (by simp [hlen])]
    exact List.ext_getElem? fun j => by simp [Function.comp_def, ZoneEntry.endedIf_tick]
  unfold State.suspensionTick
  rw [List.range_eq_range', entries_visited hvisit, hnotices, hentries]

/-- R82: what a stale cab does, entry by entry. -/
theorem State.endOperatorSuspensions_visits (s : State) (hlen : s.env.entries.length = 16) :
    s.endOperatorSuspensions = State.notified
      ((s.env.entries.drop 8).flatMap fun e => if e.suspension = none then [] else [.suspensionEnded])
      ((s.env.entries.drop 8).flatMap fun e => if e.suspension = none then [] else [.suspensionEnded])
      { s with env := { s.env with
          entries := s.env.entries.mapIdx fun i e => if i < 8 then e else { e with suspension := none } } } := by
  have hvisit : ∀ (u : State) (i : Nat), entryVisited (ZoneEntry.endedIf fun e => e.suspension.isSome)
      (endNotices fun e => e.suspension.isSome) (endNotices fun e => e.suspension.isSome) i u (u.endIfSuspended i) :=
    fun u i => endSuspension_visited (fun e => e.suspension.isSome) u i
  have hnotices : ((List.range' 8 8).flatMap fun j => endNotices (fun e => e.suspension.isSome) (s.env.entry j))
      = (s.env.entries.drop 8).flatMap fun e => if e.suspension = none then [] else [.suspensionEnded] := by
    unfold Env.entry
    rw [flatMap_range'_getD _ _ _ 8 8 (by simp [hlen])]
    refine List.flatMap_congr fun e _ => ?_
    cases h : e.suspension <;> simp [endNotices, h]
  have hended : ∀ e : ZoneEntry, e.endedIf (fun e => e.suspension.isSome) = { e with suspension := none } := fun e => by
    obtain ⟨effective, pending, suspension, recorded, mark⟩ := e
    cases suspension <;> rfl
  have hentries : visitedFrom 8 8 (fun _ => ZoneEntry.endedIf fun e => e.suspension.isSome) s.env.entries
      = s.env.entries.mapIdx fun i e => if i < 8 then e else { e with suspension := none } := by
    refine List.ext_getElem? fun j => ?_
    simp only [visitedFrom, List.getElem?_mapIdx, hended]
    cases hj : s.env.entries[j]? with
    | none => rfl
    | some e =>
      have hlt : j < 16 := hlen ▸ (List.getElem?_eq_some_iff.1 hj).1
      have hiff : (8 ≤ j ∧ j < 8 + 8) ↔ ¬ j < 8 := by omega
      by_cases hlow : j < 8
      · simp [hlow, show ¬ 8 ≤ j by omega]
      · simp [hlow, hlt, show 8 ≤ j by omega]
  have hfold : s.endOperatorSuspensions = (List.range' 8 8).foldl State.endIfSuspended s := rfl
  rw [hfold, entries_visited hvisit, hnotices, hentries]

/-- Settles O32: both ends visit each entry once, in turn. -/
theorem suspensionsRunOutAndEndWithTheCab : Obligations.SuspensionsRunOutAndEndWithTheCab := by
  refine ⟨fun s on hlen => ?_, fun s on hlen => ?_, fun s on => ?_⟩
  · have hexec := onEvent_on State.suspensionTick s on
    rw [s.suspensionTick_visits hlen] at hexec
    exact ⟨_, hexec, rfl, rfl, _, ⟨rfl, rfl⟩, rfl⟩
  · have hexec := onDelivery_on .envCabStaleness State.endOperatorSuspensions s on
    rw [(s.taken .envCabStaleness).endOperatorSuspensions_visits hlen] at hexec
    exact ⟨_, hexec, rfl, rfl, _, ⟨rfl, rfl⟩, rfl⟩
  · exact onDelivery_on .envCabFreshness id s on

/-! ### Suspensions stay in time (O11) -/

/-- An entry at index `i` has no suspension, or one within its owner's longest time (R79, R80). -/
def suspensionFits (i : Nat) (e : ZoneEntry) : Prop := ∀ n, e.suspension = some n → 1 ≤ n ∧ n ≤ suspensionTop i

theorem suspensionsOk_iff (s : State) : suspensionsOk s ↔ zonesHold 16 suspensionFits s :=
  ⟨fun ⟨hlen, hall⟩ => ⟨hlen, fun i e he n hn => hall i e n he hn⟩,
    fun ⟨hlen, hall⟩ => ⟨hlen, fun i e n he hn => hall i e he n hn⟩⟩

theorem suspensionFits_kept : EntryKept suspensionFits where
  ended _ _ _ _ hn := by simp at hn
  reported i e z st he := by
    unfold ZoneEntry.reported
    split <;> exact he
  edited _ _ _ he := he

theorem suspensionFits_set : EntrySuspended suspensionFits where
  cab i e n hlo hhi hn _ m hm := by
    obtain rfl := Option.some.inj hm
    have htop : suspensionTop i = 600 := if_neg (by omega)
    omega
  link i e n hi hn _ m hm := by
    obtain rfl := Option.some.inj hm
    have htop : suspensionTop i = 3600 := if_pos (by omega)
    omega

theorem suspensionFits_start (i : Nat) (d : ZoneDef) : suspensionFits i (ZoneEntry.start d) := by
  intro n hn
  simp [ZoneEntry.start] at hn

theorem suspensionFits_expired {i : Nat} {e : ZoneEntry} (h : suspensionFits i e) : suspensionFits i e.expired := by
  intro n hn
  unfold ZoneEntry.expired at hn
  dsimp only at hn
  split at hn
  next m hm =>
    split at hn
    · exact absurd hn (by simp)
    · obtain rfl := Option.some.inj hn
      have := h m hm
      omega
  next => exact absurd hn (by simp)

theorem zonesHold_map {n : Nat} {Q : Nat → ZoneEntry → Prop} {l : List ZoneEntry} {f : ZoneEntry
    → ZoneEntry} {t : State}
    (hlen : l.length = n) (hQ : ∀ i e, l[i]? = some e → Q i (f e))
      (ht : t.env.entries = l.map f) : zonesHold n Q t := by
  refine ⟨by simp [ht, hlen], fun i e he => ?_⟩
  rw [ht, List.getElem?_map] at he
  obtain ⟨e', he', rfl⟩ := Option.map_eq_some_iff.1 he
  exact hQ i e' he'

/-- The zones start without a suspension. -/
theorem suspensionsOk_blocksStarted (s : State) (meters : List Nat) :
    zonesHold 16 suspensionFits (s.blocksStarted meters) := by
  refine ⟨?_, fun i e he => ?_⟩
  · simp [State.blocksStarted, Env.start, restoredZones_getD_length]
  · simp only [State.blocksStarted, Env.start, List.getElem?_map] at he
    obtain ⟨d, -, rfl⟩ := Option.map_eq_some_iff.1 he
    exact suspensionFits_start i d

theorem State.applyPending_entries (s : State) :
    s.applyPending.env.entries = s.env.entries.map ZoneEntry.applied := by
  have hstore : ∀ (u : State) p r, (u.storeIf p r).env.entries = u.env.entries := fun u p r =>
    (u.storeIf_changes p r).stands .zones (by simp)
  unfold State.applyPending
  dsimp only
  rw [hstore, hstore]

theorem State.envRecord_entries (r : PoseRecord) (s : State) :
    (s.envRecord r).env.entries = s.env.entries.map ZoneEntry.applied := by
  have hsettle : ∀ u : State, u.settle.env = u.env := fun u => u.settle_changes.stands .env (by simp)
  unfold State.envRecord
  rw [hsettle]
  exact s.applyPending_entries

theorem suspensionFits_applied {i : Nat} {e : ZoneEntry} (h : suspensionFits i e) : suspensionFits i e.applied := by
  unfold ZoneEntry.applied
  split
  · exact suspensionFits_start i _
  · exact h

/-- Settles O11: what each command does to an entry keeps its suspension in time. -/
theorem suspensionsStayInTime : Obligations.SuspensionsStayInTime := by
  have hreads := reads_zonesHold 16 suspensionFits
  have hexec : ∀ c s t, zonesHold 16 suspensionFits s → exec c s = .next t → zonesHold 16 suspensionFits t := by
    intro c s t hs h
    by_cases hstart : isStart c
    · exact exec_start_keeps (M := fun _ => True) hreads (by simp)
        (fun u m _ => hreads.started (by simp) (suspensionsOk_blocksStarted u m))
        (hreads.supplyLost (by simp) (by simp) fun u => suspensionsOk_blocksStarted u _) (fun _ => trivial) hs trivial
        hstart h
    · by_cases htick : c = .suspensionTimerExpiry
      · subst htick
        refine onEvent_keeps hs (fun _ hu => ?_) h
        have hentries : s.suspensionTick.env.entries = s.env.entries.map ZoneEntry.expired := by
          rw [s.suspensionTick_visits hu.1]; rfl
        exact zonesHold_map hu.1 (fun i e he => suspensionFits_expired (hu.2 i e he)) hentries
      · by_cases hframe : ∃ r, c = .envPoseRecord r
        · obtain ⟨r, rfl⟩ := hframe
          refine onDelivery_keeps hreads (by simp) hs (fun u hu => ?_) h
          exact zonesHold_map hu.1 (fun i e he => suspensionFits_applied (hu.2 i e he)) (u.envRecord_entries r)
        · simp only [isStart, not_or] at hstart
          exact hs.exec suspensionFits_kept suspensionFits_set h hstart (fun r hr => hframe ⟨r, hr⟩) htick
  intro s t hs h
  rw [suspensionsOk_iff] at hs ⊢
  exact step_keeps hreads (by simp) hexec s t hs h

/-! ### Reports of the recorded states (R84 to R86) -/

/-- ZONE_BREACHED for an entry newly BREACHED, in ENFORCE, with the mark clear (R86). -/
def breachNotices (z : FrameZone) (before after : ZoneEntry) : List NoticeKind :=
  if after.pair = (.breached, false) ∧ z.zone.mode = .enforce ∧ before.pair ≠ (.breached, false) then [.zoneBreached]
  else []

/-- The cab's notices of one entry's report (R85, R86). -/
def pairNotices (z : FrameZone) (before after : ZoneEntry) : List NoticeKind :=
  (if before.pair ≠ after.pair then [.zoneState] else []) ++ breachNotices z before after

theorem State.reportNotices_eq (z : FrameZone) (before after : ZoneEntry) (s : State) :
    s.reportNotices z before after = s.notified (pairNotices z before after) (breachNotices z before after) := by
  unfold State.reportNotices pairNotices breachNotices
  split <;> split <;> rfl

/-- What a report makes of the entry at index `i` (R84). -/
def reportedAt (zones : List FrameZone) (states : List ZoneState) (i : Nat) (e : ZoneEntry) : ZoneEntry :=
  match zones[i]?, states[i]? with
  | some z, some st => e.reported z st
  | _, _ => e

/-- The notices a report raises for the entry at index `i`, in the cab's table and in the service link's. -/
def reportChange (zones : List FrameZone) (states : List ZoneState) (i : Nat) (e : ZoneEntry) :
    List NoticeKind × List NoticeKind :=
  match zones[i]?, states[i]? with
  | some z, some st => (pairNotices z e (e.reported z st), breachNotices z e (e.reported z st))
  | _, _ => ([], [])

theorem reportEntry_visited (zones : List FrameZone) (states : List ZoneState) (s : State) (i : Nat) :
    entryVisited (reportedAt zones states i) (fun e => (reportChange zones states i e).1)
      (fun e => (reportChange zones states i e).2) i s (s.reportEntry zones states i) := by
  unfold entryVisited State.reportEntry reportedAt reportChange
  cases hz : zones[i]? with
  | none =>
    simp only
    rw [Env.onEntry_id]
    rfl
  | some z =>
    cases hst : states[i]? with
    | none =>
      simp only
      rw [Env.onEntry_id]
      rfl
    | some st =>
      simp only
      rw [State.reportNotices_eq]

/-- R84 to R86: a report for the frame of the latest set, entry by entry. -/
theorem State.takeReport_visits {m : FrameNo} {zones : List FrameZone} (states : List ZoneState) {s : State}
    (hlatest : s.env.latest = some { frame := m, zones := zones }) (hlen : s.env.entries.length = 16) :
    s.takeReport m states = State.notified
      ((List.range' 0 16).flatMap fun j => (reportChange zones states j (s.env.entry j)).1)
      ((List.range' 0 16).flatMap fun j => (reportChange zones states j (s.env.entry j)).2)
      { s with env := { s.env with entries := s.env.entries.mapIdx (reportedAt zones states) } } := by
  unfold State.takeReport
  rw [hlatest]
  dsimp only
  rw [if_pos rfl, List.range_eq_range', entries_visited (reportEntry_visited zones states), visitedFrom_all 16 _ _ hlen]

/-- A report for another frame than that of the latest set is discarded (R84). -/
theorem State.takeReport_other {m : FrameNo} (states : List ZoneState) {s : State}
    (h : ∀ z, s.env.latest = some z → z.frame ≠ m) : s.takeReport m states = s := by
  unfold State.takeReport
  split
  next z hz => exact if_neg (h z hz)
  next => rfl

/-- The notices of one entry, its zone of the set and the state reported of it. -/
def changeOf (x : (ZoneEntry × FrameZone) × ZoneState) : List NoticeKind × List NoticeKind :=
  (pairNotices x.1.2 x.1.1 (x.1.1.reported x.1.2 x.2), breachNotices x.1.2 x.1.1 (x.1.1.reported x.1.2 x.2))

theorem ZoneEntry.reported_pair (z : FrameZone) (st : ZoneState) (e : ZoneEntry) :
    (e.reported z st).pair = if z.zone.mode = .off then (.clear, false) else (st, z.suspended) := by
  unfold ZoneEntry.reported
  split <;> rfl

/-- The notices of a report, in the order of the entries. -/
theorem reportChanges_zip (side : List NoticeKind × List NoticeKind → List NoticeKind) {zones : List FrameZone}
    {states : List ZoneState} {v : Env} (hlen : v.entries.length = 16) (hzones : zones.length = 16)
    (hstates : states.length = 16) :
    ((List.range' 0 16).flatMap fun j => side (reportChange zones states j (v.entry j)))
      = (((v.entries.zip zones).zip states).map changeOf).flatMap side := by
  have hzip : (((v.entries.zip zones).zip states).map changeOf).length = 16 := by simp [hlen, hzones, hstates]
  rw [← List.drop_zero (l := ((v.entries.zip zones).zip states).map changeOf),
    ← flatMap_range'_getD side ([], []) _ 16 0 (by omega)]
  refine List.flatMap_congr fun j hj => ?_
  have hj16 : j < 16 := by simpa using hj
  have hentry : v.entry j = v.entries[j] := by simp [Env.entry, List.getD, hlen, hj16]
  have hat : reportChange zones states j (v.entry j)
      = ((v.entries.zip zones).zip states |>.map changeOf)[j] := by
    simp [reportChange, changeOf, hentry, hzones, hstates, hj16]
  rw [hat, List.getD_eq_getElem _ _ (by omega)]

/-- Settles O33: a report for the frame of the latest set visits each entry once; another is discarded. -/
theorem stateReportsAreTakenByFrame : Obligations.StateReportsAreTakenByFrame := by
  constructor
  · intro m l s on hother
    rw [show exec (.stateReport m l) s = _ from onDelivery_on (.stateReport m l) (State.takeReport m l) s on,
      State.takeReport_other l (s := s.taken (.stateReport m l)) hother]
    rfl
  · intro m l zones s on hlatest hlen hzones hl
    have hexec := onDelivery_on (.stateReport m l) (State.takeReport m l) s on
    have hcab := reportChanges_zip Prod.fst hlen hzones hl
    have hlink := reportChanges_zip Prod.snd hlen hzones hl
    rw [State.takeReport_visits l (s := s.taken (.stateReport m l)) hlatest hlen, State.taken_env, hcab, hlink] at hexec
    refine ⟨_, hexec, rfl, fun i e z x he hz hx => ⟨?_, _, ?_, ⟨rfl, rfl⟩⟩⟩
    · have hentry : (s.env.entries.mapIdx (reportedAt zones l))[i]? = some (e.reported z x) := by
        simp [he, reportedAt, hz, hx]
      exact hentry
    · refine List.map_congr_left fun x _ => ?_
      unfold changeOf pairNotices breachNotices
      simp only [ZoneEntry.reported_pair]
      rfl

end Sys2Proof.Machine
end

/-! ## Edits, suspension requests and pose frames of the envelope table (O29 to O31) -/

section
namespace Sys2Proof.Machine

open Sys2Proof

theorem within_iff (lo hi v : Int) : within lo hi v = true ↔ lo ≤ v ∧ v ≤ hi := by
  simp [within]

theorem within_eq_false (lo hi v : Int) : within lo hi v = false ↔ v < lo ∨ hi < v := by
  rw [← Bool.not_eq_true, within_iff]
  omega

/-! ### Edits (R69, R72, R73) -/

/-- R72: an index outside the table is refused before anything else. -/
theorem editResult_out {lo hi index : Int} (f : ZoneFields) (h : index < 0 ∨ 15 < index) :
    editResult lo hi index f = .refusedRange := by
  have hout : within 0 15 index = false := (within_eq_false _ _ _).2 h
  simp [editResult, hout]

/-- R73: then the owner of the entry is judged. -/
theorem editResult_other {lo hi index : Int} (f : ZoneFields) (hin : 0 ≤ index ∧ index ≤ 15)
    (h : index < lo ∨ hi < index) :
    editResult lo hi index f = .refusedNotOwner := by
  have htable : within 0 15 index = true := (within_iff _ _ _).2 hin
  have hout : within lo hi index = false := (within_eq_false _ _ _).2 h
  simp [editResult, hout, htable]

theorem editResult_own {lo hi index : Int} (f : ZoneFields) (hin : 0 ≤ index ∧ index ≤ 15)
    (h : lo ≤ index ∧ index ≤ hi) :
    editResult lo hi index f = if (zoneDefOf f).isNone then .refusedRange else .accepted := by
  have htable : within 0 15 index = true := (within_iff _ _ _).2 hin
  have hown : within lo hi index = true := (within_iff _ _ _).2 h
  simp [editResult, hown, htable]

theorem Env.edited_refused {lo hi index : Int} {f : ZoneFields} (v : Env) (h : editResult lo hi index f ≠ .accepted) :
    v.edited lo hi index f = v := if_neg h

theorem Env.edited_accepted {lo hi index : Int} {f : ZoneFields} {d : ZoneDef} (v : Env)
    (h : editResult lo hi index f = .accepted) (hd : zoneDefOf f = some d) :
    v.edited lo hi index f = v.setPending index.toNat d := by
  simp [Env.edited, h, hd]

theorem zoneKindOf_eq_some (n : Nat) (k : ZoneKind) : zoneKindOf n = some k ↔ n = zoneKindCode k := by
  unfold zoneKindOf
  constructor
  · intro h
    split at h
    · obtain rfl := Option.some.inj h; assumption
    · split at h
      · obtain rfl := Option.some.inj h; assumption
      · split at h
        · obtain rfl := Option.some.inj h; assumption
        · exact absurd h (by simp)
  · rintro rfl
    cases k <;> rfl

theorem zoneModeOf_eq_some (n : Nat) (m : ZoneMode) : zoneModeOf n = some m ↔ n = zoneModeCode m := by
  unfold zoneModeOf
  constructor
  · intro h
    split at h
    · obtain rfl := Option.some.inj h; assumption
    · split at h
      · obtain rfl := Option.some.inj h; assumption
      · split at h
        · obtain rfl := Option.some.inj h; assumption
        · exact absurd h (by simp)
  · rintro rfl
    cases m <;> rfl

/-- The ranges of R69, for the numbers of an edit. -/
def editInRange (k : ZoneKind) (f : ZoneFields) : Prop :=
  (0 ≤ f.reachMin ∧ f.reachMin ≤ f.reachMax ∧ f.reachMax ≤ 32767) ∧ (-32768 ≤ f.limit ∧ f.limit ≤ 32767)
    ∧ (k = .slewWall → 0 ≤ f.stop ∧ f.stop ≤ 16383 ∧ 0 ≤ f.band ∧ f.band ≤ 32767)
    ∧ (k ≠ .slewWall → 0 ≤ f.stop ∧ f.stop ≤ 5000 ∧ 1 ≤ f.band ∧ f.band ≤ 10000)

/-- The definition of an edit of a kind and a mode. -/
def editDef (k : ZoneKind) (m : ZoneMode) (f : ZoneFields) : ZoneDef :=
  { kind := k, mode := m, s := f.s, e := f.e, reachMin := f.reachMin.toNat, reachMax := f.reachMax.toNat
    limit := f.limit, stop := f.stop.toNat, band := f.band.toNat }

theorem editInRange_iff (k : ZoneKind) (f : ZoneFields) :
    (within 0 32767 f.reachMin && within 0 32767 f.reachMax && decide (f.reachMin ≤ f.reachMax)
        && within (-32768) 32767 f.limit && stopInRange k f.stop && bandInRange k f.band) = true ↔ editInRange k f := by
  simp only [Bool.and_eq_true, within_iff, decide_eq_true_eq, editInRange]
  cases k <;> simp [stopInRange, bandInRange, within_iff] <;> omega

/-- R72: an edit with codes of a kind and a mode and fields in range stands for its definition, any other for none. -/
theorem zoneDefOf_eq_some (f : ZoneFields) (d : ZoneDef) :
    zoneDefOf f = some d ↔ f.kind = zoneKindCode d.kind ∧ f.mode = zoneModeCode d.mode ∧ editInRange d.kind f
      ∧ d = editDef d.kind d.mode f := by
  unfold zoneDefOf
  constructor
  · intro h
    split at h
    next k m hk hm =>
      split at h
      next hrange =>
        obtain rfl := Option.some.inj h
        exact ⟨(zoneKindOf_eq_some _ _).1 hk, (zoneModeOf_eq_some _ _).1 hm, (editInRange_iff k f).1 hrange, rfl⟩
      next => exact absurd h (by simp)
    next => exact absurd h (by simp)
  · rintro ⟨hk, hm, hrange, hd⟩
    rw [(zoneKindOf_eq_some _ _).2 hk, (zoneModeOf_eq_some _ _).2 hm]
    dsimp only
    rw [if_pos ((editInRange_iff _ f).2 hrange)]
    exact congrArg some hd.symm

/-- R69, R72: the definition of an edit, field by field. -/
theorem zoneDefOf_iff (f : ZoneFields) (d : ZoneDef) : zoneDefOf f = some d ↔
    f.kind = zoneKindCode d.kind ∧ f.mode = zoneModeCode d.mode
    ∧ d.s = f.s ∧ d.e = f.e ∧ f.reachMin = d.reachMin ∧ f.reachMax = d.reachMax ∧ f.limit = d.limit
    ∧ f.stop = d.stop ∧ f.band = d.band
    ∧ d.reachMin ≤ d.reachMax ∧ d.reachMax ≤ 32767 ∧ -32768 ≤ d.limit ∧ d.limit ≤ 32767
    ∧ (d.kind = .slewWall → d.stop ≤ 16383 ∧ d.band ≤ 32767)
    ∧ (d.kind ≠ .slewWall → d.stop ≤ 5000 ∧ 1 ≤ d.band ∧ d.band ≤ 10000) := by
  rw [zoneDefOf_eq_some]
  obtain ⟨kind, mode, s, e, reachMin, reachMax, limit, stop, band⟩ := d
  simp only [editDef, editInRange, ZoneDef.mk.injEq, true_and]
  constructor
  · rintro ⟨hk, hm, ⟨hreach, hlimit, hwall, hother⟩, hs, he, hmin, hmax, hlim, hstop, hband⟩
    have hsigned : 0 ≤ f.stop ∧ 0 ≤ f.band := by
      by_cases h : kind = .slewWall
      · have := hwall h; omega
      · have := hother h; omega
    refine ⟨hk, hm, hs, he, by omega, by omega, hlim.symm, by omega, by omega, by omega, by omega, by omega, by omega,
      fun h => ?_, fun h => ?_⟩
    · have := hwall h; omega
    · have := hother h; omega
  · rintro ⟨hk, hm, hs, he, hmin, hmax, hlim, hstop, hband, hle, htop, hlow, hhigh, hwall, hother⟩
    refine ⟨hk, hm, ⟨by omega, by omega, fun h => ?_, fun h => ?_⟩, hs, he, by omega, by omega, hlim.symm, by omega,
      by omega⟩
    · have := hwall h; omega
    · have := hother h; omega

/-- The command of the cab's edit. -/
theorem exec_zoneEdit (k : Nat) (i : Int) (f : ZoneFields) (s : State) (on : s.supply = true) :
    exec (.zoneEdit k i f) s = .next (State.answerCab k (editResult 8 15 i f)
      { s with inFlight := s.inFlight.erase (.zoneEdit k i f), env := s.env.edited 8 15 i f }) :=
  congrArg Host.Outcome.next (if_pos on)

/-- Settles O30: the checks of an edit in their order, and the ranges of a definition. -/
theorem cabEditsWaitAsPendingCopies : Obligations.CabEditsWaitAsPendingCopies := by
  intro k i f s on
  have hrefused : ∀ r, editResult 8 15 i f = r → r ≠ .accepted → exec (.zoneEdit k i f) s
      = .next (State.answerCab k r { s with inFlight := s.inFlight.erase (.zoneEdit k i f) }) := fun r hr hne => by
    rw [exec_zoneEdit k i f s on, s.env.edited_refused (by rw [hr]; exact hne), hr]
  refine ⟨fun d => ?_, fun hout => hrefused _ (editResult_out f hout) (by simp), fun h0 h7 => ?_, fun h8 h15 hd => ?_,
    fun d h8 h15 hd => ?_⟩
  · exact zoneDefOf_iff f d
  · exact hrefused _ (editResult_other f ⟨by omega, by omega⟩ (by omega)) (by simp)
  · exact hrefused _ (by rw [editResult_own f ⟨by omega, by omega⟩ ⟨h8, h15⟩, hd]; rfl) (by simp)
  · have haccepted : editResult 8 15 i f = .accepted := by
      rw [editResult_own f ⟨by omega, by omega⟩ ⟨h8, h15⟩, hd]; rfl
    rw [exec_zoneEdit k i f s on, s.env.edited_accepted haccepted hd, haccepted]
    rfl

/-! ### Suspension requests (R79, R80) -/

theorem suspendResult_out {lo hi index : Int} (n : Nat) (v : Env) (h : index < 0 ∨ 15 < index) :
    suspendResult lo hi index n v = .refusedRange := by
  have hout : within 0 15 index = false := (within_eq_false _ _ _).2 h
  simp [suspendResult, hout]

theorem suspendResult_other {lo hi index : Int} (n : Nat) (v : Env) (hin : 0 ≤ index ∧ index ≤ 15)
    (h : index < lo ∨ hi < index) : suspendResult lo hi index n v = .refusedNotOwner := by
  have htable : within 0 15 index = true := (within_iff _ _ _).2 hin
  have hout : within lo hi index = false := (within_eq_false _ _ _).2 h
  simp [suspendResult, hout, htable]

/-- The owner's request: an end needs a suspension in force, a suspension an entry in ENFORCE. -/
theorem suspendResult_own {lo hi : Int} {i : Nat} (n : Nat) {v : Env} {e : ZoneEntry} (hin : i ≤ 15)
    (h : lo ≤ i ∧ (i : Int) ≤ hi) (he : v.entries[i]? = some e) :
    suspendResult lo hi i n v =
      if n = 0 then (if e.suspension.isSome then .accepted else .refusedState)
      else if e.effective.mode ≠ .enforce then .refusedState else .accepted := by
  have htable : within 0 15 (i : Int) = true := (within_iff _ _ _).2 (by omega)
  have hown : within lo hi (i : Int) = true := (within_iff _ _ _).2 h
  have hentry : v.entry i = e := by simp [Env.entry, List.getD, he]
  simp [suspendResult, hown, htable, hentry]

section
variable {lo hi : Int} {top i n : Nat} {s : State}

theorem State.suspended_refused (h : suspendResult lo hi i n s.env ≠ .accepted) : s.suspended lo hi top i n = s :=
  if_neg h

theorem State.suspended_ended (h : suspendResult lo hi i 0 s.env = .accepted) :
    s.suspended lo hi top i 0 = s.endSuspension i := by
  simp [State.suspended, h]

theorem State.suspended_set (h : suspendResult lo hi i n s.env = .accepted) (hn : 1 ≤ n) :
    s.suspended lo hi top i n
      = { s with env := s.env.onEntry i fun e => { e with suspension := some (min n top) } } := by
  simp [State.suspended, h, show n ≠ 0 by omega]

end

/-- A request of the owner of `lo` to `hi`, by its four outcomes. -/
theorem State.suspended_own {lo hi : Int} {i : Nat} {s : State} {e : ZoneEntry} (top n : Nat) (hin : i ≤ 15)
    (h : lo ≤ i ∧ (i : Int) ≤ hi) (he : s.env.entries[i]? = some e) :
    (n = 0 → e.suspension = none →
        suspendResult lo hi i n s.env = .refusedState ∧ s.suspended lo hi top i n = s)
      ∧ (n = 0 → e.suspension.isSome = true →
        suspendResult lo hi i n s.env = .accepted ∧ s.suspended lo hi top i n = s.endSuspension i)
      ∧ (1 ≤ n → e.effective.mode ≠ .enforce →
        suspendResult lo hi i n s.env = .refusedState ∧ s.suspended lo hi top i n = s)
      ∧ (1 ≤ n → e.effective.mode = .enforce → suspendResult lo hi i n s.env = .accepted
        ∧ s.suspended lo hi top i n
          = { s with env := s.env.onEntry i fun e => { e with suspension := some (min n top) } }) := by
  have hresult := suspendResult_own n hin h he
  refine ⟨fun hn hnone => ?_, fun hn hsome => ?_, fun hn hmode => ?_, fun hn hmode => ?_⟩
  · have hrefused : suspendResult lo hi i n s.env = .refusedState := by rw [hresult]; simp [hn, hnone]
    exact ⟨hrefused, State.suspended_refused (by simp [hrefused])⟩
  · have haccepted : suspendResult lo hi i n s.env = .accepted := by rw [hresult]; simp [hn, hsome]
    subst hn
    exact ⟨haccepted, State.suspended_ended haccepted⟩
  · have hrefused : suspendResult lo hi i n s.env = .refusedState := by
      simp [hresult, show n ≠ 0 by omega, hmode]
    exact ⟨hrefused, State.suspended_refused (by simp [hrefused])⟩
  · have haccepted : suspendResult lo hi i n s.env = .accepted := by
      simp [hresult, show n ≠ 0 by omega, hmode]
    exact ⟨haccepted, State.suspended_set haccepted hn⟩

/-- The command of the cab's suspension request. -/
theorem exec_zoneSuspend {k i n : Nat} {s u : State} {r : ResultCode} (on : s.supply = true)
    (h : suspendResult 8 15 i n s.env = r ∧ (s.taken (.zoneSuspend k i n)).suspended 8 15 600 i n = u) :
    exec (.zoneSuspend k i n) s = .next (u.answerCab k r) := by
  obtain ⟨rfl, rfl⟩ := h
  exact congrArg Host.Outcome.next (if_pos on)

/-- The command of the service link's suspension request. -/
theorem exec_suspendZone {i n : Nat} {s u : State} {r : ResultCode} (on : s.supply = true)
    (h : suspendResult 0 7 i n s.env = r ∧ (s.taken (.suspendZone i n)).suspended 0 7 3600 i n = u) :
    exec (.suspendZone i n) s = .next (u.answerPlain r) := by
  obtain ⟨rfl, rfl⟩ := h
  exact congrArg Host.Outcome.next (if_pos on)

/-- Settles O31: out of range, the other owner's entry, and the four outcomes of a request for an own one. -/
theorem suspensionRequests : Obligations.SuspensionRequests := by
  intro k i n e s on
  have hstands : ∀ {lo hi : Int} {top : Nat} {u : State} {r : ResultCode}, suspendResult lo hi i n u.env = r →
      r ≠ .accepted → suspendResult lo hi i n u.env = r ∧ u.suspended lo hi top i n = u := fun hr hne =>
    ⟨hr, State.suspended_refused (by rw [hr]; exact hne)⟩
  refine ⟨fun hout => ⟨?_, ?_⟩, fun hlow => ?_, fun h8 h15 => ?_, fun h8 h15 he => ?_, fun hlow he => ?_⟩
  · exact exec_zoneSuspend on (hstands (u := s.taken _) (suspendResult_out n _ (by omega)) (by simp))
  · exact exec_suspendZone on (hstands (u := s.taken _) (suspendResult_out n _ (by omega)) (by simp))
  · exact exec_zoneSuspend on (hstands (u := s.taken _) (suspendResult_other n _ (by omega) (by omega)) (by simp))
  · exact exec_suspendZone on (hstands (u := s.taken _) (suspendResult_other n _ (by omega) (by omega)) (by simp))
  · obtain ⟨hnone, hend, hmode, hset⟩ :=
      State.suspended_own (lo := 8) (hi := 15) (s := s.taken (.zoneSuspend k i n)) 600 n h15 (by omega) he
    exact ⟨fun h1 h2 => exec_zoneSuspend on (hnone h1 h2), fun h1 h2 => exec_zoneSuspend on (hend h1 h2),
      fun h1 h2 => exec_zoneSuspend on (hmode h1 h2), fun h1 h2 => exec_zoneSuspend on (hset h1 h2)⟩
  · obtain ⟨hnone, hend, hmode, hset⟩ :=
      State.suspended_own (lo := 0) (hi := 7) (s := s.taken (.suspendZone i n)) 3600 n (by omega) (by omega) he
    exact ⟨fun h1 h2 => exec_suspendZone on (hnone h1 h2), fun h1 h2 => exec_suspendZone on (hend h1 h2),
      fun h1 h2 => exec_suspendZone on (hmode h1 h2), fun h1 h2 => exec_suspendZone on (hset h1 h2)⟩

/-! ### The pose frame (R76 to R78) -/

/-- The notices of an entry that takes its pending copy, in the cab's table (R77). -/
def appliedNotices (e : ZoneEntry) : List NoticeKind :=
  if e.pending = none then [] else
    (if e.suspension = none then [] else [.suspensionEnded])
      ++ (if e.recorded ≠ .clear ∨ e.suspMark = true then [.zoneState] else [])

/-- The notices of an entry that takes its pending copy, in the service link's table (R77). -/
def appliedLinkNotices (e : ZoneEntry) : List NoticeKind :=
  if e.pending = none ∨ e.suspension = none then [] else [.suspensionEnded]

theorem State.applyNotices_eq (e : ZoneEntry) (s : State) :
    s.applyNotices e = s.notified (appliedNotices e) (appliedLinkNotices e) := by
  unfold State.applyNotices appliedNotices appliedLinkNotices
  by_cases hreset : e.recorded ≠ .clear ∨ e.suspMark = true
  · simp only [if_pos hreset]
    cases e.pending <;> cases e.suspension <;> rfl
  · simp only [if_neg hreset]
    cases e.pending <;> cases e.suspension <;> rfl

/-- A fold of raisings raises them in their order. -/
theorem foldl_notified {α : Type} {f : State → α → State} {cab link : α → List NoticeKind}
    (h : ∀ s x, f s x = s.notified (cab x) (link x)) (l : List α) (s : State) :
    l.foldl f s = s.notified (l.flatMap cab) (l.flatMap link) := by
  induction l generalizing s with
  | nil => rfl
  | cons x l ih => rw [List.foldl_cons, h, ih, State.notified_notified]; rfl

/-- The stores of one frame: ZONES_SITE and then ZONES_OPER, where some entry of theirs changed (R78, log 35). -/
def State.zoneStores (site oper : Bool) (s : State) : State := (s.storeIf site .zonesSite).storeIf oper .zonesOper

/-- R76, step 1: the notices, the table, and the stores of a frame. -/
theorem State.applyPending_eq (s : State) :
    s.applyPending = State.zoneStores (anyPending (s.env.entries.take 8)) (anyPending (s.env.entries.drop 8))
      (State.notified (s.env.entries.flatMap appliedNotices) (s.env.entries.flatMap appliedLinkNotices)
        { s with env := { s.env with entries := s.env.entries.map ZoneEntry.applied } }) := by
  unfold State.applyPending State.zoneStores
  dsimp only
  rw [foldl_notified fun u e => State.applyNotices_eq e u]
  rfl

/-- The stores of one frame change the NVC and the unstored marks of the zone records. -/
theorem State.zoneStores_eq (site oper : Bool) (s : State) :
    let n := if site then s.nvc.requested .zonesSite false false else s.nvc
    s.zoneStores site oper = { s with
      nvc := if oper then n.requested .zonesOper false false else n
      env := { s.env with
        unstoredSite := if site then !s.nvc.takes .zonesSite else s.env.unstoredSite
        unstoredOper := if oper then !n.takes .zonesOper else s.env.unstoredOper } } := by
  unfold State.zoneStores State.storeIf
  cases site <;> cases oper <;> rfl

/-- The ENV after a pose record (R76 to R78), before the store controller settles. -/
theorem State.envRecord_eq (r : PoseRecord) (s : State) :
    ∃ zones : List FrameZone, zones = (s.env.entries.map ZoneEntry.applied).map
        (fun e => { zone := e.effective, suspended := e.suspension.isSome })
      ∧ s.envRecord r = State.settle (State.zoneStores (anyPending (s.env.entries.take 8))
          (anyPending (s.env.entries.drop 8)) (State.notified (s.env.entries.flatMap appliedNotices)
            (s.env.entries.flatMap appliedLinkNotices) { s with
              env := { s.env with
                entries := s.env.entries.map ZoneEntry.applied
                latest := some { frame := r.pose.frame, zones := zones } }
              inFlight := s.inFlight ++ [.frameZoneSet r.pose.frame zones]
                ++ [.floorList r.pose.frame (floorsOf zones)] })) := by
  refine ⟨_, rfl, ?_⟩
  unfold State.envRecord
  rw [State.applyPending_eq, State.zoneStores_eq, State.zoneStores_eq]
  rfl

/-- R60: the floor list of a frame zone set, by rising index. -/
theorem floorsOf_sorted (zones : List FrameZone) : (floorsOf zones).Pairwise fun f g => f.index < g.index := by
  have hindex : zones.zipIdx.Pairwise fun x y => x.2 < y.2 := by
    rw [← List.pairwise_map (f := Prod.snd) (R := fun i j : Nat => i < j), List.zipIdx_map_snd]
    exact List.pairwise_lt_range'
  unfold floorsOf
  rw [List.pairwise_filterMap]
  refine hindex.imp fun {x y} hxy f hf g hg => ?_
  dsimp only at hf hg
  split at hf
  · split at hg
    · obtain rfl := Option.some.inj hf
      obtain rfl := Option.some.inj hg
      exact hxy
    · exact absurd hg (by simp)
  · exact absurd hf (by simp)

theorem mem_floorsOf (l : List ZoneEntry) (f : FloorZone) :
    f ∈ floorsOf (l.map fun e => { zone := e.effective, suspended := e.suspension.isSome })
      ↔ ∃ i e, l[i]? = some e ∧ e.effective.kind = .floor ∧ e.effective.mode = .enforce ∧ e.suspension = none
        ∧ f = { index := i, s := e.effective.s, e := e.effective.e, reachMin := e.effective.reachMin
                reachMax := e.effective.reachMax, floorZ := e.effective.limit, stop := e.effective.stop } := by
  unfold floorsOf
  rw [List.mem_filterMap]
  constructor
  · rintro ⟨⟨z, i⟩, hz, hf⟩
    rw [List.mem_zipIdx_iff_getElem?, List.getElem?_map] at hz
    obtain ⟨e, he, rfl⟩ := Option.map_eq_some_iff.1 hz
    dsimp only at hf
    split at hf
    next hfloor =>
      obtain rfl := Option.some.inj hf
      obtain ⟨hkind, hmode, hsusp⟩ := hfloor
      exact ⟨i, e, he, hkind, hmode, by simpa using hsusp, rfl⟩
    next => exact absurd hf (by simp)
  · rintro ⟨i, e, he, hkind, hmode, hsusp, rfl⟩
    refine ⟨({ zone := e.effective, suspended := e.suspension.isSome }, i), ?_, ?_⟩
    · rw [List.mem_zipIdx_iff_getElem?, List.getElem?_map]
      simp [he]
    · simp [hkind, hmode, hsusp]

/-- The queue after the stores of one frame (R78, R168). -/
theorem zoneStores_queued {n m t : Nvc} (hn : queueOk n ∧ writeOk n) {site oper : Bool}
    (hm : m = if site then n.requested .zonesSite false false else n)
    (ht : t = if oper then m.requested .zonesOper false false else m) :
    (site = true → t.queued .zonesSite = (n.queued .zonesSite || decide (n.queue.length < 4))
        ∧ n.takes .zonesSite = t.queued .zonesSite)
      ∧ (oper = true → t.queued .zonesOper = (n.queued .zonesOper
          || decide (n.queue.length + (if site = true ∧ n.queued .zonesSite = false then 1 else 0) < 4))
        ∧ m.takes .zonesOper = t.queued .zonesOper)
      ∧ (site = false → oper = false → t.queue = n.queue) := by
  have hmok : queueOk m ∧ writeOk m := by
    rw [hm]
    split
    · exact storesOk.requested hn _ _ _
    · exact hn
  have hsite : t.queued .zonesSite = m.queued .zonesSite := by
    rw [ht]
    split
    · rw [Nvc.queued_requested hmok.1 hmok.2]; simp
    · rfl
  have hoper : m.queued .zonesOper = n.queued .zonesOper := by
    rw [hm]
    split
    · rw [Nvc.queued_requested hn.1 hn.2]; simp
    · rfl
  have hroom : decide (m.queue.length < 4)
      = decide (n.queue.length + (if site = true ∧ n.queued .zonesSite = false then 1 else 0) < 4) := by
    rw [hm]
    cases site with
    | false => simp
    | true =>
      rw [if_pos rfl, Nvc.length_requested hn.1 hn.2]
      cases n.queued .zonesSite <;> simp
      split <;> omega
  refine ⟨fun h => ?_, fun h => ?_, fun h k => by simp [ht, hm, h, k]⟩
  · have hq : t.queued .zonesSite = (n.queued .zonesSite || decide (n.queue.length < 4)) := by
      rw [hsite, hm, if_pos h, Nvc.queued_requested hn.1 hn.2]
      simp [Nvc.takes]
    exact ⟨hq, hq.symm⟩
  · have hq : t.queued .zonesOper = (m.queued .zonesOper || decide (m.queue.length < 4)) := by
      rw [ht, if_pos h, Nvc.queued_requested hmok.1 hmok.2]
      simp [Nvc.takes]
    exact ⟨by rw [hq, hoper, hroom], hq.symm⟩

/-- The ENV after a pose record, with the store controller settled. -/
theorem exec_envPoseRecord (r : PoseRecord) (s : State) (on : s.supply = true) :
    exec (.envPoseRecord r) s = .next (State.envRecord r (s.taken (.envPoseRecord r))) :=
  congrArg Host.Outcome.next (if_pos on)

/-- Settles O29: the pending copies move, the set is handed on, and the stores of what changed are asked for. -/
theorem poseFramePutsEditsInForce : Obligations.PoseFramePutsEditsInForce := by
  intro r s on
  obtain ⟨zones, hzones, hrecord⟩ := State.envRecord_eq r (s.taken (.envPoseRecord r))
  have hexec := exec_envPoseRecord r s on
  rw [State.zoneStores_eq] at hrecord
  rw [hrecord, State.settle_frame] at hexec
  refine ⟨_, zones, hexec, ?_, ?_, ?_, ?_, ?_, ?_, ?_, ?_⟩
  · rfl
  · exact hzones
  · rfl
  · exact State.mem_settle _ _ (by simp [State.notified])
  · refine ⟨floorsOf zones, State.mem_settle _ _ (by simp [State.notified]), floorsOf_sorted zones, fun f => ?_⟩
    rw [hzones]
    exact mem_floorsOf _ f
  · rfl
  · exact ⟨rfl, rfl⟩
  · intro hs
    obtain ⟨hsite, hoper, hidle⟩ := zoneStores_queued hs (site := anyPending (s.env.entries.take 8))
      (oper := anyPending (s.env.entries.drop 8)) rfl rfl
    refine ⟨fun h => ⟨(hsite h).1, ?_⟩, fun h => ⟨(hoper h).1, ?_⟩, fun h => ?_, fun h => ?_, fun h k => ?_⟩
    · exact (if_pos h).trans (congrArg (!·) (hsite h).2)
    · exact (if_pos h).trans (congrArg (!·) (hoper h).2)
    · exact if_neg (Bool.eq_false_iff.1 h)
    · exact if_neg (Bool.eq_false_iff.1 h)
    · exact hidle h k

end Sys2Proof.Machine
end

/-! ## The grade guidance unit: switches and targets (O5, O24 to O26) -/

section
namespace Sys2Proof.Machine

open Sys2Proof

/-- With supply a command runs its action. -/
theorem next_of_on {s a b t : State} (on : s.supply = true) (h : a = t) :
    (.next (if s.supply = true then a else b) : Out) = .next t := by
  rw [if_pos on, h]

/-! ### The target queue (R49 to R55, R65) -/

theorem targetInRange_iff (x : Target) : targetInRange x = true ↔
    (0 ≤ x.id ∧ x.id ≤ 255) ∧ (0 ≤ x.r0 ∧ x.r0 ≤ 30000) ∧ (-20000 ≤ x.z0 ∧ x.z0 ≤ 20000)
      ∧ (-1000 ≤ x.slope ∧ x.slope ≤ 1000) ∧ (0 ≤ x.tol ∧ x.tol ≤ 500) ∧ (x.tol + 1 ≤ x.near ∧ x.near ≤ 5000)
      ∧ (50 ≤ x.guard ∧ x.guard ≤ 2000) ∧ (x.auto = 0 ∨ x.auto = 1) ∧ (1 ≤ x.passCycles ∧ x.passCycles ≤ 255)
      ∧ (1 ≤ x.onGradeFrames ∧ x.onGradeFrames ≤ 255) := by
  simp only [targetInRange, Bool.and_eq_true, within_iff]
  omega

section
variable {x : Target} {g : Ggu}

theorem Ggu.load_range (h : targetInRange x = false) : g.load x = (g, .refusedRange) := by
  simp [Ggu.load, h]

theorem Ggu.load_active (h : targetInRange x = true) (hq : g.targets = []) :
    g.load x = ({ g with targets := [x], passes := 0 }, .accepted) := by
  simp [Ggu.load, h, hq]

theorem Ggu.load_next {a : Target} (h : targetInRange x = true) (hq : g.targets = [a]) :
    g.load x = ({ g with targets := [a, x] }, .accepted) := by
  simp [Ggu.load, h, hq]

theorem Ggu.load_full {a b : Target} {rest : List Target} (h : targetInRange x = true)
    (hq : g.targets = a :: b :: rest) :
    g.load x = (g, .refusedFull) := by
  simp [Ggu.load, h, hq]

end

theorem exec_targetLoad {k : Nat} {x : Target} {s : State} {g : Ggu} {r : ResultCode} (on : s.supply = true)
    (h : s.ggu.load x = (g, r)) : exec (.targetLoad k x) s = .next (State.answerCab k r
      { s with inFlight := s.inFlight.erase (.targetLoad k x), ggu := g }) :=
  next_of_on on (by
    have hload : (s.taken (.targetLoad k x)).ggu.load x = (g, r) := h
    dsimp only
    rw [hload]
    rfl)

/-- Settles O24: the ranges of a target, the four switches, and the queue by its depth. -/
theorem switchesAndTargetLoad : Obligations.SwitchesAndTargetLoad := by
  intro k x s on
  exact ⟨targetInRange_iff x, next_of_on on rfl, next_of_on on rfl, next_of_on on rfl, next_of_on on rfl,
    fun hx => exec_targetLoad on (Ggu.load_range hx), fun hx hq => exec_targetLoad on (Ggu.load_active hx hq),
    fun _ hx hq => exec_targetLoad on (Ggu.load_next hx hq), fun _ _ hx hq => exec_targetLoad on (Ggu.load_full hx hq)⟩

theorem State.advanceTarget_empty (k : Nat) {s : State} (h : s.ggu.targets = []) :
    s.advanceTarget k = s.answerCab k .refusedState := by
  simp [State.advanceTarget, h]

theorem State.retire_eq {s : State} {a : Target} {rest : List Target} (h : s.ggu.targets = a :: rest) :
    s.retire = State.raiseCab .targetRetired { s with ggu := { s.ggu with targets := rest, passes := 0 } } := by
  simp [State.retire, h]

theorem State.advanceTarget_active (k : Nat) {s : State} {a : Target} {rest : List Target}
    (h : s.ggu.targets = a :: rest) :
    s.advanceTarget k = State.answerCab k .accepted
      (State.raiseCab .targetRetired { s with ggu := { s.ggu with targets := rest, passes := 0 } }) := by
  rw [← State.retire_eq h]
  simp [State.advanceTarget, h]

/-- Settles O25: an advance by the queue, and a clear. -/
theorem advanceAndClearTheTargets : Obligations.AdvanceAndClearTheTargets := by
  intro k s on
  exact ⟨fun h => next_of_on on (State.advanceTarget_empty k (s := s.taken _) h),
    fun _ _ h => next_of_on on (State.advanceTarget_active k (s := s.taken _) h), next_of_on on rfl⟩

/-- R65: a cycle end that credits no pass. -/
theorem State.gguCycleEnd_stands {n : Nat} {s : State}
    (h : s.ggu.targets = [] ∨ ∃ a rest, s.ggu.targets = a :: rest ∧ (a.auto ≠ 1 ∨ (n : Int) < a.onGradeFrames)) :
    s.gguCycleEnd n = s := by
  unfold State.gguCycleEnd
  obtain hq | ⟨a, rest, hq, hno⟩ := h
  · rw [hq]
  · rw [hq]
    exact if_neg fun hcredit => by omega

/-- R65: a cycle end that credits a pass, and the pass that completes the target. -/
theorem State.gguCycleEnd_credits {n : Nat} {s : State} {a : Target} {rest : List Target}
    (hq : s.ggu.targets = a :: rest)
    (hauto : a.auto = 1) (hgrade : a.onGradeFrames ≤ (n : Int)) :
    s.gguCycleEnd n = if (s.ggu.passes : Int) + 1 = a.passCycles then s.retire
      else { s with ggu := { s.ggu with passes := s.ggu.passes + 1 } } := by
  unfold State.gguCycleEnd
  rw [hq]
  dsimp only
  rw [if_pos ⟨hauto, hgrade⟩]
  push_cast
  rfl

/-- Settles O26: a cycle end that credits nothing, one that adds a pass, one that completes the target. -/
theorem cycleEndCreditsTheTarget : Obligations.CycleEndCreditsTheTarget := by
  intro n s on
  refine ⟨fun h => next_of_on on (State.gguCycleEnd_stands (s := s.taken _) h), fun a rest hq hauto hgrade =>
    ⟨fun hmore => next_of_on on ?_, fun hlast => next_of_on on ?_⟩⟩
  · exact (State.gguCycleEnd_credits (s := s.taken _) hq hauto hgrade).trans (if_neg hmore)
  · exact ((State.gguCycleEnd_credits (s := s.taken _) hq hauto hgrade).trans (if_pos hlast)).trans
      (State.retire_eq (s := s.taken _) hq)

/-! ### The queue stays legal (O5) -/

/-- The promise of the target queue, for its targets and its pass counter alone. -/
def queueLegal (targets : List Target) (passes : Nat) : Prop :=
  targets.length ≤ 2 ∧ (∀ t ∈ targets, targetInRange t = true)
    ∧ (match targets with
      | [] => passes = 0
      | t :: _ => (passes : Int) < t.passCycles)

theorem targetsOk_iff (s : State) : targetsOk s ↔ queueLegal s.ggu.targets s.ggu.passes := by
  unfold targetsOk queueLegal
  cases s.ggu.targets <;> rfl

theorem reads_targetsOk : reads [.ggu] targetsOk := fun s t h hs => by
  have hggu : t.ggu = s.ggu := h .ggu (by simp)
  rwa [targetsOk, hggu]

/-- Targets in range with the pass counter at 0: every target asks for at least one pass. -/
theorem queueLegal_zero {l : List Target} (hlen : l.length ≤ 2) (hrange : ∀ t ∈ l, targetInRange t = true) :
    queueLegal l 0 := by
  refine ⟨hlen, hrange, ?_⟩
  cases l with
  | nil => rfl
  | cons t rest =>
    have hpasses := ((targetInRange_iff t).1 (hrange t (by simp)))
    show ((0 : Nat) : Int) < t.passCycles
    omega

theorem targetsOk.retire {s : State} (h : targetsOk s) : targetsOk s.retire := by
  obtain ⟨hlen, hrange, -⟩ := (targetsOk_iff s).1 h
  refine (targetsOk_iff _).2 (queueLegal_zero (l := s.ggu.targets.drop 1) ?_ fun t ht => hrange t
    (List.mem_of_mem_drop ht))
  simp only [List.length_drop]
  omega

theorem targetsOk.load {s : State} (h : targetsOk s) (x : Target) : targetsOk { s with ggu := (s.ggu.load x).1 } := by
  cases hx : targetInRange x with
  | false => rw [Ggu.load_range hx]; exact h
  | true =>
    obtain ⟨hlen, hrange, hpasses⟩ := (targetsOk_iff s).1 h
    match hq : s.ggu.targets with
    | [] =>
      rw [Ggu.load_active hx hq]
      exact (targetsOk_iff _).2 (queueLegal_zero (by simp) (by simpa using hx))
    | [a] =>
      rw [Ggu.load_next hx hq]
      rw [hq] at hrange hpasses
      exact (targetsOk_iff _).2 ⟨by simp, by simpa [hx] using hrange, hpasses⟩
    | a :: b :: rest => rw [Ggu.load_full hx hq]; exact h

theorem targetsOk.gguCycleEnd {s : State} (h : targetsOk s) (n : Nat) : targetsOk (s.gguCycleEnd n) := by
  unfold State.gguCycleEnd
  split
  · exact h
  next t rest hq =>
    split
    · dsimp only
      split
      · exact h.retire
      next hmore =>
        obtain ⟨hlen, hrange, hpasses⟩ := (targetsOk_iff s).1 h
        refine (targetsOk_iff _).2 ⟨hlen, hrange, ?_⟩
        rw [hq] at hpasses ⊢
        dsimp only at hpasses ⊢
        push_cast at hmore ⊢
        omega
    · exact h

/-- A change of the join and of the guidance record alone. -/
theorem targetsOk.of_queue {s t : State} (h : targetsOk s)
    (hq : t.ggu.targets = s.ggu.targets ∧ t.ggu.passes = s.ggu.passes) : targetsOk t := by
  rw [targetsOk_iff] at h ⊢
  rwa [hq.1, hq.2]

theorem State.tryCue_queue (s : State) :
    s.tryCue.ggu.targets = s.ggu.targets ∧ s.tryCue.ggu.passes = s.ggu.passes := by
  unfold State.tryCue
  split
  · split
    · unfold State.formCue
      dsimp only
      split <;> exact ⟨rfl, rfl⟩
    · exact ⟨rfl, rfl⟩
  · exact ⟨rfl, rfl⟩

theorem State.tryAssist_queue (s : State) :
    s.tryAssist.ggu.targets = s.ggu.targets ∧ s.tryAssist.ggu.passes = s.ggu.passes := by
  unfold State.tryAssist
  split
  · split <;> exact ⟨rfl, rfl⟩
  · exact ⟨rfl, rfl⟩

theorem targetsOk.gguAdd {s : State} (h : targetsOk s) (j : GguJoin) (part : GguPart) : targetsOk (s.gguAdd j part) :=
  ((h.of_queue (t := { s with ggu := { s.ggu with join := some (j.add part) } }) ⟨rfl, rfl⟩).of_queue
    (State.tryCue_queue _)).of_queue (State.tryAssist_queue _)

theorem targetsOk.gguPart {s : State} (h : targetsOk s) (m : FrameNo) (part : GguPart) : targetsOk
    (s.gguPart m part) := by
  have hclose : ∀ j, targetsOk (s.gguClose j) := fun j => by
    unfold State.gguClose
    split <;> exact h
  unfold State.gguPart
  split
  · exact h.gguAdd _ _
  next j _ =>
    split
    · exact h.gguAdd _ _
    · split
      · exact (hclose j).gguAdd _ _
      · exact h

theorem targetsOk.setGuidance {s : State} (h : targetsOk s) (on : Bool) (k : Nat) : targetsOk (s.setGuidance on k) :=
  h.of_queue ⟨rfl, rfl⟩

theorem targetsOk.setAssist {s : State} (h : targetsOk s) (on : Bool) (k : Nat) : targetsOk (s.setAssist on k) :=
  h.of_queue ⟨rfl, rfl⟩

theorem targetsOk_blocksStarted (s : State) (meters : List Nat) : targetsOk (s.blocksStarted meters) :=
  (targetsOk_iff _).2 ⟨Nat.zero_le 2, fun _ ht => absurd ht (List.not_mem_nil), rfl⟩

/-- Settles O5: what each command of the GGU does to the queue keeps it legal. -/
theorem targetQueueStaysLegal : Obligations.TargetQueueStaysLegal := by
  have hreads := reads_targetsOk
  have hanswer : ∀ (u : State) k r, targetsOk u → targetsOk (u.answerCab k r) := fun u k r hu =>
    hreads.keeps (u.answerCab_changes k r) (by simp) hu
  have hempty : ∀ u : State, targetsOk { u with ggu := { u.ggu with targets := [], passes := 0 } } := fun u =>
    (targetsOk_iff _).2 (queueLegal_zero (by simp) (by simp))
  refine step_keeps hreads (by simp) fun c s t hs h => ?_
  by_cases hstart : isStart c
  · exact exec_start_keeps (M := fun _ => True) hreads (by simp)
      (fun u m _ => hreads.started (by simp) (targetsOk_blocksStarted u m))
      (hreads.supplyLost (by simp) (by simp) fun u => targetsOk_blocksStarted u _)
        (fun _ => trivial) hs trivial hstart h
  · cases c with
    | powerOn | supplyLoss | supervisorRestart => exact absurd (by simp [isStart]) hstart
    | gguPoseRecord | floorList | phaseReport =>
      exact onDelivery_keeps hreads (by simp) hs (fun _ hu => hu.gguPart _ _) h
    | gguCycleEnd n => exact onDelivery_keeps hreads (by simp) hs (fun _ hu => hu.gguCycleEnd n) h
    | guidanceOn | guidanceOff => exact onDelivery_keeps hreads (by simp) hs (fun _ hu => hu.setGuidance _ _) h
    | assistOn | assistOff => exact onDelivery_keeps hreads (by simp) hs (fun _ hu => hu.setAssist _ _) h
    | targetLoad k x => exact onDelivery_keeps hreads (by simp) hs (fun _ hu => hanswer _ _ _ (hu.load x)) h
    | targetClear k => exact onDelivery_keeps hreads (by simp) hs (fun u _ => hanswer _ _ _ (hempty u)) h
    | targetAdvance k =>
      refine onDelivery_keeps hreads (by simp) hs (fun u hu => ?_) h
      unfold State.advanceTarget
      split
      · exact hanswer _ _ _ hu
      · exact hanswer _ _ _ hu.retire
    | _ => exact hreads.keeps_exec h hs (by simp [footprint])

end Sys2Proof.Machine
end

/-! ## Frame joins and the cue (O27, O28) -/

section
namespace Sys2Proof.Machine

open Sys2Proof

theorem frameLater_iff (m j : FrameNo) : frameLater m j = true ↔ 1 ≤ (m - j).toNat ∧ (m - j).toNat ≤ 2147483647 := by
  simp [frameLater]

/-- No frame is later than itself. -/
theorem frame_ne_of_later {m j : FrameNo} (h : 1 ≤ (m - j).toNat ∧ (m - j).toNat ≤ 2147483647) : m ≠ j := by
  rintro rfl
  simp at h

/-! ### Which join a part goes to (R57, R58, R91, R92) -/

section
variable {m : FrameNo} {s : State}

theorem State.gguPart_none (part : GguPart) (h : s.ggu.join = none) :
    s.gguPart m part = s.gguAdd (GguJoin.opened m) part := by
  simp [State.gguPart, h]

theorem State.gguPart_same {j : GguJoin} (part : GguPart) (h : s.ggu.join = some j) (hm : j.frame = m) :
    s.gguPart m part = s.gguAdd j part := by
  simp [State.gguPart, h, hm]

theorem State.gguPart_later {j : GguJoin} (part : GguPart) (h : s.ggu.join = some j)
    (hlater : 1 ≤ (m - j.frame).toNat ∧ (m - j.frame).toNat ≤ 2147483647) :
    s.gguPart m part = (s.gguClose j).gguAdd (GguJoin.opened m) part := by
  simp [State.gguPart, h, frame_ne_of_later hlater, (frameLater_iff _ _).2 hlater]

theorem State.gguPart_older {j : GguJoin} (part : GguPart) (h : s.ggu.join = some j) (hm : m ≠ j.frame)
    (hlater : ¬(1 ≤ (m - j.frame).toNat ∧ (m - j.frame).toNat ≤ 2147483647)) : s.gguPart m part = s := by
  have hnot : frameLater m j.frame = false := by
    rw [← Bool.not_eq_true, frameLater_iff]; exact hlater
  simp [State.gguPart, h, hm, hnot]

theorem State.levPart_none (part : LevPart) (h : s.lev.join = none) :
    s.levPart m part = s.levAdd (LevJoin.opened m) part := by
  simp [State.levPart, h]

theorem State.levPart_same {j : LevJoin} (part : LevPart) (h : s.lev.join = some j) (hm : j.frame = m) :
    s.levPart m part = s.levAdd j part := by
  simp [State.levPart, h, hm]

theorem State.levPart_later {j : LevJoin} (part : LevPart) (h : s.lev.join = some j)
    (hlater : 1 ≤ (m - j.frame).toNat ∧ (m - j.frame).toNat ≤ 2147483647) :
    s.levPart m part = (s.levClose j).levAdd (LevJoin.opened m) part := by
  simp [State.levPart, h, frame_ne_of_later hlater, (frameLater_iff _ _).2 hlater]

theorem State.levPart_older {j : LevJoin} (part : LevPart) (h : s.lev.join = some j) (hm : m ≠ j.frame)
    (hlater : ¬(1 ≤ (m - j.frame).toNat ∧ (m - j.frame).toNat ≤ 2147483647)) : s.levPart m part = s := by
  have hnot : frameLater m j.frame = false := by
    rw [← Bool.not_eq_true, frameLater_iff]; exact hlater
  simp [State.levPart, h, hm, hnot]

end

/-! ### A part alone forms nothing -/

theorem State.gguAdd_opened (m : FrameNo) (part : GguPart) (s : State) :
    s.gguAdd (GguJoin.opened m) part
      = { s with ggu := { s.ggu with join := some ((GguJoin.opened m).add part) } } := by
  cases part <;> rfl

theorem State.levAdd_opened (m : FrameNo) (part : LevPart) (s : State) :
    s.levAdd (LevJoin.opened m) part
      = { s with lev := { s.lev with join := some ((LevJoin.opened m).add part) } } := by
  cases part <;> rfl

/-- R58: the join closed has its assist request of 0 delivered, where it had none. -/
theorem State.gguClose_eq (j : GguJoin) (s : State) :
    s.gguClose j = { s with
      inFlight := s.inFlight ++ (if j.assistFormed then [] else [.assistRequest j.frame 0]) } := by
  unfold State.gguClose
  split
  · simp
  · rfl

theorem State.levClose_done {j : LevJoin} (s : State) (h : j.ceilings = none ∨ j.built = true) : s.levClose j = s := by
  unfold State.levClose
  split
  next c hc hb => simp [hc, hb] at h
  next => rfl

/-- R92: the join closed has its ALLOTMENT built, with an assist of 0. -/
theorem State.levClose_builds {j : LevJoin} {c : Ceilings} (s : State) (hc : j.ceilings = some c)
    (hb : j.built = false) :
    s.levClose j = s.buildAllotment j c 0 := by
  simp [State.levClose, hc, hb]

/-! ### The commands that bring a part -/

/-- The commands that bring a part of a frame to the GGU, with the part. -/
inductive GguBrings (m : FrameNo) : Instr → GguPart → Prop
  | pose (r : PoseRecord) (h : r.pose.frame = m) : GguBrings m (.gguPoseRecord r) (.pose r)
  | floors (l : List FloorZone) : GguBrings m (.floorList m l) (.floors l)
  | phase (p : Phase) : GguBrings m (.phaseReport m p) (.phase p)

/-- The commands that bring a part of a frame to the LEV, with the part. -/
inductive LevBrings (m : FrameNo) : Instr → LevPart → Prop
  | pose (r : PoseRecord) (h : r.pose.frame = m) : LevBrings m (.levPoseRecord r) (.pose r)
  | zones (l : List FrameZone) : LevBrings m (.frameZoneSet m l) (.zones l)
  | assist (n : Nat) : LevBrings m (.assistRequest m n) (.assist n)

theorem GguBrings.runs {m : FrameNo} {c : Instr} {part : GguPart} {s : State} (h : GguBrings m c part)
    (on : s.supply = true) : exec c s = .next ((s.taken c).gguPart m part) := by
  cases h with
  | pose r h =>
    subst h
    exact next_of_on on rfl
  | floors l => exact next_of_on on rfl
  | phase p => exact next_of_on on rfl

theorem LevBrings.runs {m : FrameNo} {c : Instr} {part : LevPart} {s : State} (h : LevBrings m c part)
    (on : s.supply = true) : exec c s = .next ((s.taken c).levPart m part) := by
  cases h with
  | pose r h =>
    subst h
    exact next_of_on on rfl
  | zones l => exact next_of_on on rfl
  | assist n => exact next_of_on on rfl

/-- The ALLOTMENT of a join closed by a later frame (R92, R104, R105, R107). -/
theorem State.closedAllotment (j : LevJoin) (c : Ceilings) (s : State) :
    let a := s.allotmentOf j.frame j.poseValid c 0
    a.frame = j.frame.setWidth 16 ∧ a.poseValid = ((j.pose.map fun q => q.pose.valid).getD false) ∧ a.assist = 0
      ∧ a.hold = s.fhu.held.isSome
      ∧ (s.fhu.held = none → a.ceilings = c ∧ a.allowance = s.epc.allowance)
      ∧ (s.fhu.held.isSome = true →
          a.ceilings = { left := 0, right := 0, raise := 0, lower := min c.lower s.settings.lev.holdLower }
            ∧ a.allowance = min s.epc.allowance s.settings.epc.holdKw) := by
  refine ⟨rfl, ?_, ?_, rfl, fun h => ?_, fun h => ?_⟩
  · show j.poseValid = _
    unfold LevJoin.poseValid
    cases j.pose <;> rfl
  · simp [State.allotmentOf]
  · simp [State.allotmentOf, State.allotmentAllowance, h]
  · simp [State.allotmentOf, State.allotmentAllowance, h, heldCeilings]

/-- R57, R58: a part for a frame without a join of its own, at the GGU. -/
theorem GguBrings.opens {m : FrameNo} {c : Instr} {part : GguPart} {s : State} (h : GguBrings m c part)
    (on : s.supply = true) :
    let opened : GguJoin := (GguJoin.opened m).add part
    (s.ggu.join = none → exec c s = .next { s with
        inFlight := s.inFlight.erase c, ggu := { s.ggu with join := some opened } })
      ∧ ∀ j, s.ggu.join = some j →
        (1 ≤ (m - j.frame).toNat ∧ (m - j.frame).toNat ≤ 2147483647 → exec c s = .next { s with
          inFlight := s.inFlight.erase c ++ (if j.assistFormed then [] else [.assistRequest j.frame 0])
          ggu := { s.ggu with join := some opened } })
        ∧ (m ≠ j.frame → ¬(1 ≤ (m - j.frame).toNat ∧ (m - j.frame).toNat ≤ 2147483647) →
          exec c s = .next { s with inFlight := s.inFlight.erase c }) := by
  rw [h.runs on]
  refine ⟨fun hj => congrArg _ ?_, fun j hj => ⟨fun hlater => congrArg _ ?_, fun hne hold => congrArg _ ?_⟩⟩
  · exact (State.gguPart_none (s := s.taken c) part hj).trans (State.gguAdd_opened _ _ _)
  · rw [State.gguPart_later (s := s.taken c) part hj hlater, State.gguAdd_opened, State.gguClose_eq]
    rfl
  · exact State.gguPart_older (s := s.taken c) part hj hne hold

/-- R91, R92: a part for a frame without a join of its own, at the LEV. -/
theorem LevBrings.opens {m : FrameNo} {c : Instr} {part : LevPart} {s : State} (h : LevBrings m c part)
    (on : s.supply = true) :
    let opened : LevJoin := (LevJoin.opened m).add part
    (s.lev.join = none → exec c s = .next { s with
        inFlight := s.inFlight.erase c, lev := { s.lev with join := some opened } })
      ∧ ∀ j, s.lev.join = some j →
        (1 ≤ (m - j.frame).toNat ∧ (m - j.frame).toNat ≤ 2147483647 → j.ceilings = none ∨ j.built = true →
          exec c s = .next { s with inFlight := s.inFlight.erase c, lev := { s.lev with join := some opened } })
        ∧ (∀ x, 1 ≤ (m - j.frame).toNat ∧ (m - j.frame).toNat ≤ 2147483647 → j.ceilings = some x → j.built = false →
          ∃ a, exec c s = .next { s with
              inFlight := s.inFlight.erase c, lev := { s.lev with join := some opened, latest := some a }
              portB := s.portB.handAllotment (allotmentFrame s.settings.ports.pcuOrder a) }
            ∧ a.frame = j.frame.setWidth 16 ∧ a.poseValid = ((j.pose.map fun q => q.pose.valid).getD false)
            ∧ a.assist = 0 ∧ a.hold = s.fhu.held.isSome
            ∧ (s.fhu.held = none → a.ceilings = x ∧ a.allowance = s.epc.allowance)
            ∧ (s.fhu.held.isSome = true →
                a.ceilings = { left := 0, right := 0, raise := 0, lower := min x.lower s.settings.lev.holdLower }
                  ∧ a.allowance = min s.epc.allowance s.settings.epc.holdKw))
        ∧ (m ≠ j.frame → ¬(1 ≤ (m - j.frame).toNat ∧ (m - j.frame).toNat ≤ 2147483647) →
          exec c s = .next { s with inFlight := s.inFlight.erase c }) := by
  rw [h.runs on]
  refine ⟨fun hj => congrArg _ ?_, fun j hj => ⟨fun hlater hdone => congrArg _ ?_, fun x hlater hx hb =>
    ⟨s.allotmentOf j.frame j.poseValid x 0, congrArg _ ?_, s.closedAllotment j x⟩, fun hne hold => congrArg _ ?_⟩⟩
  · exact (State.levPart_none (s := s.taken c) part hj).trans (State.levAdd_opened _ _ _)
  · rw [State.levPart_later (s := s.taken c) part hj hlater, State.levClose_done _ hdone, State.levAdd_opened]
    rfl
  · rw [State.levPart_later (s := s.taken c) part hj hlater, State.levClose_builds _ hx hb, State.levAdd_opened]
    rfl
  · exact State.levPart_older (s := s.taken c) part hj hne hold

/-- Settles O27: each of the six commands brings one part. -/
theorem firstPartOpensTheJoin : Obligations.FirstPartOpensTheJoin := by
  intro m r l ph z n s on hm
  constructor
  · intro x hx
    obtain rfl | rfl | rfl : x = _ ∨ x = _ ∨ x = _ := by simpa using hx
    · exact (GguBrings.pose r hm).opens on
    · exact (GguBrings.floors l).opens on
    · exact (GguBrings.phase ph).opens on
  · intro x hx
    obtain rfl | rfl | rfl : x = _ ∨ x = _ ∨ x = _ := by simpa using hx
    · exact (LevBrings.pose r hm).opens on
    · exact (LevBrings.zones z).opens on
    · exact (LevBrings.assist n).opens on

end Sys2Proof.Machine
end

/-! ## The cue and the assist request (O28) -/

section
namespace Sys2Proof.Machine

open Sys2Proof

/-! ### The floor clamp (R60) -/

theorem foldl_max_spec (v : Int) (vs : List Int) :
    vs.foldl max v ∈ v :: vs ∧ ∀ x ∈ v :: vs, x ≤ vs.foldl max v := by
  induction vs generalizing v with
  | nil => simp
  | cons w ws ih =>
    obtain ⟨hmem, hle⟩ := ih (max v w)
    rw [List.foldl_cons]
    constructor
    · rcases List.mem_cons.1 hmem with h | h
      · rw [h]
        rcases max_choice v w with hv | hw
        · simp [hv]
        · simp [hw]
      · simp [h]
    · intro x hx
      have htop := hle (max v w) (by simp)
      simp only [List.mem_cons] at hx
      rcases hx with rfl | rfl | hx
      · omega
      · omega
      · exact hle x (by simp [hx])

/-- A floor applies at a slew angle and a reach, and its stop height exceeds the height `zt` (R60). -/
def floorRaises (psi : Angle) (reach zt : Int) (f : FloorZone) : Prop :=
  inSector psi f.s f.e = true ∧ (f.reachMin : Int) ≤ reach ∧ reach ≤ f.reachMax ∧ zt < f.floorZ + f.stop

theorem mem_raisedValues {floors : List FloorZone} {psi : Angle} {reach zt v : Int} :
    v ∈ raisedValues floors psi reach zt
      ↔ ∃ f ∈ floors, floorRaises psi reach zt f ∧ v = f.floorZ + f.stop := by
  simp only [raisedValues, List.mem_filterMap, floorRaises]
  constructor
  · rintro ⟨f, hf, hv⟩
    split at hv
    next hraises => exact ⟨f, hf, hraises, (Option.some.inj hv).symm⟩
    next => exact absurd hv (by simp)
  · rintro ⟨f, hf, hraises, rfl⟩
    exact ⟨f, hf, if_pos hraises⟩

/-- R60: with no floor that raises it the target height stands; else it is the highest stop height of those that do. -/
theorem floorClamp_spec (floors : List FloorZone) (psi : Angle) (reach zt : Int) :
    ((floorClamp floors psi reach zt).2 = true ↔ ∃ f ∈ floors, floorRaises psi reach zt f)
      ∧ ((floorClamp floors psi reach zt).2 = false → (floorClamp floors psi reach zt).1 = zt)
      ∧ ((floorClamp floors psi reach zt).2 = true →
        (∃ f ∈ floors, floorRaises psi reach zt f ∧ (floorClamp floors psi reach zt).1 = f.floorZ + f.stop)
          ∧ ∀ f ∈ floors, floorRaises psi reach zt f → f.floorZ + f.stop ≤ (floorClamp floors psi reach zt).1) := by
  unfold floorClamp
  split
  next hnone =>
    refine ⟨?_, fun _ => rfl, fun h => absurd h (by simp)⟩
    constructor
    · intro h
      exact absurd h (by simp)
    · rintro ⟨f, hf, hraises⟩
      have hmem := mem_raisedValues.2 ⟨f, hf, hraises, rfl⟩
      rw [hnone] at hmem
      exact absurd hmem (List.not_mem_nil)
  next v vs hsome =>
    obtain ⟨hmem, hle⟩ := foldl_max_spec v vs
    rw [← hsome] at hmem hle
    obtain ⟨f, hf, hraises, hv⟩ := mem_raisedValues.1 hmem
    exact ⟨⟨fun _ => ⟨f, hf, hraises⟩, fun _ => rfl⟩, fun h => absurd h (by simp), fun _ =>
      ⟨⟨f, hf, hraises, hv⟩, fun g hg hr => hle _ (mem_raisedValues.2 ⟨g, hg, hr, rfl⟩)⟩⟩

/-! ### The cue (R61, R62) -/

section
variable {g : Ggu} {r : PoseRecord} {l : List FloorZone}

theorem formCue_off (h : g.guidance = false) : formCue g r l = { cue := .off, d := 0, floorLimited := false } := by
  simp [formCue, h]

theorem formCue_noTarget (h : g.guidance = true) (hq : g.targets = []) :
    formCue g r l = { cue := .noTarget, d := 0, floorLimited := false } := by
  simp [formCue, h, hq]

theorem formCue_noPose {a : Target} {rest : List Target} (h : g.guidance = true) (hq : g.targets = a :: rest)
    (hpose : r.pose.valid = false ∨ r.limited ≠ .no) :
    formCue g r l = { cue := .noPose, d := 0, floorLimited := false } := by
  have hno : (!r.pose.valid || r.limited != .no) = true := by simpa using hpose
  simp [formCue, h, hq, hno]

/-- R59 to R61: the distance to the clamped target height, and its band. -/
theorem formCue_band {a : Target} {rest : List Target} (h : g.guidance = true) (hq : g.targets = a :: rest)
    (hvalid : r.pose.valid = true) (hlimited : r.limited = .no) :
    let zt := floorClamp l r.pose.slew.value r.reach (targetHeight a r.reach)
    formCue g r l = { cue := bandOf a (clamp (r.height - zt.1) (-32767) 32767)
                      d := clamp (r.height - zt.1) (-32767) 32767, floorLimited := zt.2 } := by
  simp [formCue, h, hq, hvalid, hlimited]

/-- With a target ACTIVE the cue is never NO_TARGET. -/
theorem formCue_ne_noTarget {a : Target} {rest : List Target} (hq : g.targets = a :: rest) :
    (formCue g r l).cue ≠ .noTarget := by
  cases hg : g.guidance with
  | false => rw [formCue_off hg]; simp
  | true =>
    by_cases hpose : r.pose.valid = false ∨ r.limited ≠ .no
    · rw [formCue_noPose hg hq hpose]; simp
    · rw [not_or] at hpose
      rw [formCue_band hg hq (by simpa using hpose.1) (by simpa using hpose.2)]
      dsimp only [bandOf]
      split
      · simp
      · split
        · simp
        · split
          · simp
          · split <;> simp

end

theorem isBand_iff (c : Cue) : isBand c = true ↔ c ≠ .off ∧ c ≠ .noTarget ∧ c ≠ .noPose := by
  cases c <;> simp [isBand]

/-! ### The assist request (R63) -/

theorem assistOf_zero {on : Bool} {k : KeptCue} {ph : Phase}
    (h : on = false ∨ ph ≠ .dig ∨ k.cue = .off ∨ k.cue = .noTarget ∨ k.cue = .noPose ∨ k.guard ≤ k.d) :
    assistOf on k ph = 0 := by
  refine if_neg fun ⟨hon, hband, hdig, hlow⟩ => ?_
  obtain ⟨hoff, htarget, hpose⟩ := (isBand_iff _).1 hband
  rcases h with h | h | h | h | h | h
  · exact absurd hon (by simp [h])
  · exact h hdig
  · exact hoff h
  · exact htarget h
  · exact hpose h
  · omega

theorem assistOf_value {k : KeptCue} (hoff : k.cue ≠ .off) (htarget : k.cue ≠ .noTarget) (hpose : k.cue ≠ .noPose)
    (hlow : k.d < k.guard) :
    (assistOf true k .dig : Int) = clamp (100 * (k.guard - k.d) / (2 * k.guard)) 0 100 := by
  have hband : isBand k.cue = true := (isBand_iff _).2 ⟨hoff, htarget, hpose⟩
  have hpct : assistOf true k .dig = (clamp (100 * (k.guard - k.d) / (2 * k.guard)) 0 100).toNat := if_pos
    ⟨rfl, hband, rfl, hlow⟩
  rw [hpct, Int.toNat_of_nonneg]
  rw [clamp_eq_max_min _ (by decide)]
  omega

/-! ### The part that completes a join (R57) -/

/-- The cue a frame keeps for its assist request. -/
def keptCue (g : Ggu) (r : PoseRecord) (l : List FloorZone) : KeptCue :=
  { d := (formCue g r l).d, cue := (formCue g r l).cue, guard := g.activeGuard, active := !g.targets.isEmpty }

theorem State.formCue_eq (j : GguJoin) (r : PoseRecord) (l : List FloorZone) (s : State) :
    s.formCue j r l =
      let c := Sys2Proof.Machine.formCue s.ggu r l
      { s with
        inFlight := s.inFlight ++ [.cueResult j.frame c.cue]
        ggu := { s.ggu with
          join := some { j with cue := some (keptCue s.ggu r l) }
          record := guidanceRecord s.ggu j.frame c }
        portA := if j.frame.getLsbD 0 then s.portA else s.portA.handGuidance (guidanceMsg s.ggu j.frame c) } := by
  unfold State.formCue
  dsimp only
  split <;> rfl

/-- The percentage of a frame's assist request, once its phase report is there (R63). -/
def assistAt (g : Ggu) (k : KeptCue) (ph : Option Phase) : Nat :=
  match ph with
  | none => 0
  | some p => assistOf g.assist k p

/-- The state with the cue of a frame formed, and its assist request once the phase report is there. -/
def State.cueFormed (m : FrameNo) (r : PoseRecord) (l : List FloorZone) (ph : Option Phase) (s : State) : State :=
  { s with
    inFlight := s.inFlight ++ [.cueResult m (Sys2Proof.Machine.formCue s.ggu r l).cue]
      ++ (if ph = none then [] else [.assistRequest m (assistAt s.ggu (keptCue s.ggu r l) ph)])
    ggu := { s.ggu with
      join := some { frame := m, pose := some r, floors := some l, phase := ph, cue := some (keptCue s.ggu r l)
                     assistFormed := ph.isSome }
      record := guidanceRecord s.ggu m (Sys2Proof.Machine.formCue s.ggu r l) }
    portA := if m.getLsbD 0 then s.portA
      else s.portA.handGuidance (guidanceMsg s.ggu m (Sys2Proof.Machine.formCue s.ggu r l)) }

/-- The part that completes a join forms the cue, and with the phase report there the assist request. -/
theorem State.gguAdd_completes {m : FrameNo} {r : PoseRecord} {l : List FloorZone} {ph : Option Phase} {j : GguJoin}
    {part : GguPart} (s : State)
    (h : j.add part
      = { frame := m, pose := some r, floors := some l, phase := ph, cue := none, assistFormed := false }) :
    s.gguAdd j part = s.cueFormed m r l ph := by
  unfold State.gguAdd
  rw [h]
  unfold State.tryCue
  dsimp only
  rw [State.formCue_eq]
  unfold State.cueFormed
  cases ph with
  | none => simp only [if_pos, List.append_nil]; rfl
  | some p => rfl

/-- The phase report that comes last forms the assist request. -/
theorem State.gguAdd_phase {m : FrameNo} {r : PoseRecord} {l : List FloorZone} {k : KeptCue} (ph : Phase) (s : State) :
    s.gguAdd { frame := m, pose := some r, floors := some l, phase := none, cue := some k, assistFormed := false }
        (.phase ph)
      = { s with
        inFlight := s.inFlight ++ [.assistRequest m (assistOf s.ggu.assist k ph)]
        ggu := { s.ggu with
          join := some { frame := m, pose := some r, floors := some l, phase := some ph, cue := some k
                         assistFormed := true } } } := rfl

theorem assistAt_zero {g : Ggu} {k : KeptCue} {ph : Option Phase}
    (h : g.assist = false ∨ ph ≠ some .dig ∨ k.cue = .off ∨ k.cue = .noTarget ∨ k.cue = .noPose ∨ k.guard ≤ k.d) :
    assistAt g k ph = 0 := by
  cases ph with
  | none => rfl
  | some p => exact assistOf_zero (by simpa using h)

/-- What the cue of a frame with a valid pose is (R59 to R61). -/
theorem formCue_grade {g : Ggu} {r : PoseRecord} {l : List FloorZone} {a : Target} {rest : List Target}
    (h : g.guidance = true) (hq : g.targets = a :: rest) (hvalid : r.pose.valid = true) (hlimited : r.limited = .no) :
    let raises : FloorZone → Prop := floorRaises r.pose.slew.value r.reach (targetHeight a r.reach)
    let c := formCue g r l
    ∃ zt : Int, c.d = max (-32767) (min (r.height - zt) 32767)
      ∧ (c.floorLimited = true ↔ ∃ f ∈ l, raises f)
      ∧ (c.floorLimited = false → zt = targetHeight a r.reach)
      ∧ (c.floorLimited = true → (∃ f ∈ l, raises f ∧ zt = f.floorZ + f.stop)
          ∧ ∀ f ∈ l, raises f → f.floorZ + f.stop ≤ zt)
      ∧ c.cue = bandOf a c.d := by
  obtain ⟨hraised, hstands, hhighest⟩ :=
    floorClamp_spec l r.pose.slew.value r.reach (targetHeight a r.reach)
  dsimp only
  rw [formCue_band h hq hvalid hlimited]
  exact ⟨_, clamp_eq_max_min _ (by decide), hraised, hstands, hhighest, rfl⟩

/-- Settles O28: the last of pose record and floor list forms the cue, and the last of all three the assist request. -/
theorem floorListFormsCueAndAssist : Obligations.FloorListFormsCueAndAssist := by
  constructor
  · intro m r l ph c s on hc
    have hexec : exec c s = .next ((s.taken c).cueFormed m r l ph) := by
      obtain ⟨rfl, hj⟩ | ⟨rfl, hm, hj⟩ := hc
      · rw [(GguBrings.floors l).runs on, State.gguPart_same (s := s.taken _) _ hj rfl]
        exact congrArg Host.Outcome.next (State.gguAdd_completes (ph := ph) _ rfl)
      · rw [(GguBrings.pose r hm).runs on, State.gguPart_same (s := s.taken _) _ hj rfl]
        exact congrArg Host.Outcome.next (State.gguAdd_completes (ph := ph) _ rfl)
    refine ⟨(formCue s.ggu r l).cue, (formCue s.ggu r l).d, (formCue s.ggu r l).floorLimited, s.ggu.activeId,
      assistAt s.ggu (keptCue s.ggu r l) ph, keptCue s.ggu r l, hexec, fun hq => ?_, fun a rest hq => ?_, rfl, rfl,
      fun hg => ?_, fun hg hq => ?_, fun a rest hg hq hpose => ?_, fun a rest hg hq hvalid hlimited => ?_, fun h => ?_,
      fun a rest hq hon hdig hcue => ⟨fun hguard => ?_, fun hguard => ?_⟩⟩
    · simp [Ggu.activeId, hq]
    · simp [Ggu.activeId, Ggu.activeGuard, keptCue, hq]
    · rw [formCue_off hg]
      exact ⟨rfl, rfl, rfl⟩
    · rw [formCue_noTarget hg hq]
      exact ⟨rfl, rfl, rfl⟩
    · rw [formCue_noPose hg hq hpose]
      exact ⟨rfl, rfl, rfl⟩
    · exact formCue_grade hg hq hvalid hlimited
    · refine assistAt_zero ?_
      rcases h with h | h | h | h | h
      · exact .inl h
      · exact .inr (.inl h)
      · exact .inr (.inr (.inl h))
      · exact .inr (.inr (.inr (.inl h)))
      · exact .inr (.inr (.inr (.inr (.inl h))))
    · have hactive : (keptCue s.ggu r l).guard = a.guard := by simp [keptCue, Ggu.activeGuard, hq]
      exact assistAt_zero (.inr (.inr (.inr (.inr (.inr (hactive ▸ hguard))))))
    · have hactive : (keptCue s.ggu r l).guard = a.guard := by simp [keptCue, Ggu.activeGuard, hq]
      rw [hdig]
      unfold assistAt
      dsimp only
      rw [hon, assistOf_value hcue.1 (formCue_ne_noTarget hq) hcue.2 (hactive ▸ hguard), hactive]
      rfl
  · intro m r l ph kept s on hj
    refine ⟨assistOf s.ggu.assist kept ph, ?_, fun h => assistOf_zero h, fun hon hdig hoff htarget hpose hlow => ?_⟩
    · rw [(GguBrings.phase ph).runs on, State.gguPart_same (s := s.taken _) _ hj rfl]
      rfl
    · rw [hon, hdig]
      exact assistOf_value hoff htarget hpose hlow

end Sys2Proof.Machine
end

/-! ## What one zone limits (O35) -/

section
namespace Sys2Proof.Machine

open Sys2Proof

/-! ### The integer root -/

theorem isqrtStep_spec {x root bit : Nat} (hlow : root * root ≤ x) (hhigh : x < (root + 2 * bit) * (root + 2 * bit)) :
    isqrtStep x root bit * isqrtStep x root bit ≤ x
      ∧ x < (isqrtStep x root bit + bit) * (isqrtStep x root bit + bit) := by
  unfold isqrtStep
  split
  next hkeep => exact ⟨hkeep, by rw [Nat.add_assoc, ← two_mul]; exact hhigh⟩
  next hdrop => exact ⟨hlow, Nat.lt_of_not_le hdrop⟩

/-- The bits tried, from the top one down. -/
theorem isqrt_fold_spec (x : Nat) (n : Nat) (root : Nat) (hlow : root * root ≤ x)
    (hhigh : x < (root + 2 ^ n) * (root + 2 ^ n)) :
    let w := ((List.range n).reverse.map (2 ^ ·)).foldl (isqrtStep x) root
    w * w ≤ x ∧ x < (w + 1) * (w + 1) := by
  induction n generalizing root with
  | zero => exact ⟨hlow, by simpa using hhigh⟩
  | succ n ih =>
    have hstep := isqrtStep_spec (bit := 2 ^ n) hlow (by rw [← pow_succ']; exact hhigh)
    rw [List.range_succ, List.reverse_append, List.map_append, List.foldl_append]
    exact ih _ hstep.1 hstep.2

/-- The largest integer whose square does not exceed `x`, for `x` below 2^32. -/
theorem isqrt_spec {x : Nat} (h : x < 4294967296) : isqrt x * isqrt x ≤ x ∧ x < (isqrt x + 1) * (isqrt x + 1) :=
  isqrt_fold_spec x 16 0 (by omega) (by simpa using h)

/-! ### The slew ceiling (R96) -/

theorem slewCeiling_near {c : LevCfg} {d m : Nat} {rate : Int} (h : d ≤ m + rate.natAbs * c.reactFrames) :
    slewCeiling c d m rate = 0 := by
  have hnone : d - m - rate.natAbs * c.reactFrames = 0 := by omega
  simp [slewCeiling, hnone]

theorem slewCeiling_far {c : LevCfg} {d m : Nat} {rate : Int} (h : m + rate.natAbs * c.reactFrames < d) :
    slewCeiling c d m rate
      = min 100 (100 * isqrt (c.slewDecel * (d - m - rate.natAbs * c.reactFrames) / 8) / c.rateFull) := by
  have hsome : d - m - rate.natAbs * c.reactFrames ≠ 0 := by omega
  simp only [slewCeiling, if_neg hsome]

/-- The braking product of R96 stays below 2^32. -/
theorem braking_lt {a b : Nat} (ha : a ≤ 4095) (hb : b ≤ 65535) : a * b / 8 < 4294967296 := by
  have := Nat.mul_le_mul ha hb
  omega

/-! ### The height computation (R97, R103) -/

/-- The motion ceiling a gap above the stop margin leaves (R97). -/
theorem motionCeiling_far {z : ZoneDef} {gap : Int} (hband : 1 ≤ z.band) (h : (z.stop : Int) < gap) :
    (motionCeiling z gap : Int) = min 100 (100 * (gap - z.stop) / z.band) := by
  have hdiv : 0 ≤ 100 * (gap - (z.stop : Int)) / (z.band : Int) := Int.ediv_nonneg (by omega) (by omega)
  have hclamp := clamp_eq_max_min (100 * (gap - (z.stop : Int)) / (z.band : Int)) (lo := 0) (hi := 100) (by decide)
  unfold motionCeiling
  rw [if_neg (by omega), hclamp]
  omega

theorem motionCeiling_near {z : ZoneDef} {gap : Int} (h : gap ≤ z.stop) : motionCeiling z gap = 0 := if_pos h

theorem heightCeilings_eq {k : ZoneKind} (h : k ≠ .slewWall) (m : Nat) :
    heightCeilings k m = if k = .ceiling then { left := 100, right := 100, raise := m, lower := 100 }
      else { left := 100, right := 100, raise := 100, lower := m } := by
  cases k with
  | slewWall => exact absurd rfl h
  | ceiling => rfl
  | floor => rfl

theorem zoneGap_eq {z : ZoneDef} (h : z.kind ≠ .slewWall) (height : Int) :
    zoneGap z height = if z.kind = .ceiling then z.limit - height else height - z.limit := by
  unfold zoneGap
  cases hk : z.kind with
  | slewWall => exact absurd hk h
  | ceiling => rfl
  | floor => rfl

theorem heightEval_past {c : LevCfg} {z : ZoneDef} {height : Int} (h : zoneGap z height ≤ 0) :
    heightEval c z height = { state := .breached, ceilings := heightCeilings z.kind 0
                              deep := decide (zoneGap z height < -(c.deepZ : Int)) } := if_pos h

theorem heightEval_short {c : LevCfg} {z : ZoneDef} {height : Int} (h : 0 < zoneGap z height) :
    heightEval c z height =
      { state := if motionCeiling z (zoneGap z height) < 100 then .limiting
          else if zoneGap z height ≤ (z.stop : Int) + z.band then .approach else .clear
        ceilings := heightCeilings z.kind (motionCeiling z (zoneGap z height)), deep := false } :=
  if_neg (by omega)

/-! ### Which computation a zone takes (R94, R95) -/

theorem inReachBand_iff (z : ZoneDef) (reach : Int) :
    inReachBand z reach = true ↔ (z.reachMin : Int) ≤ reach ∧ reach ≤ z.reachMax := by
  simp [inReachBand]

/-- The wall condition of R94, kind by kind. -/
theorem wallCondition_iff (z : ZoneDef) (reach height : Int) : wallCondition z reach height = true ↔
    z.kind = .slewWall ∧ (z.reachMin : Int) ≤ reach ∧ z.limit ≤ height
      ∨ z.kind = .ceiling ∧ ((z.reachMin : Int) ≤ reach ∧ reach ≤ z.reachMax) ∧ z.limit - z.stop ≤ height
      ∨ z.kind = .floor ∧ ((z.reachMin : Int) ≤ reach ∧ reach ≤ z.reachMax) ∧ height ≤ z.limit + z.stop := by
  unfold wallCondition
  cases hk : z.kind <;> simp [inReachBand_iff]

theorem wallMargin_eq (z : ZoneDef) : wallMargin z = if z.kind = .slewWall then z.stop else 910 := by
  unfold wallMargin
  cases z.kind <;> rfl

theorem wallWarn_eq (z : ZoneDef) : wallWarn z = if z.kind = .slewWall then z.band else 1820 := by
  unfold wallWarn
  cases z.kind <;> rfl

section
variable {c : LevCfg} {z : ZoneDef} {r : PoseRecord}

theorem evalZone_outside (hin : inSector r.pose.slew.value z.s z.e = false)
    (hwall : wallCondition z r.reach r.height = true) : evalZone c z r = wallOutside c z r.pose.slew.value r.rate := by
  unfold evalZone
  dsimp only
  rw [hin, if_pos hwall]
  simp [hwall]

theorem evalZone_inside (hin : inSector r.pose.slew.value z.s z.e = true) (hk : z.kind = .slewWall)
    (hwall : wallCondition z r.reach r.height = true) : evalZone c z r = wallInside c z r.pose.slew.value := by
  unfold evalZone
  dsimp only
  rw [if_pos hk, if_pos hwall, if_pos hin]

theorem evalZone_height (hin : inSector r.pose.slew.value z.s z.e = true) (hk : z.kind ≠ .slewWall) :
    evalZone c z r = if inReachBand z r.reach then heightEval c z r.height else clearEval := by
  unfold evalZone
  dsimp only
  rw [if_neg hk, if_pos hin]

theorem evalZone_clear (hcase : inSector r.pose.slew.value z.s z.e = false ∨ z.kind = .slewWall)
    (hwall : ¬wallCondition z r.reach r.height = true) : evalZone c z r = clearEval := by
  unfold evalZone
  dsimp only
  rw [if_neg hwall]
  split
  · rfl
  next hk =>
    have hin := hcase.resolve_right hk
    rw [if_neg (by simp [hin])]

end

/-- R95: the ceilings of a SLEW_WALL inside its sector. -/
theorem wallInside_eq (c : LevCfg) (z : ZoneDef) (psi : Angle) {dl dr : Nat} (hdl : dl = (z.e - psi).toNat)
    (hdr : dr = (psi - z.s).toNat) :
    wallInside c z psi =
      { state := .breached
        ceilings := { left := if z.s = z.e ∨ dr < dl then 0 else c.exitCeiling
                      right := if z.s ≠ z.e ∧ dr < dl then c.exitCeiling else 0, raise := 100, lower := 100 }
        deep := decide (z.s ≠ z.e ∧ c.deepBau < min dl dr) } := by
  unfold wallInside leftDepth rightDepth
  rw [← hdl, ← hdr]
  by_cases hse : z.s = z.e
  · simp [hse, openCeilings]
  · by_cases hleft : dl ≤ dr
    · simp [hse, hleft, openCeilings, Nat.not_lt.2 hleft]
    · simp [hse, hleft, openCeilings, Nat.lt_of_not_le hleft]

/-- Settles O35: the slew ceiling, the height computation, and which of the two a zone takes. -/
theorem zonesLimitTheirMotions : Obligations.ZonesLimitTheirMotions := by
  refine ⟨fun c d m rate _ hdecel _ hd => ⟨slewCeiling_near, fun h => ⟨_, ?_, ?_, slewCeiling_far h⟩⟩,
    fun c z height gap hk hband hgap => ?_, fun c z r => ?_⟩
  · exact (isqrt_spec (braking_lt hdecel (by omega))).1
  · exact (isqrt_spec (braking_lt hdecel (by omega))).2
  · rw [← zoneGap_eq hk] at hgap
    subst hgap
    by_cases hpast : zoneGap z height ≤ 0
    · rw [heightEval_past hpast]
      exact ⟨0, heightCeilings_eq hk 0, fun _ => ⟨rfl, rfl, decide_eq_true_iff⟩, fun h => absurd h (by omega),
        fun h => absurd h (by omega), fun h => absurd h (by omega)⟩
    · rw [heightEval_short (by omega)]
      refine ⟨_, heightCeilings_eq hk _, fun h => absurd h hpast, fun _ hstop => ?_, fun hstop => ?_, fun _ => rfl⟩
      · have hzero := motionCeiling_near hstop
        exact ⟨hzero, by rw [hzero]; rfl⟩
      · exact ⟨motionCeiling_far hband hstop, rfl⟩
  · have hwalls := wallCondition_iff z r.reach r.height
    have hbands := inReachBand_iff z r.reach
    refine ⟨fun hin hwall => ?_, fun dl dr hin hk hwall hdl hdr => ?_, fun hin hk hband => ?_, fun hin hk hband => ?_,
      fun hcase hwall => ?_⟩
    · refine ⟨_, _, rfl, rfl, ?_⟩
      rw [evalZone_outside hin (hwalls.2 hwall), ← wallMargin_eq, ← wallWarn_eq]
      rfl
    · rw [evalZone_inside hin hk (hwalls.2 hwall)]
      exact wallInside_eq c z _ hdl hdr
    · rw [evalZone_height hin hk, if_pos (hbands.2 hband)]
    · rw [evalZone_height hin hk, if_neg fun h => hband (hbands.1 h)]
      rfl
    · rw [evalZone_clear hcase fun h => hwall (hwalls.1 h)]
      rfl

end Sys2Proof.Machine
end

/-! ## What the commands do at the engine plan controller -/

section
namespace Sys2Proof.Machine

open Sys2Proof

/-- What an event of the EPC does to it, before the commands and the allowance are re-formed. -/
inductive EpcAction (c : EpcCfg) : (Epc → Epc) → Prop
  | interval (h1 h2 : Nat) : EpcAction c (Epc.onInterval c h1 h2)
  | status (e : Engine) (st : EngState) (load speed fuel : Nat) : EpcAction c (Epc.onStatus c e st load speed fuel)
  | pumpStatus (demand : Nat) (neutral : Bool) : EpcAction c (Epc.onPumpStatus demand neutral)
  | pcuStale : EpcAction c Epc.onPcuStale
  | pcuFresh : EpcAction c fun p => { p with pcu := .fresh }
  | silent (e : Engine) : EpcAction c (Epc.onEng e EngineRec.silent)
  | summary (m : Consequences) : EpcAction c (Epc.onSummary c m)
  | hold : EpcAction c Epc.onHold
  | release : EpcAction c fun p => { p with hold := false }
  | mode (m : Mode) : EpcAction c fun p => { p with modeReq := m }
  | autoSingle (on : Bool) : EpcAction c (Epc.onAutoSingle c on)
  | autoIdle (on : Bool) : EpcAction c (Epc.onAutoIdle on)
  | cleared (e : Engine) :
      EpcAction c fun p => Epc.applyAvail c p (p.onEng e fun r => { r with failed := false })
  | keyOff : EpcAction c Epc.onKeyOff
  | keyOn : EpcAction c Epc.onKeyOn

/-- The EPC apart from its trip record. -/
def sameButTrip (p q : Epc) : Prop :=
  q = { p with tripFuel := q.tripFuel, tripResidue := q.tripResidue, tripCycles := q.tripCycles }

/-- A promise about the configuration, the EPC and the LEV that every event of the EPC keeps. -/
structure EpcKept (R : List Aspect) (P : State → Prop) : Prop where
  reads : reads R P
  narrow : ∀ b ∈ R, b ∈ [Aspect.settings, .epc, .lev]
  event : ∀ (u : State) f, EpcAction u.settings.epc f → P u → P (u.epcEvent f)
  trip : ∀ (u : State) p, sameButTrip u.epc p → P u → P { u with epc := p }

section
variable {R : List Aspect} {P : State → Prop} {s : State}

theorem EpcKept.changed (h : EpcKept R P) {F : List Aspect} {t : State} (hs : P s) (hF : changesOnly F s t)
    (hd : .settings ∉ F ∧ .epc ∉ F ∧ .lev ∉ F) : P t := by
  refine h.reads.keeps hF (fun b hb hin => ?_) hs
  obtain ⟨h1, h2, h3⟩ := hd
  obtain rfl | rfl | rfl : b = .settings ∨ b = .epc ∨ b = .lev := by simpa using h.narrow b hb
  · exact h1 hin
  · exact h2 hin
  · exact h3 hin

theorem EpcKept.notMem (h : EpcKept R P) {b : Aspect} (hb : b ∉ [Aspect.settings, .epc, .lev]) : b ∉ R :=
  fun hin => hb (h.narrow b hin)

theorem EpcKept.planInterval (h : EpcKept R P) (hs : P s) : P s.planInterval := by
  have hreport : changesOnly [.inFlight] s (s.reportStart s.epc) := s.reportStart_changes _
  have hsettings : (s.reportStart s.epc).settings = s.settings := hreport.stands .settings (by simp)
  refine h.changed (F := [.portB]) (h.event _ _ ?_ (h.changed hs hreport (by simp)))
    (State.handDemands_changes _) (by simp)
  rw [hsettings]
  exact .interval _ _

theorem EpcKept.engineReport (h : EpcKept R P) (hs : P s) (e : Engine) (st : EngState) (load speed fuel : Nat) :
    P (s.engineReport e st load speed fuel) := by
  unfold State.engineReport
  dsimp only
  split
  · exact h.event _ _ (.status e st load speed fuel) (h.changed hs (s.report_changes _ _ _) (by simp))
  · exact h.event _ _ (.status e st load speed fuel) hs

theorem EpcKept.answerCab (h : EpcKept R P) (hs : P s) (k : Nat) (r : ResultCode) : P (s.answerCab k r) :=
  h.changed hs (s.answerCab_changes k r) (by simp)

theorem EpcKept.answerPlain (h : EpcKept R P) (hs : P s) (r : ResultCode) : P (s.answerPlain r) :=
  h.changed hs (s.answerPlain_changes r) (by simp)

theorem EpcKept.requestMode (h : EpcKept R P) (hs : P s) (k : Nat) (mode : Int) : P (s.requestMode k mode) := by
  unfold State.requestMode
  split
  · exact h.answerCab hs k _
  · split
    · exact h.answerCab hs k _
    · exact h.answerCab (h.event _ _ (.mode _) hs) k _

theorem EpcKept.requestAutoSingle (h : EpcKept R P) (hs : P s) (k : Nat) (on : Bool) : P
    (s.requestAutoSingle k on) := by
  unfold State.requestAutoSingle
  split
  · exact h.answerCab hs k _
  · exact h.answerCab (h.event _ _ (.autoSingle on) hs) k _

theorem EpcKept.clearFailed (h : EpcKept R P) (hs : P s) (n : Nat) : P (s.clearFailed n) := by
  unfold State.clearFailed
  split
  · exact h.answerPlain hs _
  next e _ =>
    split
    · exact h.answerPlain (h.event _ _ (.cleared e) (h.changed hs (s.reportClear_changes _ _ _) (by simp))) _
    · exact h.answerPlain hs _

theorem EpcKept.nvc (h : EpcKept R P) (hs : P s) (n : Nvc) : P { s with nvc := n } := by
  refine h.reads s _ (fun b hb => ?_) hs
  obtain rfl | rfl | rfl : b = .settings ∨ b = .epc ∨ b = .lev := by simpa using h.narrow b hb
  · rfl
  · rfl
  · rfl

theorem EpcKept.keyOffTaken (h : EpcKept R P) (hs : P s) : P s.keyOffTaken := by
  unfold State.keyOffTaken
  split
  · refine h.changed (F := [.nvc, .inFlight]) ?_ (State.settle_changes _) (by simp)
    refine foldl_keeps P _ (fun u r hu => h.changed hu (u.requestKeyOff_changes r) (by simp)) _ _ ?_
    exact h.event _ _ .keyOff (h.nvc hs _)
  · exact hs

theorem EpcKept.keyOnTaken (h : EpcKept R P) (hs : P s) : P s.keyOnTaken := by
  unfold State.keyOnTaken
  split
  · exact hs
  · exact h.event _ _ .keyOn (h.nvc hs _)

end

/-- The commands at the LEV. -/
def isLev : Instr → Bool
  | .levPoseRecord _ | .frameZoneSet _ _ | .assistRequest _ _ | .levHoldEntry => true
  | _ => false

/-- A promise kept by every event of the EPC is kept by every command but a start and the commands of the LEV. -/
theorem EpcKept.exec {R : List Aspect} {P : State → Prop} (hP : EpcKept R P) {c : Instr} {s t : State} (hs : P s)
    (h : exec c s = .next t) (hstart : ¬isStart c) (hlev : isLev c = false) : P t := by
  have hin : .inFlight ∉ R := hP.notMem (by simp)
  have hlines : .lines ∉ R := hP.notMem (by simp)
  cases c with
  | powerOn | supplyLoss | supervisorRestart => exact absurd (by simp [isStart]) hstart
  | levPoseRecord | frameZoneSet | assistRequest | levHoldEntry => exact absurd hlev (by simp [isLev])
  | planIntervalExpiry => exact onEvent_keeps hs (fun _ hu => hP.planInterval hu) h
  | epcEngineStatus => exact onDelivery_keeps hP.reads hin hs (fun _ hu => hP.engineReport hu _ _ _ _ _) h
  | epcPumpStatus d n =>
    exact onDelivery_keeps hP.reads hin hs (fun u hu => hP.event u _ (.pumpStatus d n) hu) h
  | epcPcuStaleness => exact onDelivery_keeps hP.reads hin hs (fun u hu => hP.event u _ .pcuStale hu) h
  | epcPcuFreshness => exact onDelivery_keeps hP.reads hin hs (fun u hu => hP.event u _ .pcuFresh hu) h
  | governorStaleness e => exact onDelivery_keeps hP.reads hin hs (fun u hu => hP.event u _ (.silent e) hu) h
  | consequenceSummary m => exact onDelivery_keeps hP.reads hin hs (fun u hu => hP.event u _ (.summary m) hu) h
  | epcHoldEntry => exact onDelivery_keeps hP.reads hin hs (fun u hu => hP.event u _ .hold hu) h
  | epcHoldClear => exact onDelivery_keeps hP.reads hin hs (fun u hu => hP.event u _ .release hu) h
  | epcCycleEnd => exact onDelivery_keeps hP.reads hin hs (fun u hu => hP.trip u u.epc.addTripCycle rfl hu) h
  | tripFuelIncrement n =>
    exact onDelivery_keeps hP.reads hin hs (fun u hu => hP.trip u (u.epc.addTripFuel n) rfl hu) h
  | tripReset k =>
    exact onDelivery_keeps hP.reads hin hs (fun u hu => hP.answerCab (hP.trip u u.epc.resetTrip rfl hu) k _) h
  | setMode k m => exact onDelivery_keeps hP.reads hin hs (fun _ hu => hP.requestMode hu k m) h
  | autoSingle k on => exact onDelivery_keeps hP.reads hin hs (fun _ hu => hP.requestAutoSingle hu k on) h
  | autoIdle k on =>
    exact onDelivery_keeps hP.reads hin hs (fun u hu => hP.answerCab (hP.event u _ (.autoIdle on) hu) k _) h
  | clearFailed n => exact onDelivery_keeps hP.reads hin hs (fun _ hu => hP.clearFailed hu n) h
  | keyOff =>
    exact onLine_keeps (l := fun l => { l with key := false }) (f := State.keyOffTaken) hP.reads hlines hs
      (fun _ hu => hP.keyOffTaken hu) h
  | keyOn =>
    exact onLine_keeps (l := fun l => { l with key := true }) (f := State.keyOnTaken) hP.reads hlines hs
      (fun _ hu => hP.keyOnTaken hu) h
  | _ => exact hP.changed hs (exec_changes h) (by simp [footprint])

/-- The commands of the LEV keep what does not read it. -/
theorem EpcKept.exec_lev {R : List Aspect} {P : State → Prop} (hP : EpcKept R P)
    (hR : .lev ∉ R) {c : Instr} {s t : State}
    (hs : P s) (h : Machine.exec c s = .next t) (hlev : isLev c = true) : P t := by
  refine hP.reads.keeps_exec h hs fun b hb => ?_
  obtain rfl | rfl | rfl : b = .settings ∨ b = .epc ∨ b = .lev := by simpa using hP.narrow b hb
  · cases c <;> simp_all [isLev, footprint]
  · cases c <;> simp_all [isLev, footprint]
  · exact absurd hb hR

/-- The EPC after its start keeps what KEY-off keeps. -/
theorem EpcKept.started {R : List Aspect} {P : State → Prop} (hP : EpcKept R P) {s : State} {meters : List Nat}
    (h : P (s.blocksStarted meters)) : P (s.started meters) := by
  have hfailed : ∀ u : State, P u → P ((failedRecords s.nvc.array).foldl State.restoreBad u) := fun u hu =>
    foldl_keeps P _ (fun v r hv => hP.changed hv (v.takeFault_changes _) (by simp)) _ _ hu
  have hsummary : P (s.blocksStarted meters).handSummary := hP.changed h (State.deliver_changes _ _) (by simp)
  have hannounced := hP.changed hsummary (State.announceHold_changes _) (by simp)
  have hconfig := hP.changed (hfailed _ hannounced) (State.configInvalid_changes _ (configFault s.nvc.array)) (by simp)
  have hsettled := hP.changed hconfig (State.settle_changes _) (by simp)
  unfold State.started State.keyAtStart
  dsimp only
  split
  · exact hsettled
  · exact hP.keyOffTaken hsettled

end Sys2Proof.Machine
end

/-! ## The plan and the allowance at every step (O8, O9) -/

section
namespace Sys2Proof.Machine

open Sys2Proof

/-! ### Engines and their availability (R111) -/

@[simp] theorem otherEngine_other (e : Engine) : otherEngine (otherEngine e) = e := by cases e <;> rfl

theorem otherEngine_ne (e : Engine) : otherEngine e ≠ e := by cases e <;> simp [otherEngine]

theorem eq_other_of_ne {e x : Engine} (h : x ≠ e) : x = otherEngine e := by
  cases e <;> cases x <;> simp_all [otherEngine]

section
variable (p : Epc) (e : Engine)

theorem Epc.avail_available : p.avail e = .available ↔
    (p.eng e).failed = false ∧ ((p.eng e).excluded = false ∨ (p.eng (otherEngine e)).excluded = true) := by
  unfold Epc.avail
  cases (p.eng e).failed <;> cases (p.eng e).excluded <;> cases (p.eng (otherEngine e)).excluded <;> simp

theorem Epc.avail_excluded : p.avail e = .excluded ↔
    (p.eng e).failed = false ∧ (p.eng e).excluded = true ∧ (p.eng (otherEngine e)).excluded = false := by
  unfold Epc.avail
  cases (p.eng e).failed <;> cases (p.eng e).excluded <;> cases (p.eng (otherEngine e)).excluded <;> simp

theorem Epc.isAvailable_iff : p.isAvailable e = true ↔ p.avail e = .available := by simp [Epc.isAvailable]

theorem Epc.isExcluded_iff : p.isExcluded e = true ↔ p.avail e = .excluded := by simp [Epc.isExcluded]

end

theorem Epc.onEng_eng (e x : Engine) (f : EngineRec → EngineRec) (p : Epc) :
    (p.onEng e f).eng x = if x = e then f (p.eng x) else p.eng x := by
  cases e <;> cases x <;> rfl

/-! ### The plan without the commands (R116) -/

/-- What R116 and R130 ask of the plan, the lead and the starting engine, apart from the commands. -/
structure PlanFit (p : Epc) : Prop where
  lead : p.lead.isSome = leadNamed p.plan
  starting : p.starting.isSome = decide (p.plan = .starting)
  leadFit : ∀ e, p.lead = some e → p.avail e = .available
  startingFit : ∀ e, p.starting = some e → p.avail e = .available
  keyOff : p.keyOff = true → p.plan = .none
  trail : ∀ e, p.plan = .cooldown → p.lead = some e → (p.eng (otherEngine e)).failed = false
  swapped : ∀ e, p.starting = some e → p.swap = true ∨ p.lead = some (otherEngine e) →
    (p.eng (otherEngine e)).failed = false

/-- What the plan is judged by: `q` has the plan, its engines and its marks, and the availability flags, of `p`. -/
structure SameView (p q : Epc) : Prop where
  plan : q.plan = p.plan
  lead : q.lead = p.lead
  starting : q.starting = p.starting
  swap : q.swap = p.swap
  keyOff : q.keyOff = true → p.keyOff = true
  failed : ∀ e, (q.eng e).failed = (p.eng e).failed
  excluded : ∀ e, (q.eng e).excluded = (p.eng e).excluded

theorem SameView.avail {p q : Epc} (h : SameView p q) (e : Engine) : q.avail e = p.avail e := by
  unfold Epc.avail
  rw [h.failed, h.excluded, h.excluded]

theorem PlanFit.same {p q : Epc} (h : PlanFit p) (v : SameView p q) : PlanFit q where
  lead := by rw [v.lead, v.plan]; exact h.lead
  starting := by rw [v.starting, v.plan]; exact h.starting
  leadFit e he := by rw [v.avail]; exact h.leadFit e (by rwa [← v.lead])
  startingFit e he := by rw [v.avail]; exact h.startingFit e (by rwa [← v.starting])
  keyOff hk := by rw [v.plan]; exact h.keyOff (v.keyOff hk)
  trail e hplan he := by rw [v.failed]; exact h.trail e (by rwa [← v.plan]) (by rwa [← v.lead])
  swapped e he hs := by
    rw [v.failed]
    exact h.swapped e (by rwa [← v.starting]) (by rwa [← v.swap, ← v.lead])

theorem Epc.command_flags (c : EpcCfg) (p : Epc) (e : Engine) :
    (p.command c e).failed = (p.eng e).failed ∧ (p.command c e).excluded = (p.eng e).excluded := by
  rw [Epc.command_frame]
  exact ⟨rfl, rfl⟩

theorem Epc.reform_eng (c : EpcCfg) (p : Epc) (e : Engine) : (p.reform c).eng e = p.command c e := by cases e <;> rfl

theorem Epc.sameView_reform (c : EpcCfg) (p : Epc) : SameView p (p.reform c) where
  plan := rfl
  lead := rfl
  starting := rfl
  swap := rfl
  keyOff h := h
  failed e := by rw [Epc.reform_eng, (p.command_flags c e).1]
  excluded e := by rw [Epc.reform_eng, (p.command_flags c e).2]

theorem planOk.fit {p : Epc} (h : planOk p) : PlanFit p := by
  obtain ⟨hlead, hstarting, hleadFit, hstartingFit, hkeyOff, htrail, hswapped⟩ := h
  exact ⟨hlead, hstarting, hleadFit, hstartingFit, fun hk => (hkeyOff hk).1, htrail, hswapped⟩

/-- With the key off a fit plan commands STOP (R117, R130). -/
theorem PlanFit.reform {c : EpcCfg} {p : Epc} (h : PlanFit p) : planOk (p.reform c) := by
  have v := h.same (Epc.sameView_reform c p)
  have hstop : ∀ e, p.keyOff = true → (p.command c e).run = false := fun e hk => by
    rw [Epc.command_run, Epc.runFor, hk]
    rfl
  exact ⟨v.lead, v.starting, v.leadFit, v.startingFit, fun hk => ⟨v.keyOff hk, hstop .e1 hk, hstop .e2 hk⟩, v.trail,
    v.swapped⟩

/-! ### The plan changes -/

section
variable {c : EpcCfg} {p : Epc} {l : Engine}

theorem PlanFit.enterTwin (hkey : p.keyOff = false) : PlanFit p.enterTwin where
  lead := rfl
  starting := rfl
  leadFit _ he := nomatch he
  startingFit _ he := nomatch he
  keyOff hk := absurd hk (by simp [Epc.enterTwin, hkey])
  trail _ hplan _ := nomatch hplan
  swapped _ he _ := nomatch he

theorem PlanFit.enterNone : PlanFit p.enterNone where
  lead := rfl
  starting := rfl
  leadFit _ he := nomatch he
  startingFit _ he := nomatch he
  keyOff _ := rfl
  trail _ hplan _ := nomatch hplan
  swapped _ he _ := nomatch he

theorem PlanFit.enterSingle (hkey : p.keyOff = false) (hl : p.avail l = .available) : PlanFit (p.enterSingle l) where
  lead := rfl
  starting := rfl
  leadFit e he := by
    obtain rfl := Option.some.inj he
    exact hl
  startingFit _ he := nomatch he
  keyOff hk := absurd hk (by simp [Epc.enterSingle, hkey])
  trail _ hplan _ := nomatch hplan
  swapped _ he _ := nomatch he

theorem PlanFit.enterCooldown (hkey : p.keyOff = false) (hl : p.avail l = .available)
    (htrail : (p.eng (otherEngine l)).failed = false) : PlanFit (p.enterCooldown c l) where
  lead := rfl
  starting := rfl
  leadFit e he := by
    obtain rfl := Option.some.inj he
    exact hl
  startingFit _ he := nomatch he
  keyOff hk := absurd hk (by simp [Epc.enterCooldown, hkey])
  trail e _ he := by
    obtain rfl := Option.some.inj he
    exact htrail
  swapped _ he _ := nomatch he

theorem PlanFit.enterStarting {e : Engine} {swap : Bool} (hkey : p.keyOff = false) (hlead : p.lead = some l)
    (hl : p.avail l = .available) (he : p.avail e = .available) (hswap : (p.eng (otherEngine e)).failed = false) :
    PlanFit (p.enterStarting c e swap) where
  lead := congrArg Option.isSome hlead
  starting := rfl
  leadFit x hx := by
    obtain rfl := Option.some.inj (hlead.symm.trans hx)
    exact hl
  startingFit x hx := by
    obtain rfl := Option.some.inj hx
    exact he
  keyOff hk := absurd hk (by simp [Epc.enterStarting, hkey])
  trail _ hplan _ := nomatch hplan
  swapped x hx _ := by
    obtain rfl := Option.some.inj hx
    exact hswap

/-- An engine that is AVAILABLE is not FAILED. -/
theorem Epc.not_failed {e : Engine} (h : p.avail e = .available) : (p.eng e).failed = false :=
  ((p.avail_available e).1 h).1

theorem PlanFit.keyOn (h : PlanFit p) (hplan : p.plan ≠ .none) : p.keyOff = false := by
  cases hk : p.keyOff with
  | false => rfl
  | true => exact absurd (h.keyOff hk) hplan

/-- From PLAN_SINGLE a trail that is AVAILABLE may start. -/
theorem PlanFit.startTrail (h : PlanFit p) (hplan : p.plan ≠ .none) (hlead : p.lead = some l)
    (htrail : p.avail (otherEngine l) = .available) (swap : Bool) :
    PlanFit (p.enterStarting c (otherEngine l) swap) :=
  PlanFit.enterStarting (h.keyOn hplan) hlead (h.leadFit l hlead) htrail
    (by rw [otherEngine_other]; exact Epc.not_failed (h.leadFit l hlead))

end

/-! ### A change of availability (R124) -/

/-- Before and after a change of the availability flags: the plan is the same, and no engine has become FAILED. -/
structure FlagsChanged (p q : Epc) : Prop where
  plan : q.plan = p.plan
  lead : q.lead = p.lead
  starting : q.starting = p.starting
  swap : q.swap = p.swap
  keyOff : q.keyOff = p.keyOff
  failed : ∀ e, (q.eng e).failed = true → (p.eng e).failed = true

/-- With an engine EXCLUDED, the other is not. -/
theorem Epc.other_not_excluded {p : Epc} {e : Engine} (h : p.avail e = .excluded) :
    (p.eng (otherEngine e)).excluded = false := ((p.avail_excluded e).1 h).2.2

theorem Epc.excluded_unique {p : Epc} {e x : Engine} (h : p.avail e = .excluded) (hx : p.avail x = .excluded) :
    x = e := by
  by_contra hne
  obtain rfl := eq_other_of_ne hne
  have h1 := p.other_not_excluded h
  have h2 := ((p.avail_excluded _).1 hx).2.1
  exact absurd h2 (by simp [h1])

section
variable {c : EpcCfg} {p q : Epc}

/-- An engine that was AVAILABLE is AVAILABLE still, unless it has become EXCLUDED. -/
theorem FlagsChanged.available (h : FlagsChanged p q) {e : Engine} (hp : p.avail e = .available)
    (hne : q.avail e ≠ .excluded) : q.avail e = .available := by
  have hfailed : (q.eng e).failed = false := by
    cases hf : (q.eng e).failed with
    | false => rfl
    | true => exact absurd (h.failed e hf) (by simp [Epc.not_failed hp])
  rw [Epc.avail_available]
  refine ⟨hfailed, ?_⟩
  by_contra hcon
  rw [not_or] at hcon
  exact hne ((q.avail_excluded e).2 ⟨hfailed, by simpa using hcon.1, by simpa using hcon.2⟩)

/-- Where the lead and the starting engine have not become EXCLUDED, the plan stays fit. -/
theorem FlagsChanged.fit (h : FlagsChanged p q) (hp : PlanFit p)
    (hlead : ∀ e, p.lead = some e → q.avail e ≠ .excluded)
    (hstarting : ∀ e, p.starting = some e → q.avail e ≠ .excluded) : PlanFit q where
  lead := by rw [h.lead, h.plan]; exact hp.lead
  starting := by rw [h.starting, h.plan]; exact hp.starting
  leadFit e he := by
    rw [h.lead] at he
    exact h.available (hp.leadFit e he) (hlead e he)
  startingFit e he := by
    rw [h.starting] at he
    exact h.available (hp.startingFit e he) (hstarting e he)
  keyOff hk := by
    rw [h.plan]
    exact hp.keyOff (h.keyOff ▸ hk)
  trail e hplan he := by
    cases hf : (q.eng (otherEngine e)).failed with
    | false => rfl
    | true =>
      exact absurd (h.failed _ hf) (by simp [hp.trail e (h.plan ▸ hplan) (h.lead ▸ he)])
  swapped e he hs := by
    cases hf : (q.eng (otherEngine e)).failed with
    | false => rfl
    | true =>
      rw [h.swap, h.lead] at hs
      exact absurd (h.failed _ hf) (by simp [hp.swapped e (h.starting ▸ he) hs])

/-- R124: an engine that has become EXCLUDED leaves a fit plan. -/
theorem FlagsChanged.becameExcluded (h : FlagsChanged p q) (hp : PlanFit p) {e : Engine} (hkey : q.keyOff = false)
    (he : q.avail e = .excluded) : PlanFit (q.becameExcluded c e) := by
  have hnotFailed : (q.eng e).failed = false := ((q.avail_excluded e).1 he).1
  have hother : ∀ x, x ≠ e → q.avail x ≠ .excluded := fun x hx hq => hx (Epc.excluded_unique he hq)
  have hotherFit : (q.eng (otherEngine e)).failed = false → q.avail (otherEngine e) = .available := fun hf =>
    (q.avail_available _).2 ⟨hf, .inl (q.other_not_excluded he)⟩
  have hstands : (∀ x, p.lead = some x → x ≠ e) → (∀ x, p.starting = some x → x ≠ e) → PlanFit q := fun hl hs =>
    h.fit hp (fun x hx => hother x (hl x hx)) fun x hx => hother x (hs x hx)
  have hlead : ∀ {x}, q.lead = some x → p.avail x = .available := fun hx => hp.leadFit _ (h.lead ▸ hx)
  have hstarting : ∀ {x}, q.starting = some x → p.avail x = .available := fun hx => hp.startingFit _ (h.starting ▸ hx)
  have hidle : q.plan ≠ .starting → ∀ x, p.starting ≠ some x := fun hplan x hx => by
    have := hp.starting
    rw [hx, ← h.plan] at this
    exact hplan (by simpa using this.symm)
  unfold Epc.becameExcluded
  split
  next hplan =>
    split
    next hself =>
      split
      next havail => exact PlanFit.enterSingle hkey ((Epc.isAvailable_iff _ _).1 havail)
      next => exact PlanFit.enterTwin hkey
    next hself =>
      have hstart : ∀ x, p.starting = some x → x ≠ e := fun x hx hxe => hself (by rw [h.starting, hx, hxe])
      split
      next hswap =>
        obtain ⟨hs, hl⟩ := hswap
        have hfit : q.avail (otherEngine e) = .available :=
          h.available (hstarting hs) (hother _ (otherEngine_ne e))
        exact {
          lead := by rw [show q.plan = .starting from hplan]; rfl
          starting := by rw [show q.plan = .starting from hplan]; exact congrArg Option.isSome hs
          leadFit := fun x hx => by
            obtain rfl := Option.some.inj hx
            exact hfit
          startingFit := fun x hx => by
            obtain rfl := Option.some.inj (hs.symm.trans hx)
            exact hfit
          keyOff := fun hk => absurd hk (by simp [hkey])
          trail := fun x hx _ => by rw [show q.plan = .starting from hplan] at hx; exact nomatch hx
          swapped := fun x hx _ => by
            obtain rfl := Option.some.inj (hs.symm.trans hx)
            rw [otherEngine_other]
            exact hnotFailed }
      next hswap =>
        refine hstands (fun x hx hxe => ?_) hstart
        subst hxe
        obtain ⟨y, hy⟩ := Option.isSome_iff_exists.1 (hp.starting.trans (by rw [← h.plan, hplan]; rfl))
        have hyo := eq_other_of_ne (hstart y hy)
        exact hswap ⟨by rw [h.starting, hy, hyo], by rw [h.lead, hx]⟩
  next hplan =>
    split
    next hl =>
      refine PlanFit.enterCooldown hkey (hotherFit ?_) (by rw [otherEngine_other]; exact hnotFailed)
      cases hf : (q.eng (otherEngine e)).failed with
      | false => rfl
      | true => exact absurd (h.failed _ hf) (by simp [hp.trail e (h.plan ▸ hplan) (h.lead ▸ hl)])
    next hl =>
      refine hstands (fun x hx hxe => hl (by rw [h.lead, hx, hxe])) fun x hx => ?_
      exact absurd hx (hidle (by simp [hplan]) x)
  next hplan =>
    split
    next hl =>
      split
      next hgo =>
        have hfit := (Epc.isAvailable_iff _ _).1 hgo.1
        exact PlanFit.enterStarting (l := otherEngine e) hkey rfl hfit hfit
          (by rw [otherEngine_other]; exact hnotFailed)
      next => exact PlanFit.enterTwin hkey
    next hl =>
      refine hstands (fun x hx hxe => hl (by rw [h.lead, hx, hxe])) fun x hx => ?_
      exact absurd hx (hidle (by simp [hplan]) x)
  all_goals
    rename_i hplan
    refine hstands (fun x hx => ?_) fun x hx => absurd hx (hidle (by simp [hplan]) x)
    have hnone := hp.lead
    rw [hx, ← h.plan, hplan] at hnone
    exact absurd hnone (by simp [leadNamed])

end

theorem Epc.becameExcluded_eng (c : EpcCfg) (e x : Engine) (p : Epc) :
    (p.becameExcluded c e).eng x = p.eng x ∧ (p.becameExcluded c e).keyOff = p.keyOff := by
  unfold Epc.becameExcluded
  split
  · split
    · split <;> exact ⟨by cases x <;> rfl, rfl⟩
    · split <;> exact ⟨by cases x <;> rfl, rfl⟩
  · split <;> exact ⟨by cases x <;> rfl, rfl⟩
  · split
    · split <;> exact ⟨by cases x <;> rfl, rfl⟩
    · exact ⟨rfl, rfl⟩
  · exact ⟨rfl, rfl⟩
  · exact ⟨rfl, rfl⟩

theorem Epc.availChanged_eng (c : EpcCfg) (b : Epc) (e x : Engine) (p : Epc) :
    (Epc.availChanged c b e p).eng x = p.eng x := by
  unfold Epc.availChanged
  split
  · exact (p.becameExcluded_eng c e x).1
  · rfl

theorem Epc.avail_congr {p q : Epc} (h : ∀ x, q.eng x = p.eng x) (e : Engine) : q.avail e = p.avail e := by
  unfold Epc.avail
  rw [h, h]

theorem Epc.availChanged_of_not_excluded (c : EpcCfg) (b : Epc) {e : Engine} {p : Epc} (h : p.avail e ≠ .excluded) :
    Epc.availChanged c b e p = p := by
  have hx : p.isExcluded e = false := by simpa [Epc.isExcluded] using h
  simp [Epc.availChanged, hx]

/-- With no engine EXCLUDED, R124 asks for nothing. -/
theorem Epc.applyAvail_of_none (c : EpcCfg) (b : Epc) {p : Epc} (h : ∀ e, p.avail e ≠ .excluded) :
    Epc.applyAvail c b p = p := by
  unfold Epc.applyAvail
  rw [Epc.availChanged_of_not_excluded c b (h .e1), Epc.availChanged_of_not_excluded c b (h .e2)]

/-- R111 leaves one engine EXCLUDED at most, so R124 is applied to one. -/
theorem Epc.applyAvail_of_excluded (c : EpcCfg) (b : Epc) {p : Epc} {e : Engine} (h : p.avail e = .excluded) :
    Epc.applyAvail c b p = Epc.availChanged c b e p := by
  unfold Epc.applyAvail
  cases e with
  | e1 =>
    refine Epc.availChanged_of_not_excluded c b fun h2 => ?_
    rw [Epc.avail_congr (Epc.availChanged_eng c b .e1 · p)] at h2
    exact nomatch Epc.excluded_unique h h2
  | e2 =>
    have h1 : p.avail .e1 ≠ .excluded := fun h1 => nomatch Epc.excluded_unique h h1
    rw [Epc.availChanged_of_not_excluded c b h1]

section
variable {c : EpcCfg} {p q : Epc}

/-- R124 leaves a fit plan. -/
theorem FlagsChanged.applyAvail (h : FlagsChanged p q) (hp : PlanFit p) : PlanFit (Epc.applyAvail c p q) := by
  by_cases hany : ∃ e, q.avail e = .excluded
  · obtain ⟨e, he⟩ := hany
    have hstands : (∀ x, p.lead = some x → x ≠ e) → (∀ x, p.starting = some x → x ≠ e) → PlanFit q := fun hl hs =>
      h.fit hp (fun x hx hq => hl x hx (Epc.excluded_unique he hq))
        fun x hx hq => hs x hx (Epc.excluded_unique he hq)
    rw [Epc.applyAvail_of_excluded c p he]
    unfold Epc.availChanged
    split
    next hcond => exact h.becameExcluded hp (by simp_all) he
    next hcond =>
      cases hkey : q.keyOff with
      | true =>
        have hplan := hp.keyOff (h.keyOff ▸ hkey)
        have hlead := hp.lead
        have hstarting := hp.starting
        rw [hplan] at hlead hstarting
        exact hstands (fun x hx => by simp [hx, leadNamed] at hlead) fun x hx => by simp [hx] at hstarting
      | false =>
        have hbefore : p.avail e = .excluded := by
          have hx : q.isExcluded e = true := (Epc.isExcluded_iff _ _).2 he
          have : p.avail e = q.avail e := by simpa [hkey, hx] using hcond
          rw [this, he]
        exact hstands (fun x hx hxe => by simpa [hxe, hbefore] using hp.leadFit x hx)
          fun x hx hxe => by simpa [hxe, hbefore] using hp.startingFit x hx
  · have hnone : ∀ e, q.avail e ≠ .excluded := fun e he => hany ⟨e, he⟩
    rw [Epc.applyAvail_of_none c p hnone]
    exact h.fit hp (fun e _ => hnone e) fun e _ => hnone e

end

/-! ### What an event leaves of the view -/

/-- A change of the records that leaves the flags, and of the EPC that leaves the plan. -/
theorem SameView.onEng (e : Engine) {f : EngineRec → EngineRec} (p : Epc)
    (h : ∀ r, (f r).failed = r.failed ∧ (f r).excluded = r.excluded) : SameView p (p.onEng e f) := by
  cases e <;>
  exact {
    plan := rfl, lead := rfl, starting := rfl, swap := rfl, keyOff := id
    failed := fun x => by cases x <;> simp [Epc.onEng, Epc.eng, h]
    excluded := fun x => by cases x <;> simp [Epc.onEng, Epc.eng, h] }

/-- An EPC that differs from `p` in no field the plan is judged by. -/
theorem SameView.of_eq {p q : Epc} (hplan : q.plan = p.plan) (hlead : q.lead = p.lead)
    (hstart : q.starting = p.starting)
    (hswap : q.swap = p.swap) (hkey : q.keyOff = p.keyOff) (h1 : q.e1 = p.e1) (h2 : q.e2 = p.e2) : SameView p q where
  plan := hplan
  lead := hlead
  starting := hstart
  swap := hswap
  keyOff h := hkey ▸ h
  failed e := by cases e <;> simp [Epc.eng, h1, h2]
  excluded e := by cases e <;> simp [Epc.eng, h1, h2]

theorem Epc.keepIdle_view (c : EpcCfg) (p : Epc) : SameView p (p.keepIdle c) := by
  unfold Epc.keepIdle
  split <;> exact .of_eq rfl rfl rfl rfl rfl rfl rfl

section
variable {c : EpcCfg} {p : Epc}

theorem PlanFit.keyOffClear (h : PlanFit p) {x : Plan} (hplan : p.plan = x) (hx : x ≠ .none) : p.keyOff = false :=
  h.keyOn (hplan ▸ hx)

/-! ### The plan interval (R120 to R123) -/

theorem PlanFit.leadSome (h : PlanFit p) (hplan : leadNamed p.plan = true) : ∃ l, p.lead = some l :=
  Option.isSome_iff_exists.1 (h.lead.trans hplan)

theorem PlanFit.leadNone (h : PlanFit p) (hplan : leadNamed p.plan = false) : p.lead = none := by
  simpa [hplan] using h.lead

theorem PlanFit.startingNone (h : PlanFit p) (hplan : p.plan ≠ .starting) : p.starting = none := by
  simpa [hplan] using h.starting

theorem PlanFit.twinTests (h : PlanFit p) (hplan : p.plan = .twin) (h1 h2 : Nat) : PlanFit (p.twinTests c h1 h2) := by
  have hkey := h.keyOffClear hplan (by simp)
  unfold Epc.twinTests
  split
  next hdue =>
    simp only [Epc.cooldownDue, Bool.and_eq_true, Epc.isAvailable_iff] at hdue
    obtain ⟨⟨⟨⟨_, he1⟩, he2⟩, _⟩, _⟩ := hdue
    have hboth : ∀ e, p.avail e = .available := fun e => by cases e <;> assumption
    exact PlanFit.enterCooldown hkey (hboth _) (Epc.not_failed (hboth _))
  next =>
    split
    next l hl =>
      unfold Epc.forcedLead at hl
      have hfit : p.avail l = .available ∧ p.avail (otherEngine l) = .excluded := by
        split at hl
        next hc =>
          obtain rfl := Option.some.inj hl
          simp only [Bool.and_eq_true, Epc.isExcluded_iff, Epc.isAvailable_iff] at hc
          exact ⟨hc.1.2, hc.1.1.1⟩
        next =>
          split at hl
          next hc =>
            obtain rfl := Option.some.inj hl
            simp only [Bool.and_eq_true, Epc.isExcluded_iff, Epc.isAvailable_iff] at hc
            exact ⟨hc.1.2, hc.1.1.1⟩
          next => exact nomatch hl
      exact PlanFit.enterCooldown hkey hfit.1 ((p.avail_excluded _).1 hfit.2).1
    next => exact h

theorem PlanFit.cooldownTests (h : PlanFit p) (hplan : p.plan = .cooldown) : PlanFit (p.cooldownTests c) := by
  have hkey := h.keyOffClear hplan (by simp)
  unfold Epc.cooldownTests
  split
  · exact h
  next l hl =>
    split
    · exact h
    · split
      · exact PlanFit.enterTwin hkey
      · dsimp only
        split
        · exact PlanFit.enterSingle hkey (h.leadFit l hl)
        · exact h.same (.of_eq rfl rfl rfl rfl rfl rfl rfl)

theorem PlanFit.singleTests (h : PlanFit p) (hplan : p.plan = .single) (h1 h2 d : Nat) :
    PlanFit (p.singleTests c h1 h2 d) := by
  have hstarts : p.plan ≠ .none := by simp [hplan]
  unfold Epc.singleTests
  split
  · exact h
  next l hl =>
    dsimp only
    split
    · exact h
    next hcond =>
      have htrail : p.avail (otherEngine l) = .available := by simp_all [Epc.isAvailable]
      split
      · exact h.startTrail hstarts hl htrail false
      · split
        · exact h.startTrail hstarts hl htrail true
        · exact h

/-- The failure of an engine leaves the availability of the other (R111). -/
theorem Epc.avail_failed_other (p : Epc) (e : Engine) :
    (p.onEng e fun r => { r with failed := true }).avail (otherEngine e) = p.avail (otherEngine e) := by
  cases e <;> rfl

/-- A start that ends, by its timer or with the engine lost, leaves the other engine to lead, or none (R123, R125). -/
theorem PlanFit.startTimedOut (h : PlanFit p) (hplan : p.plan = .starting) (e : Engine) : PlanFit
    (p.startTimedOut e) := by
  have hkey := h.keyOffClear hplan (by simp)
  have hkey' : (p.onEng e fun r => { r with failed := true }).keyOff = false := by cases e <;> exact hkey
  unfold Epc.startTimedOut
  dsimp only
  split
  next havail => exact PlanFit.enterSingle hkey' havail
  · exact PlanFit.enterTwin hkey'
  · exact PlanFit.enterNone

theorem PlanFit.startingTests (h : PlanFit p) (hplan : p.plan = .starting) : PlanFit p.startingTests := by
  unfold Epc.startingTests
  split
  · exact h
  · split
    · exact h.startTimedOut hplan _
    · exact h.same (.of_eq rfl rfl rfl rfl rfl rfl rfl)

theorem PlanFit.onInterval (h : PlanFit p) (h1 h2 : Nat) : PlanFit (p.onInterval c h1 h2) := by
  unfold Epc.onInterval
  dsimp only
  have hview : PlanFit (({ p with filter := filterStep p.filter (p.rawDemand c) }.keepIdle c).keepCounts c) := by
    refine ((h.same (q := { p with filter := filterStep p.filter (p.rawDemand c) }) ?_).same
      (Epc.keepIdle_view c _)).same ?_
    · exact .of_eq rfl rfl rfl rfl rfl rfl rfl
    · exact .of_eq rfl rfl rfl rfl rfl rfl rfl
  unfold Epc.planTests
  split
  next => exact hview
  next hplan => exact hview.twinTests hplan h1 h2
  next hplan => exact hview.cooldownTests hplan
  next hplan => exact hview.singleTests hplan h1 h2 _
  next hplan => exact hview.startingTests hplan

/-! ### Reports of the engines (R119, R123, R125) -/

theorem PlanFit.startCompleted (h : PlanFit p) (hplan : p.plan = .starting) {e : Engine} (he : p.starting = some e) :
    PlanFit (p.startCompleted c e) := by
  have hkey := h.keyOffClear hplan (by simp)
  unfold Epc.startCompleted
  dsimp only
  split
  next hswap => exact PlanFit.enterCooldown hkey (h.startingFit e he) (h.swapped e he (.inl hswap))
  next => exact PlanFit.enterTwin hkey

/-- With the key off no engine is commanded RUN, so a report starts no plan (R130). -/
theorem PlanFit.onRunning (h : PlanFit p) (hstop : p.keyOff = true → ∀ e, (p.eng e).run = false) (e : Engine) :
    PlanFit (p.onRunning c e) := by
  unfold Epc.onRunning
  split
  · exact h
  next hrun =>
    have hkey : p.keyOff = false := by
      cases hk : p.keyOff with
      | false => rfl
      | true => exact absurd (hstop hk e) (by simpa using hrun)
    split
    · exact PlanFit.enterTwin hkey
    · split
      next hs => exact h.startCompleted hs.1 hs.2
      next => exact h

theorem PlanFit.lost (h : PlanFit p) (hkey : p.keyOff = false) (e : Engine) : PlanFit (p.lost e) := by
  have hkey' : (p.onEng e fun r => { r with failed := true }).keyOff = false := by cases e <;> exact hkey
  unfold Epc.lost
  dsimp only
  split
  next hs =>
    obtain ⟨hplan, hstart⟩ := hs
    have hother := (p.avail_failed_other e).trans (h.startingFit _ hstart)
    exact {
      lead := by rw [show Epc.plan _ = .starting by cases e <;> exact hplan]; rfl
      starting := by
        rw [show Epc.plan _ = .starting by cases e <;> exact hplan,
          show Epc.starting _ = some (otherEngine e) by cases e <;> exact hstart]
        rfl
      leadFit := fun x hx => by
        obtain rfl := Option.some.inj hx
        exact hother
      startingFit := fun x hx => by
        obtain rfl : otherEngine e = x := by cases e <;> exact Option.some.inj (hstart.symm.trans hx)
        exact hother
      keyOff := fun hk => absurd hk (by simpa using hkey')
      trail := fun x hx _ => by
        have : p.plan = .cooldown := by cases e <;> exact hx
        exact absurd (hplan.symm.trans this) (by simp)
      swapped := fun x hx hs => by
        obtain rfl : otherEngine e = x := by cases e <;> exact Option.some.inj (hstart.symm.trans hx)
        exact absurd hs (by simp [otherEngine_ne e]) }
  next =>
    split
    next hr =>
      simp only [Bool.and_eq_true, Epc.isAvailable_iff] at hr
      exact PlanFit.enterSingle hkey' hr.2
    next =>
      split
      · exact PlanFit.enterTwin hkey'
      · exact PlanFit.enterNone

end

end Sys2Proof.Machine
end

/-! ## The events of the engine plan controller keep the plan, the commands and the allowance (O8, O9) -/

section
namespace Sys2Proof.Machine

open Sys2Proof

/-! ### A fit plan (R116) -/

theorem Epc.reportedAs_view (e : Engine) (st : EngState) (load speed fuel : Nat) (p : Epc) :
    SameView p (p.onEng e (EngineRec.reportedAs st load speed fuel)) :=
  .onEng e p fun _ => ⟨rfl, rfl⟩

theorem Epc.reportedAs_run (e x : Engine) (st : EngState) (load speed fuel : Nat) (p : Epc) :
    ((p.onEng e (EngineRec.reportedAs st load speed fuel)).eng x).run = (p.eng x).run := by
  cases e <;> cases x <;> rfl

theorem planOk.stopped {p : Epc} (h : planOk p) (hk : p.keyOff = true) (e : Engine) : (p.eng e).run = false := by
  obtain ⟨_, _, _, _, hkeyOff, _⟩ := h
  obtain ⟨_, h1, h2⟩ := hkeyOff hk
  cases e
  · exact h1
  · exact h2

section
variable {c : EpcCfg} {p : Epc}

theorem planOk.onStatus (h : planOk p) (e : Engine) (st : EngState) (load speed fuel : Nat) :
    PlanFit (p.onStatus c e st load speed fuel) := by
  have hview := p.reportedAs_view e st load speed fuel
  have hfit := h.fit.same hview
  unfold Epc.onStatus
  dsimp only
  split
  · exact hfit.onRunning (fun hk x => by rw [p.reportedAs_run]; exact h.stopped (hview.keyOff hk) x) e
  · split
    next hlost =>
      have hrun : (p.eng e).run = true := by simp_all [Epc.isLost]
      have hkey : p.keyOff = false := by
        cases hk : p.keyOff with
        | false => rfl
        | true => exact absurd (h.stopped hk e) (by simp [hrun])
      refine hfit.lost ?_ e
      cases hk : (p.onEng e (EngineRec.reportedAs st load speed fuel)).keyOff with
      | false => rfl
      | true => exact absurd (hview.keyOff hk) (by simp [hkey])
    · exact hfit

theorem PlanFit.onAutoSingle (h : PlanFit p) (on : Bool) : PlanFit (p.onAutoSingle c on) := by
  have hswitched : PlanFit { p with autoSingle := on } := h.same (.of_eq rfl rfl rfl rfl rfl rfl rfl)
  unfold Epc.onAutoSingle
  dsimp only
  split
  · exact hswitched
  · split
    next l hplan hlead =>
      split
      · exact hswitched
      · exact PlanFit.enterTwin (h.keyOffClear hplan (by simp))
    next l hplan hlead =>
      split
      next htrail =>
        exact hswitched.startTrail (by simp [hplan]) hlead ((Epc.isAvailable_iff _ _).1 htrail) false
      · exact hswitched
    · exact hswitched

theorem PlanFit.onKeyOff : PlanFit p.onKeyOff where
  lead := rfl
  starting := rfl
  leadFit _ he := nomatch he
  startingFit _ he := nomatch he
  keyOff _ := rfl
  trail _ hplan _ := nomatch hplan
  swapped _ he _ := nomatch he

theorem PlanFit.onSummary (h : PlanFit p) (m : Consequences) : PlanFit (p.onSummary c m) :=
  FlagsChanged.applyAvail
    { plan := rfl, lead := rfl, starting := rfl, swap := rfl, keyOff := rfl
      failed := fun e hf => by cases e <;> exact hf } h

theorem PlanFit.onCleared (h : PlanFit p) (e : Engine) :
    PlanFit (Epc.applyAvail c p (p.onEng e fun r => { r with failed := false })) :=
  FlagsChanged.applyAvail
    { plan := by cases e <;> rfl
      lead := by cases e <;> rfl
      starting := by cases e <;> rfl
      swap := by cases e <;> rfl
      keyOff := by cases e <;> rfl
      failed := fun x hf => by
        rw [Epc.onEng_eng] at hf
        split at hf
        · exact nomatch hf
        · exact hf } h

/-- Every event of the EPC leaves a fit plan. -/
theorem planOk.acted (h : planOk p) {f : Epc → Epc} (hf : EpcAction c f) : PlanFit (f p) := by
  have same {q : Epc} : SameView p q → PlanFit q := h.fit.same
  cases hf with
  | interval h1 h2 => exact h.fit.onInterval h1 h2
  | status e st load speed fuel => exact h.onStatus e st load speed fuel
  | pumpStatus d n =>
    refine same ?_
    unfold Epc.onPumpStatus
    dsimp only
    split <;> exact .of_eq rfl rfl rfl rfl rfl rfl rfl
  | pcuStale | pcuFresh | hold | release | mode => exact same (.of_eq rfl rfl rfl rfl rfl rfl rfl)
  | silent e => exact same (.onEng e p fun _ => ⟨rfl, rfl⟩)
  | summary m => exact h.fit.onSummary m
  | autoSingle on => exact h.fit.onAutoSingle on
  | autoIdle on =>
    refine same ?_
    unfold Epc.onAutoIdle
    split <;> exact .of_eq rfl rfl rfl rfl rfl rfl rfl
  | cleared e => exact h.fit.onCleared e
  | keyOff => exact PlanFit.onKeyOff
  | keyOn =>
    exact same { plan := rfl, lead := rfl, starting := rfl, swap := rfl, keyOff := nofun, failed := fun _ => rfl
                 excluded := fun _ => rfl }

end

theorem State.epcEvent_settings (f : Epc → Epc) (s : State) : (s.epcEvent f).settings = s.settings := by
  rw [State.epcEvent_frame]

theorem State.epcEvent_epc (f : Epc → Epc) (s : State) : (s.epcEvent f).epc = (f s.epc).reform s.settings.epc := by
  rw [State.epcEvent_frame]

theorem sameButTrip.view {p q : Epc} (h : sameButTrip p q) : SameView p q := by
  have hall : q = { p with tripFuel := q.tripFuel, tripResidue := q.tripResidue, tripCycles := q.tripCycles } := h
  rw [hall]
  exact .of_eq rfl rfl rfl rfl rfl rfl rfl

theorem planOk.tripChanged {p q : Epc} (h : planOk p) (hq : sameButTrip p q) : planOk q := by
  have hall : q = { p with tripFuel := q.tripFuel, tripResidue := q.tripResidue, tripCycles := q.tripCycles } := hq
  rw [hall]
  exact h

theorem planKept : EpcKept [.epc] fun s => planOk s.epc where
  reads s t hst h := by
    have hepc : t.epc = s.epc := hst .epc (by simp)
    exact (congrArg planOk hepc).mpr h
  narrow b hb := by simp_all
  event u f hf h := by
    rw [State.epcEvent_epc]
    exact (h.acted hf).reform
  trip _ _ hq h := h.tripChanged hq

theorem Epc.planFit_start (c : EpcCfg) : PlanFit (Epc.start c) where
  lead := rfl
  starting := rfl
  leadFit _ he := absurd he (by simp [Epc.start])
  startingFit _ he := absurd he (by simp [Epc.start])
  keyOff _ := rfl
  trail _ hplan _ := absurd hplan (by simp [Epc.start])
  swapped _ he _ := absurd he (by simp [Epc.start])

theorem Epc.planOk_start (c : EpcCfg) : planOk (Epc.start c) := by
  obtain ⟨hlead, hstarting, hleadFit, hstartingFit, _, htrail, hswapped⟩ := Epc.planFit_start c
  exact ⟨hlead, hstarting, hleadFit, hstartingFit, nofun, htrail, hswapped⟩

/-- A promise about the EPC that its events and its start keep is kept by every command. -/
theorem EpcKept.exec_any {P : State → Prop} {R : List Aspect} (hP : EpcKept R P) (hR : .lev ∉ R)
    (hstart : ∀ (u : State) m, P (u.blocksStarted m)) {c : Instr} {s t : State} (hs : P s)
    (h : Machine.exec c s = .next t) : P t := by
  by_cases hc : isStart c
  · exact exec_start_keeps (M := fun _ => True) hP.reads (hP.notMem (by simp)) (fun u m _ => hP.started (hstart u m))
      (hP.reads.supplyLost (hP.notMem (by simp)) (hP.notMem (by simp)) fun u => hstart u _)
      (fun _ => trivial) hs trivial hc h
  · cases hlev : isLev c with
    | true => exact hP.exec_lev hR hs h hlev
    | false => exact hP.exec hs h hc hlev

/-- Settles O8: every event of the EPC leaves a fit plan, and re-forming the commands stops both engines with the key
off. -/
theorem planKeepsAFitLead : Obligations.PlanKeepsAFitLead :=
  fun s t hs h => step_keeps planKept.reads (by simp)
    (fun _ _ _ hq hexec => planKept.exec_any (by simp) (fun _ _ => Epc.planOk_start _) hq hexec) s t hs h

/-! ### Commands and allowance (R117, R128, R129) -/

section
variable (c : EpcCfg) (p : Epc) (e : Engine)

theorem Epc.reform_failed : ((p.reform c).eng e).failed = (p.eng e).failed := (Epc.sameView_reform c p).failed e

theorem Epc.reform_excluded : ((p.reform c).eng e).excluded = (p.eng e).excluded := (Epc.sameView_reform c p).excluded e

theorem Epc.reform_isExcluded : (p.reform c).isExcluded e = p.isExcluded e := by
  unfold Epc.isExcluded
  rw [(Epc.sameView_reform c p).avail]

theorem Epc.reform_run : ((p.reform c).eng e).run = p.runFor e := by rw [Epc.reform_eng, Epc.command_run]

/-- Re-forming clears the has-run mark of an engine commanded STOP, which R117 reads only of an engine EXCLUDED in
PLAN_TWIN: such an engine, once commanded STOP, is commanded STOP still. -/
theorem Epc.runFor_reform : (p.reform c).runFor e = p.runFor e := by
  have hplan : (p.reform c).plan = p.plan := rfl
  have hhas : p.runFor e = true → ((p.reform c).eng e).hasRun = (p.eng e).hasRun := fun hrun => by
    rw [Epc.reform_eng, Epc.command]
    simp [hrun]
  have hcleared : p.runFor e = false → ((p.reform c).eng e).hasRun = false := fun hrun => by
    rw [Epc.reform_eng, Epc.command]
    simp [hrun]
  cases hrun : p.runFor e with
  | true =>
    rw [← hrun]
    unfold Epc.runFor
    rw [hplan, p.reform_failed, p.reform_isExcluded, hhas hrun]
    rfl
  | false =>
    have hmark := hcleared hrun
    unfold Epc.runFor at hrun ⊢
    rw [hplan, p.reform_failed, p.reform_isExcluded, hmark]
    change (if p.keyOff || (p.eng e).failed then false else _) = false
    split
    · rfl
    next hon =>
      rw [if_neg hon] at hrun
      split <;> simp_all [Epc.reform, Epc.recommand, Epc.reallow]

theorem Epc.reform_capped : (p.reform c).capped = p.capped := by
  have h1 := p.reform_excluded c .e1
  have h2 := p.reform_excluded c .e2
  unfold Epc.capped
  rw [show (p.reform c).e1.excluded = p.e1.excluded from h1, show (p.reform c).e2.excluded = p.e2.excluded from h2]
  rfl

/-- The allowance of R128 is that of the commands just re-formed. -/
theorem Epc.reform_allowance : (p.reform c).allowance = (p.reform c).allowanceOf c := rfl

/-- In HOLD the engines stand low once the commands are re-formed. -/
theorem Epc.reform_low (h : (p.reform c).hold = true) :
    (p.reform c).allowance ≤ c.holdKw
      ∧ ∀ e, ((p.reform c).eng e).run = true → ((p.reform c).eng e).cmdSpeed = c.idleRpm := by
  refine ⟨?_, fun e hrun => ?_⟩
  · rw [p.reform_allowance, Epc.allowanceOf, if_pos h]
    exact Nat.min_le_right _ _
  · rw [p.reform_run] at hrun
    rw [Epc.reform_eng, Epc.command, if_pos hrun]
    have hhold : p.hold = true := h
    simp [Epc.runSpeed, hhold]

end

theorem allowanceKept : EpcKept [.settings, .epc] allowanceOk where
  reads s t hst h := by
    have hsettings : t.settings = s.settings := hst .settings (by simp)
    have hepc : t.epc = s.epc := hst .epc (by simp)
    unfold allowanceOk
    rw [hsettings, hepc]
    exact h
  narrow b hb := by
    obtain rfl | rfl : b = .settings ∨ b = .epc := by simpa using hb
    · simp
    · simp
  event u f _ _ := by
    unfold allowanceOk
    rw [State.epcEvent_epc, State.epcEvent_settings]
    exact ⟨rfl, fun e => by rw [Epc.reform_run, Epc.runFor_reform]⟩
  trip u p hp h := by
    have hall : p = { u.epc with tripFuel := p.tripFuel, tripResidue := p.tripResidue, tripCycles := p.tripCycles }
      := hp
    rw [hall]
    exact h

theorem heldLowKept : EpcKept [.settings, .epc] heldLowOk where
  reads s t hst h := by
    have hsettings : t.settings = s.settings := hst .settings (by simp)
    have hepc : t.epc = s.epc := hst .epc (by simp)
    unfold heldLowOk
    rw [hsettings, hepc]
    exact h
  narrow b hb := by
    obtain rfl | rfl : b = .settings ∨ b = .epc := by simpa using hb
    · simp
    · simp
  event u f _ _ := by
    unfold heldLowOk
    rw [State.epcEvent_epc, State.epcEvent_settings]
    exact fun hhold => (f u.epc).reform_low u.settings.epc hhold
  trip u p hp h := by
    have hall : p = { u.epc with tripFuel := p.tripFuel, tripResidue := p.tripResidue, tripCycles := p.tripCycles }
      := hp
    rw [hall]
    exact h

theorem Epc.allowanceOf_start (c : EpcCfg) : (Epc.start c).allowanceOf c = 0 := by
  have hnone : ∀ e, (Epc.start c).contribution c e = 0 := fun e => by cases e <;> rfl
  unfold Epc.allowanceOf
  rw [hnone, hnone]
  simp [Epc.start]

theorem State.blocksStarted_allowanceOk (u : State) (m : List Nat) : allowanceOk (u.blocksStarted m) :=
  ⟨(Epc.allowanceOf_start _).symm, fun e => by cases e <;> rfl⟩

/-- Settles O9: every event re-forms the commands and the allowance, and re-forming them again changes neither. -/
theorem allowanceFollowsTheEngines : Obligations.AllowanceFollowsTheEngines :=
  fun s t hs h => step_keeps allowanceKept.reads (by simp)
    (fun _ _ _ hq hexec => allowanceKept.exec_any (by simp) State.blocksStarted_allowanceOk hq hexec) s t hs h

end Sys2Proof.Machine
end

/-! ## The limits of an ALLOTMENT at every step (O7) -/

section
namespace Sys2Proof.Machine

open Sys2Proof

/-! ### Ceilings (R90, R99, R101, R105) -/

theorem ceilingsOk.meet {a : Ceilings} (h : ceilingsOk a) (b : Ceilings) : ceilingsOk (a.meet b) := by
  obtain ⟨hleft, hright, hraise, hlower⟩ := h
  exact ⟨(Nat.min_le_left _ _).trans hleft, (Nat.min_le_left _ _).trans hright, (Nat.min_le_left _ _).trans hraise,
    (Nat.min_le_left _ _).trans hlower⟩

theorem openCeilings_ok : ceilingsOk openCeilings := ⟨le_rfl, le_rfl, le_rfl, le_rfl⟩

theorem combinedCeilings_ok (c : LevCfg) (r : PoseRecord) (zones : List FrameZone) :
    ceilingsOk (combinedCeilings c r zones) :=
  foldl_keeps ceilingsOk _ (fun _ _ h => h.meet _) zones _ openCeilings_ok

theorem heldCeilings_ok (c : LevCfg) {x : Ceilings} (h : ceilingsOk x) : ceilingsOk (heldCeilings c x) := by
  obtain ⟨_, _, _, hlower⟩ := h
  exact ⟨by simp [heldCeilings], by simp [heldCeilings], by simp [heldCeilings], (Nat.min_le_left _ _).trans hlower⟩

section
variable {s : State}

theorem limitsOk.allowance_le (h : limitsOk s) : s.allotmentAllowance ≤ 4000 := by
  obtain ⟨_, hallow, _⟩ := h
  unfold State.allotmentAllowance
  split
  · exact (Nat.min_le_left _ _).trans hallow
  · exact hallow

theorem limitsOk.allotmentOf (h : limitsOk s) {x : Ceilings} (hx : ceilingsOk x) (m : FrameNo) (valid : Bool)
    (n : Nat) :
    allotmentOk s.settings.lev (s.allotmentOf m valid x n) := by
  cases hheld : s.fhu.held.isSome with
  | true =>
    refine ⟨?_, ?_, h.allowance_le, fun _ => ⟨?_, ?_, ?_, ?_, ?_⟩⟩
    · simpa [State.allotmentOf, hheld] using heldCeilings_ok s.settings.lev hx
    all_goals simp [State.allotmentOf, hheld, heldCeilings]
  | false =>
    refine ⟨?_, ?_, h.allowance_le, fun hh => ?_⟩
    · simpa [State.allotmentOf, hheld] using hx
    · cases valid <;> simp [State.allotmentOf, hheld]
    · exact absurd hh (by simp [State.allotmentOf, hheld])

theorem limitsOk.holdAllotment (h : limitsOk s) : allotmentOk s.settings.lev s.holdAllotment := by
  have hallow := h.allowance_le
  obtain ⟨hfallback, _, _, _, hlatest⟩ := h
  unfold State.holdAllotment
  split
  next a ha =>
    obtain ⟨hceil, _⟩ := hlatest a ha
    exact ⟨heldCeilings_ok _ hceil, Nat.zero_le _, hallow, fun _ => ⟨rfl, rfl, rfl, Nat.min_le_right _ _, rfl⟩⟩
  next =>
    exact ⟨⟨Nat.zero_le _, Nat.zero_le _, Nat.zero_le _, (Nat.min_le_left _ _).trans hfallback⟩, Nat.zero_le _, hallow,
      fun _ => ⟨rfl, rfl, rfl, Nat.min_le_right _ _, rfl⟩⟩

/-! ### The operations of the LEV -/

/-- `limitsOk` for a LEV that keeps the last ceilings and the latest ALLOTMENT, with another join. -/
theorem limitsOk.joined (h : limitsOk s) {j : Option LevJoin}
    (hj : ∀ x, j = some x → ∀ c, x.ceilings = some c → ceilingsOk c) :
    limitsOk { s with lev := { s.lev with join := j } } := by
  obtain ⟨hfallback, hallow, hlast, _, hlatest⟩ := h
  exact ⟨hfallback, hallow, hlast, hj, hlatest⟩

theorem limitsOk.handOn (h : limitsOk s) {a : Allotment} (ha : allotmentOk s.settings.lev a) : limitsOk
    (s.handOn a) := by
  obtain ⟨hfallback, hallow, hlast, hjoin, _⟩ := h
  refine ⟨hfallback, hallow, hlast, hjoin, fun b hb => ?_⟩
  obtain rfl := Option.some.inj hb
  exact ha

theorem limitsOk.buildAllotment (h : limitsOk s) {j : LevJoin} {c : Ceilings} (hj : j.ceilings = some c)
    (hc : ceilingsOk c) (n : Nat) : limitsOk (s.buildAllotment j c n) := by
  refine (h.joined fun x hx d hd => ?_).handOn (h.allotmentOf hc _ _ _)
  obtain rfl := Option.some.inj hx
  obtain rfl := Option.some.inj (hj.symm.trans hd)
  exact hc

/-- The ceilings formed are kept as the last ones and in the join. -/
theorem limitsOk.formed (h : limitsOk s) {l : Lev} {c : Ceilings} (hc : ceilingsOk c) (hlast : ceilingsOk l.lastCeil)
    (hlatest : l.latest = s.lev.latest) : limitsOk { s with lev := l.formed c } := by
  obtain ⟨hfallback, hallow, _, _, hall⟩ := h
  refine ⟨hfallback, hallow, hlast, fun x hx d hd => ?_, fun a ha => hall a (hlatest ▸ ha)⟩
  obtain ⟨j, _, rfl⟩ : ∃ j, l.join = some j ∧ { j with ceilings := some c } = x := Option.map_eq_some_iff.1 hx
  obtain rfl := Option.some.inj hd
  exact hc

theorem limitsOk.reads : reads [.settings, .epc, .lev] limitsOk := fun s t hst h => by
  have hsettings : t.settings = s.settings := hst .settings (by simp)
  have hepc : t.epc = s.epc := hst .epc (by simp)
  have hlev : t.lev = s.lev := hst .lev (by simp)
  unfold limitsOk
  rw [hsettings, hepc, hlev]
  exact h

theorem limitsOk.validCeilings (h : limitsOk s) (r : PoseRecord) (zones : List FrameZone) :
    limitsOk (s.validCeilings r zones) := by
  have hc := combinedCeilings_ok s.settings.lev r zones
  have hreports : changesOnly [.inFlight] s (s.reportZones s.settings.lev r zones s.lev.zones) :=
    s.reportZones_changes _ r zones _
  unfold State.validCeilings
  exact limitsOk.reads.keeps (State.deliver_changes _ _)
    (by simp) ((limitsOk.reads.keeps hreports (by simp) h).formed hc hc rfl)

theorem limitsOk.invalidCeilings (h : limitsOk s) (r : PoseRecord) : limitsOk (s.invalidCeilings r) := by
  obtain ⟨_, _, hlast, _⟩ := id h
  have hc : ceilingsOk (fallbackCeilings s.settings.lev s.lev.lastCeil) := hlast.meet _
  unfold State.invalidCeilings
  dsimp only
  split
  · exact (limitsOk.reads.keeps (s.report_changes _ _ _) (by simp) h).formed hc hlast rfl
  · exact h.formed hc hlast rfl

theorem limitsOk.tryCeilings (h : limitsOk s) : limitsOk s.tryCeilings := by
  unfold State.tryCeilings
  split
  · split
    · split
      · exact h.validCeilings _ _
      · exact h.invalidCeilings _
    · exact h
  · exact h

theorem limitsOk.tryBuild (h : limitsOk s) : limitsOk s.tryBuild := by
  obtain ⟨_, _, _, hjoin, _⟩ := id h
  unfold State.tryBuild
  split
  next j hj =>
    split
    next c n hc _ _ => exact h.buildAllotment hc (hjoin j hj c hc) n
    · exact h
  · exact h

theorem LevJoin.add_ceilings (part : LevPart) (j : LevJoin) : (j.add part).ceilings = j.ceilings := by
  cases part <;> rfl

theorem limitsOk.levAdd (h : limitsOk s) {j : LevJoin} (hj : ∀ c, j.ceilings = some c → ceilingsOk c) (part : LevPart) :
    limitsOk (s.levAdd j part) := by
  refine limitsOk.tryBuild (limitsOk.tryCeilings (h.joined fun x hx c hc => ?_))
  obtain rfl := Option.some.inj hx
  rw [LevJoin.add_ceilings] at hc
  exact hj c hc

theorem limitsOk.levClose (h : limitsOk s) {j : LevJoin} (hj : ∀ c, j.ceilings = some c → ceilingsOk c) :
    limitsOk (s.levClose j) := by
  unfold State.levClose
  split
  next c hc _ => exact h.buildAllotment hc (hj c hc) 0
  · exact h

theorem limitsOk.levPart (h : limitsOk s) (m : FrameNo) (part : LevPart) : limitsOk (s.levPart m part) := by
  obtain ⟨_, _, _, hjoin, _⟩ := id h
  have hopened : ∀ c, (LevJoin.opened m).ceilings = some c → ceilingsOk c := fun _ hc => nomatch hc
  unfold State.levPart
  split
  · exact h.levAdd hopened part
  next j hj =>
    split
    · exact h.levAdd (hjoin j hj) part
    · split
      · exact (h.levClose (hjoin j hj)).levAdd hopened part
      · exact h

end

/-! ### The events of the EPC and the start -/

theorem Epc.allowanceOf_le (c : EpcCfg) (p : Epc) : p.allowanceOf c ≤ 4000 := by
  unfold Epc.allowanceOf
  dsimp only
  split
  · exact (Nat.min_le_left _ _).trans (Nat.min_le_left _ _)
  · exact Nat.min_le_left _ _

theorem limitsKept : EpcKept [.settings, .epc, .lev] limitsOk where
  reads := limitsOk.reads
  narrow _ hb := hb
  event u f _ h := by
    have hlev : (u.epcEvent f).lev = u.lev := by rw [State.epcEvent_frame]
    obtain ⟨hfallback, _, hrest⟩ := h
    unfold limitsOk
    rw [State.epcEvent_settings, State.epcEvent_epc, hlev]
    exact ⟨hfallback, Epc.allowanceOf_le _ _, hrest⟩
  trip u p hp h := by
    have hall : p = { u.epc with tripFuel := p.tripFuel, tripResidue := p.tripResidue, tripCycles := p.tripCycles }
      := hp
    rw [hall]
    exact h

/-- A configuration without a failing field has each of its fields in range (R194). -/
theorem fieldOk_of_valid {l : List Int} (h : firstFailingField l = none) {k : Nat} (hlow : 1 ≤ k) (hhigh : k ≤ 136) :
    fieldOk l k = true := by
  have hall := List.find?_eq_none.1 h k (List.mem_map.2 ⟨k - 1, List.mem_range.2 (by omega), by omega⟩)
  simpa using hall

theorem configImage_valid {a : NvArray} {l : List Int} (h : configImage a = some l) : firstFailingField l = none := by
  unfold configImage restoredConfig at h
  split at h
  next fields hok =>
    obtain rfl := Option.some.inj h
    split at hok
    · split at hok
      · split at hok
        · exact nomatch hok
        next hnone =>
          obtain rfl := Except.ok.inj hok
          exact hnone
      · exact nomatch hok
    · exact nomatch hok
  · exact nomatch h

/-- R89: the fallback ceiling of the configuration the part runs on is a percentage. -/
theorem runningFields_fallback (a : NvArray) : (Settings.ofFields (runningFields a)).lev.fallback ≤ 100 := by
  unfold runningFields
  cases h : configImage a with
  | none => decide
  | some l =>
    have hfield := fieldOk_of_valid (configImage_valid h) (k := 106) (by decide) (by decide)
    have hle : fieldAt l 106 ≤ 100 := by
      have hrange : within 0 100 (fieldAt l 106) = true := hfield
      exact ((within_iff _ _ _).1 hrange).2
    exact Int.toNat_le.2 hle

theorem State.blocksStarted_limitsOk (u : State) (m : List Nat) : limitsOk (u.blocksStarted m) :=
  ⟨runningFields_fallback _, Nat.zero_le _, openCeilings_ok,
    fun _ hj => absurd hj (by simp [State.blocksStarted, Lev.start]),
    fun _ ha => absurd ha (by simp [State.blocksStarted, Lev.start])⟩

/-- Settles O7: whatever builds an ALLOTMENT takes ceilings that are percentages, and caps the assist at the raise
ceiling. -/
theorem allotmentsKeepTheirLimits : Obligations.AllotmentsKeepTheirLimits := by
  refine fun s t hs h => step_keeps limitsOk.reads (by simp) (fun c s t hs h => ?_) s t hs h
  by_cases hc : isStart c
  · exact exec_start_keeps (M := fun _ => True) limitsOk.reads (by simp)
      (fun u m _ => limitsKept.started (u.blocksStarted_limitsOk m))
      (limitsOk.reads.supplyLost (by simp) (by simp) fun u => u.blocksStarted_limitsOk _) (fun _ => trivial) hs trivial
      hc h
  · cases hlev : isLev c with
    | false => exact limitsKept.exec hs h hc hlev
    | true =>
      cases c with
      | levPoseRecord | frameZoneSet | assistRequest =>
        exact onDelivery_keeps limitsOk.reads (by simp) hs (fun _ hu => hu.levPart _ _) h
      | levHoldEntry =>
        exact onDelivery_keeps limitsOk.reads (by simp) hs (fun _ hu => hu.handOn hu.holdAllotment) h
      | _ => exact nomatch hlev

end Sys2Proof.Machine
end

/-! ## The fault ring and the hold state at every step (O6) -/

section
namespace Sys2Proof.Machine

open Sys2Proof

theorem holdOk.reads : reads [.faults] holdOk := fun s t hst h => by
  have hfaults : { t.fhu with unstored := s.fhu.unstored } = s.fhu := hst .faults (by simp)
  have hring : t.fhu.ring = s.fhu.ring := (congrArg Fhu.ring hfaults :)
  have hactive : t.fhu.active = s.fhu.active := (congrArg Fhu.active hfaults :)
  have hheld : t.fhu.held = s.fhu.held := (congrArg Fhu.held hfaults :)
  have hescalation : t.fhu.escalation = s.fhu.escalation := (congrArg Fhu.escalation hfaults :)
  unfold holdOk
  rw [hring, hactive, hheld, hescalation]
  exact h

section
variable {s : State}

theorem holdOk.recordFault (h : holdOk s) (r : FaultReport) (second : Bool) : holdOk (s.recordFault r second) := by
  obtain ⟨_, hactive, hescalation, hclear⟩ := h
  exact ⟨List.length_take_le 16 _, hactive, hescalation, hclear⟩

theorem holdOk.requestStore (h : holdOk s) (r : RecordId) (head service : Bool) :
    holdOk (s.requestStore r head service) :=
  holdOk.reads.keeps (s.requestStore_changes r head service) (by cases r <;> decide) h

/-- A part in HOLD may carry any escalation count up to 255. -/
theorem holdOk.held (h : holdOk s) (cause : HoldCause) :
    holdOk { s with fhu := { s.fhu with held := some cause } } := by
  obtain ⟨hring, hactive, hescalation, _⟩ := h
  exact ⟨hring, hactive, hescalation, nofun⟩

theorem holdOk.enterHold (h : holdOk s) (r : FaultReport) : holdOk (s.enterHold r) :=
  holdOk.requestStore (s := ({ s.recordFault r false with
    fhu := { (s.recordFault r false).fhu with held := some { code := r.code, detail := r.detail } }
      } : State).deliverHold)
    ((h.recordFault r false).held _) .hold true false

theorem holdOk.escalated (h : holdOk s) (hheld : s.fhu.held ≠ none) (r : FaultReport) : holdOk (s.escalated r) := by
  obtain ⟨hring, hactive, hescalation, _⟩ := h.recordFault r true
  exact ⟨hring, hactive, Nat.min_le_left _ _, fun hnone => absurd hnone hheld⟩

theorem holdOk.escalate (h : holdOk s) (hheld : s.fhu.held ≠ none) (r : FaultReport) : holdOk (s.escalate r) := by
  rw [State.escalate_eq]
  split
  · exact (h.escalated hheld r).requestStore .hold true false
  · exact h.escalated hheld r

theorem holdOk.recoverable (h : holdOk s) (r : FaultReport) : holdOk (s.recoverable r) := by
  obtain ⟨hring, hactive, hescalation, hclear⟩ := h
  unfold State.recoverable
  dsimp only
  split
  · exact ⟨hring, hactive.filter _, hescalation, hclear⟩
  · split
    · exact ⟨hring, hactive, hescalation, hclear⟩
    next hnew =>
      have hadded : holdOk { s with fhu := { s.fhu with active := s.fhu.active ++ [activeKey r] } } :=
        ⟨hring, hactive.append (by simp) (by simpa using hnew), hescalation, hclear⟩
      exact hadded.recordFault r false

theorem holdOk.takeFault (h : holdOk s) (r : FaultReport) : holdOk (s.takeFault r) := by
  unfold State.takeFault
  split
  · exact h.recordFault r false
  · exact h.recoverable r
  · split
    · exact h.enterHold r
    next hheld => exact h.escalate (by simpa using hheld) r

theorem holdOk.settle (h : holdOk s) : holdOk s.settle := holdOk.reads.keeps s.settle_changes (by simp) h

theorem holdOk.leaveHold (h : holdOk s) : holdOk s.leaveHold := by
  obtain ⟨hring, hactive, _, _⟩ := h
  have hcleared : holdOk { s with fhu := { s.fhu with held := none, escalation := 0 } } :=
    ⟨hring, hactive, Nat.zero_le _, fun _ => rfl⟩
  exact holdOk.requestStore (s := (State.deliver .levHoldClear
    { s with fhu := { s.fhu with held := none, escalation := 0 } }).deliver .epcHoldClear) hcleared .hold true true

theorem holdOk.answerDetail (h : holdOk s) (r : ResultCode) (d : Nat) : holdOk (s.answerDetail r d) :=
  holdOk.reads.keeps (s.answerDetail_changes r d) (by simp) h

theorem holdOk.clearHold (h : holdOk s) : holdOk s.clearHold := by
  unfold State.clearHold
  split
  · split
    · exact h.leaveHold.answerDetail _ _
    · exact h.answerDetail _ _
  · split
    · exact (h.requestStore .hold true true).answerDetail _ _
    · exact h.answerDetail _ _

theorem holdOk.started (s : State) (meters : List Nat) : holdOk (s.started meters) := by
  have hblocks : holdOk (s.blocksStarted meters) := ⟨Nat.zero_le _, .nil, Nat.zero_le _, fun _ => rfl⟩
  have hannounced : holdOk (s.blocksStarted meters).handSummary.announceHold :=
    holdOk.reads.keeps (State.announceHold_changes _) (by simp) hblocks
  have hfailed := foldl_keeps holdOk State.restoreBad (fun u r hu => hu.takeFault _) (failedRecords s.nvc.array) _
    hannounced
  have hconfig : ∀ u : State, holdOk u → holdOk (u.configInvalid (configFault s.nvc.array)) := fun u hu => by
    unfold State.configInvalid
    split
    · exact hu.takeFault _
    · exact hu
  exact holdOk.reads.keeps (State.keyAtStart_changes _) (by simp) (hconfig _ hfailed).settle

end

/-- Settles O6: the FHU's own operations keep the ring, the list and the count; all others leave them. -/
theorem holdAndRingStayConsistent : Obligations.HoldAndRingStayConsistent := by
  refine fun s t hs h => step_keeps holdOk.reads (by simp) (fun c s t hs h => ?_) s t hs h
  by_cases hc : isStart c
  · exact exec_start_keeps (M := fun _ => True) holdOk.reads (by simp) (fun u m _ => holdOk.started u m)
      (holdOk.reads.supplyLost (by simp) (by simp) fun u => ⟨Nat.zero_le _, .nil, Nat.zero_le _, fun _ => rfl⟩)
      (fun _ => trivial) hs trivial hc h
  · cases c with
    | powerOn | supplyLoss | supervisorRestart => exact absurd (by simp [isStart]) hc
    | faultReport r => exact onDelivery_keeps holdOk.reads (by simp) hs (fun _ hu => (hu.takeFault r).settle) h
    | clearHold => exact onDelivery_keeps holdOk.reads (by simp) hs (fun _ hu => hu.clearHold.settle) h
    | _ => exact holdOk.reads.keeps_exec h hs (by simp [footprint])

end Sys2Proof.Machine
end

/-! ## Meters and items at every step (O10, O13) -/

section
namespace Sys2Proof.Machine

open Sys2Proof

/-- The items stand classified by their meters, and no meter is below its value in `low`. -/
def metersKeep (low : Nat → Nat) (s : State) : Prop := itemsOk s ∧ ∀ k, low k ≤ s.smu.meter k

theorem metersKeep.reads (low : Nat → Nat) : reads [.meters] (metersKeep low) := fun s t hst h => by
  have hall : { t.smu with snapDue := s.smu.snapDue, snapCount := s.smu.snapCount } = s.smu := hst .meters (by simp)
  have hmeters : t.smu.meters = s.smu.meters := (congrArg Smu.meters hall :)
  have hitems : t.smu.items = s.smu.items := (congrArg Smu.items hall :)
  have hsummary : t.smu.summary = s.smu.summary := (congrArg Smu.summary hall :)
  unfold metersKeep itemsOk itemOk Smu.meter
  rw [hmeters, hitems, hsummary]
  exact h

/-! ### Items (R139 to R142) -/

section
variable {m : Smu}

theorem itemOk_of_meters {n : Smu} (hmeters : n.meters = m.meters) {i : Item} (h : itemOk m i) : itemOk n i := by
  unfold itemOk Smu.meter
  rw [hmeters]
  exact h

/-- A number beyond the table reads as an item that is not in use, so every number reads as an item in order. -/
theorem itemOk_item (h : ∀ i ∈ m.items, itemOk m i) (n : Nat) : itemOk m (m.item n) := by
  unfold Smu.item
  rw [List.getD_eq_getElem?_getD]
  cases hn : m.items[n]? with
  | some i => exact h i (List.mem_of_getElem? hn)
  | none => exact ⟨nofun, rfl⟩

theorem itemOk_reclassified {i : Item} {v : Nat} (hv : m.meter i.defn.basis = v)
    (h : i.defn.inUse = true → i.mark ≤ v) : itemOk m (i.reclassified v) := by
  subst hv
  exact ⟨h, rfl⟩

theorem itemOk_reset (i : Item) : itemOk m (i.reset (m.meter i.defn.basis)) := ⟨fun _ => le_rfl, rfl⟩

theorem itemOk_redefined {i : Item} (h : itemOk m i) (d : ItemDef) : itemOk m (i.redefined d (m.meter d.basis)) := by
  refine ⟨fun huse => ?_, rfl⟩
  have huse' : d.inUse = true := huse
  show (if ((!i.defn.inUse && d.inUse) || i.defn.basis != d.basis) = true then m.meter d.basis else i.mark)
    ≤ m.meter d.basis
  split
  · exact le_rfl
  next hold =>
    have hsame : i.defn.inUse = true ∧ i.defn.basis = d.basis := by simpa [huse'] using hold
    exact hsame.2 ▸ h.1 hsame.1

end

theorem List.any_modify_of_eq {α : Type} {p : α → Bool} {f : α → α} (h : ∀ x, p (f x) = p x) (l : List α) (n : Nat) :
    (l.modify n f).any p = l.any p := by
  induction l generalizing n with
  | nil => simp
  | cons x l ih => cases n <;> simp [h, ih]

/-- The acknowledged flag enters no summary (R142). -/
theorem overdueWith_acknowledged (c : Consequence) (items : List Item) (n : Nat) :
    overdueWith c (items.modify n fun i => { i with acked := true }) = overdueWith c items :=
  List.any_modify_of_eq (f := fun i : Item => { i with acked := true }) (fun _ => rfl) items n

theorem summaryOf_acknowledged (items : List Item) (n : Nat) :
    summaryOf (items.modify n fun i => { i with acked := true }) = summaryOf items := by
  unfold summaryOf
  rw [overdueWith_acknowledged, overdueWith_acknowledged, overdueWith_acknowledged]

/-! ### The operations of the SMU -/

theorem State.itemsChanged_smu (items : List Item) (n : Nat) (s : State) :
    (s.itemsChanged items n).smu = { s.smu with items := items, summary := summaryOf items } := by
  rw [State.itemsChanged_frame]

section
variable {low : Nat → Nat} {s : State}

theorem metersKeep.itemsChanged (h : metersKeep low s) {items : List Item} (hlen : items.length = 32)
    (hitems : ∀ i ∈ items, itemOk s.smu i) (n : Nat) : metersKeep low (s.itemsChanged items n) := by
  obtain ⟨⟨hmeters, hvalues, -, -, -⟩, hlow⟩ := h
  unfold metersKeep itemsOk
  rw [State.itemsChanged_smu]
  exact ⟨⟨hmeters, hvalues, hlen, fun i hi => itemOk_of_meters rfl (hitems i hi), rfl⟩, hlow⟩

theorem metersKeep.replaceItem (h : metersKeep low s) {i : Item} (hi : itemOk s.smu i) (n : Nat) (moved : Bool) :
    metersKeep low (s.replaceItem n i moved) := by
  obtain ⟨⟨_, _, hlen, hitems, _⟩, _⟩ := id h
  refine h.itemsChanged (by simpa using hlen) (fun x hx => ?_) _
  obtain hold | rfl := List.mem_or_eq_of_mem_set hx
  · exact hitems x hold
  · exact hi

theorem metersKeep.item (h : metersKeep low s) (n : Nat) : itemOk s.smu (s.smu.item n) := by
  obtain ⟨⟨_, _, _, hitems, _⟩, _⟩ := h
  exact itemOk_item hitems n

theorem metersKeep.resetItem (h : metersKeep low s) (n : Nat) : metersKeep low (s.resetItem n) :=
  h.replaceItem (itemOk_reset _) n _

theorem metersKeep.defineItem (h : metersKeep low s) (n : Nat) (d : ItemDef) : metersKeep low (s.defineItem n d) :=
  h.replaceItem (itemOk_redefined (h.item n) d) n _

theorem Smu.meter_set {m : Smu} {k : Nat} (hk : k < m.meters.length) (v j : Nat) :
    ({ m with meters := m.meters.set k v } : Smu).meter j = if j = k then v else m.meter j := by
  unfold Smu.meter
  rw [List.getD_eq_getElem?_getD, List.getD_eq_getElem?_getD, List.getElem?_set]
  by_cases hj : k = j
  · subst hj
    simp [hk]
  · rw [if_neg hj, if_neg (Ne.symm hj)]

/-- R133, R140: a meter that goes up leaves each item on it with its mark at most the meter, and classified. -/
theorem metersKeep.setMeter (h : metersKeep low s) {k v : Nat} (hk : k < 8) (hup : s.smu.meter k ≤ v)
    (hv : v ≤ 4294967295) : metersKeep low (s.setMeter k v) := by
  obtain ⟨⟨hmeters, hvalues, hlen, hitems, _⟩, hlow⟩ := h
  have hset := Smu.meter_set (m := s.smu) (hmeters ▸ hk) v
  unfold metersKeep itemsOk State.setMeter
  dsimp only
  rw [State.itemsChanged_smu]
  refine ⟨⟨by simpa using hmeters, fun x hx => ?_, by simpa [reclassifyOn] using hlen, fun i hi => ?_, rfl⟩, fun j =>
    ?_⟩
  · obtain hold | rfl := List.mem_or_eq_of_mem_set hx
    · exact hvalues x hold
    · exact hv
  · refine itemOk_of_meters (m := { s.smu with meters := s.smu.meters.set k v }) rfl ?_
    obtain ⟨x, hx, rfl⟩ := List.mem_map.1 hi
    obtain ⟨hmark, hstate⟩ := hitems x hx
    split
    next hb =>
      have hvalue : Smu.meter { s.smu with meters := s.smu.meters.set k v } x.defn.basis = v := by
        rw [hset, if_pos hb]
      exact itemOk_reclassified hvalue fun huse => (hmark huse).trans (hb ▸ hup)
    next hb =>
      unfold itemOk
      rw [hset, if_neg hb]
      exact ⟨hmark, hstate⟩
  · show low j ≤ Smu.meter { s.smu with meters := s.smu.meters.set k v } j
    rw [hset]
    split
    next hj => exact (hlow j).trans (hj ▸ hup)
    · exact hlow j

theorem metersKeep.meter_le (h : metersKeep low s) (k : Nat) : s.smu.meter k ≤ 4294967295 := by
  obtain ⟨⟨_, hvalues, _⟩, _⟩ := h
  unfold Smu.meter
  rw [List.getD_eq_getElem?_getD]
  cases hk : s.smu.meters[k]? with
  | some v => exact hvalues v (List.mem_of_getElem? hk)
  | none => exact Nat.zero_le _

theorem metersKeep.advanceOne (h : metersKeep low s) {k : Nat} (hk : k < 8) : metersKeep low (s.advanceOne k) :=
  h.setMeter hk (Nat.le_min.2 ⟨h.meter_le k, Nat.le_succ _⟩) (Nat.min_le_left _ _)

theorem metersKeep.advance (h : metersKeep low s) {k : Nat} (hk : k < 8) (n : Nat) : metersKeep low (s.advance k n) :=
  repeatN_keeps (metersKeep low) _ (fun _ hu => hu.advanceOne hk) n _ h

theorem metersKeep.accrue (h : metersKeep low s) {k : Nat} (hk : k < 8) (per x : Nat) :
    metersKeep low (s.accrue k per x) := by
  refine metersKeep.advance ?_ hk _
  exact h

theorem metersKeep.hoursStep (h : metersKeep low s) {k : Nat} (hk : k < 8) (active : Bool) :
    metersKeep low (s.hoursStep k active) := by
  unfold State.hoursStep
  split
  · exact h.accrue hk 36 1
  · exact h

theorem metersKeep.stores (h : metersKeep low s) (r : RecordId) (head service : Bool) :
    metersKeep low (s.requestStore r head service) :=
  (metersKeep.reads low).keeps (s.requestStore_changes r head service) (by cases r <;> decide) h

theorem metersKeep.settle (h : metersKeep low s) : metersKeep low s.settle :=
  (metersKeep.reads low).keeps s.settle_changes (by simp) h

theorem metersKeep.oneSecond (h : metersKeep low s) : metersKeep low s.oneSecond := by
  have hhours : ∀ a b c, metersKeep low (((s.hoursStep 0 a).hoursStep 1 b).hoursStep 2 c) := fun a b c =>
    ((h.hoursStep (by decide) a).hoursStep (by decide) b).hoursStep (by decide) c
  have hall : ∀ a b c f1 f2 d, metersKeep low ((((((s.hoursStep 0 a).hoursStep 1 b).hoursStep 2 c).accrue 3 36000
      f1).accrue 4 36000 f2).hoursStep 7 d) := fun a b c f1 f2 d =>
    (((hhours a b c).accrue (by decide) 36000 f1).accrue (by decide) 36000 f2).hoursStep (by decide) d
  unfold State.oneSecond
  dsimp only
  refine metersKeep.settle ?_
  unfold State.requestSnapshot
  have hcounted : ∀ u : State, metersKeep low u → ∀ b, metersKeep low { u with smu := u.smu.countSnapshot b } :=
    fun u hu b => by
      unfold Smu.countSnapshot
      cases b <;> exact hu
  split
  · exact (hcounted _ (by exact hall _ _ _ _ _ _) _).stores .meters false false
  · exact hcounted _ (by exact hall _ _ _ _ _ _) _

theorem metersKeep.storeAnd (h : metersKeep low s) {f : State → State} {result : ResultCode}
    (hf : result = .accepted → ∀ u : State, u.smu.meters = s.smu.meters → metersKeep low u → metersKeep low (f u))
    (r : RecordId) (service : Bool) : metersKeep low (s.storeAnd result r service f) := by
  unfold State.storeAnd
  split
  next hok =>
    refine hf hok _ ?_ (h.stores r false service)
    have hall := (s.requestStore_changes r false service).stands .meters (by cases r <;> decide)
    exact (congrArg Smu.meters hall :)
  · exact h

theorem metersKeep.answerCab (h : metersKeep low s) (k : Nat) (r : ResultCode) : metersKeep low (s.answerCab k r) := h

theorem metersKeep.answerPlain (h : metersKeep low s) (r : ResultCode) : metersKeep low (s.answerPlain r) :=
  (metersKeep.reads low).keeps (s.answerPlain_changes r) (by simp) h

theorem metersKeep.cabDone (h : metersKeep low s) (place n : Nat) : metersKeep low (s.cabDone place n) :=
  ((h.storeAnd (fun _ _ _ hu => hu.resetItem n) .items false).answerCab place _).settle

theorem metersKeep.serviceDone (h : metersKeep low s) (n : Nat) : metersKeep low (s.serviceDone n) :=
  ((h.storeAnd (fun _ _ _ hu => hu.resetItem n) .items true).answerPlain _).settle

theorem presetResult_accepted {k v : Nat} {m : Smu} (h : presetResult k v m = .accepted) : k < 8 ∧ m.meter k ≤ v := by
  unfold presetResult at h
  split at h
  · exact nomatch h
  · split at h
    · exact nomatch h
    · omega

theorem checkedResult_accepted {first : ResultCode} {r : RecordId} {s : State}
    (h : checkedResult first r s = .accepted) : first = .accepted := by
  unfold checkedResult at h
  split at h
  next hfirst => exact hfirst
  next => exact h

theorem metersKeep.preset (h : metersKeep low s) (k v : Nat) : metersKeep low (s.preset k v) := by
  refine ((h.storeAnd (fun hok u hmeters hu => ?_) .meters true).answerPlain _).settle
  obtain ⟨hk, hup⟩ := presetResult_accepted (checkedResult_accepted hok)
  have hsame : u.smu.meter k = s.smu.meter k := by
    unfold Smu.meter
    rw [hmeters]
  exact hu.setMeter hk (Nat.le_min.2 ⟨hu.meter_le k, hsame ▸ hup⟩) (Nat.min_le_left _ _)

theorem metersKeep.acknowledge (h : metersKeep low s) (n : Nat) :
    metersKeep low { s with smu := s.smu.acknowledge n } := by
  unfold Smu.acknowledge
  split
  · obtain ⟨⟨hmeters, hvalues, hlen, hitems, hsummary⟩, hlow⟩ := h
    refine ⟨⟨hmeters, hvalues, by simpa using hlen, fun i hi => ?_, ?_⟩, hlow⟩
    · rw [List.mem_iff_getElem?] at hi
      obtain ⟨j, hj⟩ := hi
      rw [List.getElem?_modify] at hj
      obtain ⟨x, hx, rfl⟩ := Option.map_eq_some_iff.1 hj
      obtain ⟨hmark, hstate⟩ := hitems x (List.mem_of_getElem? hx)
      split <;> exact ⟨hmark, hstate⟩
    · exact hsummary.trans (summaryOf_acknowledged _ n).symm
  · exact h

theorem metersKeep.entryWritten (h : metersKeep low s) (t : Table) (i : Nat) (b : List Byte) :
    metersKeep low (s.entryWritten t i b) := by
  cases t with
  | items =>
    show metersKeep low (s.itemWritten i b)
    unfold State.itemWritten
    split
    · exact h.storeAnd (fun _ _ _ hu => hu.defineItem i _) .items true
    · exact h
  | zones => exact h
  | config =>
    unfold State.entryWritten
    dsimp only
    split <;> exact h
  | ident | meters | faults | targets | status => exact h

/-- Every command but a start keeps the items classified, and lets no meter go down. -/
theorem metersKeep.exec (hs : metersKeep low s) {c : Instr} {t : State} (hc : ¬isStart c)
    (h : Machine.exec c s = .next t) : metersKeep low t := by
  have hreads := metersKeep.reads low
  cases c with
  | powerOn | supplyLoss | supervisorRestart => exact absurd (by simp [isStart]) hc
  | smuOneSecondStep => exact onEvent_keeps hs (fun _ hu => hu.oneSecond) h
  | slewIncrement n => exact onDelivery_keeps hreads (by simp) hs (fun _ hu => hu.accrue (by decide) _ _) h
  | smuCycleEnd => exact onDelivery_keeps hreads (by simp) hs (fun _ hu => hu.advanceOne (by decide)) h
  | smuPumpStatus b =>
    exact onDelivery_keeps hreads (f := fun s => { s with smu := { s.smu with travel := b } }) (by simp) hs
      (fun _ hu => hu) h
  | smuPcuStaleness =>
    exact onDelivery_keeps hreads (f := fun s => { s with smu := { s.smu with travel := false } }) (by simp) hs
      (fun _ hu => hu) h
  | reminderAck k n => exact onDelivery_keeps hreads (by simp) hs (fun _ hu => (hu.acknowledge n).answerCab k _) h
  | cabItemDone k n => exact onDelivery_keeps hreads (by simp) hs (fun _ hu => hu.cabDone k n) h
  | itemDone n => exact onDelivery_keeps hreads (by simp) hs (fun _ hu => hu.serviceDone n) h
  | meterPreset k v => exact onDelivery_keeps hreads (by simp) hs (fun _ hu => hu.preset k v) h
  | writeEntries n data =>
    exact onDelivery_keeps hreads (by simp) hs (fun u hu =>
      (State.writeTable_keeps hreads (by simp) (by simp) (fun v i b hv => hv.entryWritten _ i b) n data u hu).settle) h
  | _ => exact hreads.keeps_exec h hs (by simp [footprint])

/-! ### The start (R150, R151) -/

theorem Smu.restored_items {meters : List Nat} {defs : List (ItemDef × Nat)} :
    ∀ i ∈ (Smu.restored meters defs).items, itemOk (Smu.restored meters defs) i := fun i hi => by
  obtain ⟨d, _, rfl⟩ := List.mem_map.1 hi
  refine ⟨fun huse => ?_, rfl⟩
  have huse' : d.1.inUse = true := huse
  show (if d.1.inUse = true then _ else _) ≤ _
  rw [if_pos huse']
  exact Nat.min_le_right _ _

theorem State.blocksStarted_metersKeep (u : State) {meters : List Nat} (h : metersFit meters)
    (hlow : ∀ k, low k ≤ meters.getD k 0) : metersKeep low (u.blocksStarted meters) :=
  ⟨⟨h.1, h.2, by simpa [State.blocksStarted, Smu.restored] using restoredItems_getD_length u.nvc.array,
    Smu.restored_items, rfl⟩, hlow⟩

theorem State.started_metersKeep (u : State) {meters : List Nat} (h : metersFit meters)
    (hlow : ∀ k, low k ≤ meters.getD k 0) : metersKeep low (u.started meters) :=
  (metersKeep.reads low).started (by decide) (u.blocksStarted_metersKeep h hlow)

end

theorem itemsOk.keep {s : State} (h : itemsOk s) : metersKeep (fun _ => 0) s := ⟨h, fun _ => Nat.zero_le _⟩

/-- Settles O10: the operations of the SMU keep the items classified, and a start classifies those it restores. -/
theorem itemsStayClassified : Obligations.ItemsStayClassified := by
  have hreads := metersKeep.reads fun _ => 0
  refine fun s t hs h => (step_keeps hreads (by simp) (fun c s t hs h => ?_) s t hs.keep h).1
  by_cases hc : isStart c
  · obtain ⟨⟨hlen, hvalues, _⟩, _⟩ := id hs
    exact exec_start_keeps (M := metersFit) hreads (by simp)
      (fun u m hm => u.started_metersKeep hm fun _ => Nat.zero_le _)
      (hreads.supplyLost (by simp) (by simp) fun u =>
        u.blocksStarted_metersKeep metersFit_zeros fun _ => Nat.zero_le _)
      restoredMeters_fit hs ⟨hlen, hvalues⟩ hc h
  · exact hs.exec hc h

/-- Settles O13: a meter is only ever set to a value no less than its own, and a restart starts with the meters as they
stand. -/
theorem metersNeverDecrease : Obligations.MetersNeverDecrease := by
  intro c s t k hs hpower hloss h
  have hkeep : metersKeep s.smu.meter s := ⟨hs, fun _ => le_rfl⟩
  suffices hall : metersKeep s.smu.meter t from hall.2 k
  by_cases hc : isStart c
  · obtain rfl : c = .supervisorRestart := by simpa [isStart, hpower, hloss] using hc
    refine onDelivery_keeps (metersKeep.reads _) (by simp) hkeep (f := fun s : State => if s.restartDue then
      s.started s.smu.meters else s) (fun u hu => ?_) h
    split
    · obtain ⟨⟨hlen, hvalues, _⟩, hlow⟩ := hu
      exact u.started_metersKeep ⟨hlen, hvalues⟩ hlow
    · exact hu
  · exact hkeep.exec hc h

end Sys2Proof.Machine
end

/-! ## The state right after reset (O12) -/

section
namespace Sys2Proof.Machine

open Sys2Proof

/-- The write of the built-in HOLD record goes to copy A of an array with nothing written (R165). -/
theorem State.reset_storesOk : storesOk State.reset := by
  refine ⟨⟨by decide, by decide⟩, fun w hw => ?_⟩
  obtain rfl := Option.some.inj hw
  exact ⟨rfl, nofun, rfl, rfl⟩

theorem State.reset_noticesOk : noticesOk State.reset := ⟨⟨rfl, by decide⟩, ⟨rfl, by decide⟩, Nat.zero_le _⟩

theorem State.reset_limitsOk : limitsOk State.reset :=
  ⟨by decide, Nat.zero_le _, openCeilings_ok, fun _ hj => absurd hj (by simp [State.reset, Lev.start]),
    fun _ ha => absurd ha (by simp [State.reset, Lev.start])⟩

theorem State.reset_allowanceOk : allowanceOk State.reset :=
  ⟨(Epc.allowanceOf_start _).symm, fun e => by cases e <;> rfl⟩

theorem State.reset_itemsOk : itemsOk State.reset :=
  ⟨rfl, by decide, rfl, fun i hi => by
    obtain rfl := List.eq_of_mem_replicate hi
    exact ⟨nofun, rfl⟩, by decide⟩

theorem State.reset_suspensionsOk : suspensionsOk State.reset :=
  ⟨rfl, fun i e n he hn => by
    obtain ⟨d, _, rfl⟩ := List.mem_map.1 (List.mem_of_getElem? he)
    exact nomatch hn⟩

theorem State.reset_powerOk : powerOk State.reset :=
  ⟨⟨nofun, fun h => absurd rfl h.1⟩, by decide, fun _ => rfl⟩

/-- Settles O12: one lemma for each promise. -/
theorem resetMeetsEveryPromise : Obligations.ResetMeetsEveryPromise :=
  ⟨State.reset_storesOk, State.reset_noticesOk, ⟨Nat.zero_le _, nofun, rfl⟩,
    ⟨by decide, .nil, by decide, by decide⟩, State.reset_limitsOk, Epc.planOk_start _, State.reset_allowanceOk,
    State.reset_itemsOk, State.reset_suspensionsOk, nofun, State.reset_powerOk⟩

end Sys2Proof.Machine
end

/-! ## The ceilings and the ALLOTMENT of a frame (O36, O37, O38, O39) -/

section
namespace Sys2Proof.Machine

open Sys2Proof

/-! ### The ALLOTMENT (R104 to R107) -/

theorem State.allotmentOf_built (s : State) (m : FrameNo) {valid : Bool} (c : Ceilings) {n : Nat}
    (hn : valid = true → n ≤ 100) : allotmentBuilt s m valid c n (s.allotmentOf m valid c n) := by
  refine ⟨rfl, rfl, rfl, fun h => ?_, fun h => ?_⟩
  · refine ⟨by simp [State.allotmentOf, h], ?_, by simp [State.allotmentOf, State.allotmentAllowance, h]⟩
    cases valid with
    | false => simp [State.allotmentOf]
    | true => simp [State.allotmentOf, h, Nat.min_eq_left (hn rfl)]
  · exact ⟨by simp [State.allotmentOf, heldCeilings, h], by simp [State.allotmentOf, h],
      by simp [State.allotmentOf, State.allotmentAllowance, h]⟩

/-- The join of the frame of a pose record with the record, the frame zone set and the ceilings formed. -/
abbrev formedParts (m : FrameNo) (r : PoseRecord) (z : List FrameZone) (n : Option Nat) (c : Ceilings) (built : Bool) :
    LevJoin :=
  { frame := m, pose := some r, zones := some z, assist := n, ceilings := some c, built := built }

section
variable {s : State} {m : FrameNo} {r : PoseRecord} {z : List FrameZone} {c : Ceilings}

/-- Without the assist request the ALLOTMENT waits. -/
theorem State.tryBuild_waits (h : s.lev.join = some (formedParts m r z none c false)) : s.tryBuild = s := by
  simp [State.tryBuild, h]

/-- A join with its ceilings formed and the assist request there builds its ALLOTMENT. -/
theorem State.tryBuild_builds {k : Nat} (h : s.lev.join = some (formedParts m r z (some k) c false)) :
    s.tryBuild = State.handOn (s.allotmentOf m r.pose.valid c k)
      { s with lev := { s.lev with join := some (formedParts m r z (some k) c true) } } := by
  simp only [State.tryBuild, h]
  rfl

end

/-- Settles O36: the assist request finds the ceilings of its join formed. -/
theorem assistRequestBuildsTheAllotment : Obligations.AssistRequestBuildsTheAllotment := by
  intro m r z c n s on hn hjoin
  have hnext : exec (.assistRequest m n) s = .next (State.handOn (s.allotmentOf m r.pose.valid c n)
      { s.taken (.assistRequest m n) with
        lev := { s.lev with join := some (formedParts m r z (some n) c true) } }) := by
    rw [(LevBrings.assist n).runs on, State.levPart_same (s := s.taken _) _ hjoin rfl]
    rfl
  exact ⟨_, _, hnext, rfl, rfl, s.allotmentOf_built m c fun _ => hn⟩

/-! ### A join that has both its parts (R91) -/

/-- The join of the frame of a pose record with the record and the frame zone set. -/
abbrev bothParts (r : PoseRecord) (z : List FrameZone) (n : Option Nat) : LevJoin :=
  { frame := r.pose.frame, pose := some r, zones := some z, assist := n, ceilings := none, built := false }

/-- The state of the LEV with that join. -/
abbrev State.joined (r : PoseRecord) (z : List FrameZone) (n : Option Nat) (s : State) : State :=
  { s with lev := { s.lev with join := some (bothParts r z n) } }

/-- Whichever of the two comes last, the ceilings are formed from both. -/
theorem exec_bothParts {r : PoseRecord} {z : List FrameZone} {n : Option Nat} {x : Instr} {s : State}
    (on : s.supply = true)
    (h : (x = .levPoseRecord r ∧ s.lev.join = some
        { frame := r.pose.frame, pose := none, zones := some z, assist := n, ceilings := none, built := false })
      ∨ (x = .frameZoneSet r.pose.frame z ∧ s.lev.join = some
        { frame := r.pose.frame, pose := some r, zones := none, assist := n, ceilings := none, built := false })) :
    exec x s = .next
      (if r.pose.valid then ((s.taken x).joined r z n).validCeilings r z
        else ((s.taken x).joined r z n).invalidCeilings r).tryBuild := by
  obtain ⟨rfl, hjoin⟩ | ⟨rfl, hjoin⟩ := h
  · rw [(LevBrings.pose r rfl).runs on, State.levPart_same (s := s.taken _) _ hjoin rfl]
    rfl
  · rw [(LevBrings.zones z).runs on, State.levPart_same (s := s.taken _) _ hjoin rfl]
    rfl

/-! ### An invalid pose (R101, R102) -/

theorem State.invalidCeilings_eq (r : PoseRecord) (s : State) :
    s.invalidCeilings r = { s with
      inFlight := s.inFlight ++ (if s.lev.prevEval = .valid ∧ 8 < s.lev.lastRate.natAbs then
        [.faultReport { code := .poseLostMoving, clearing := false, detail := s.lev.lastRate
                        frame := some r.pose.frame }]
        else [])
      lev := Lev.formed (fallbackCeilings s.settings.lev s.lev.lastCeil) { s.lev with prevEval := .invalid } } := by
  unfold State.invalidCeilings
  by_cases h : s.lev.prevEval = .valid ∧ 8 < s.lev.lastRate.natAbs
  · have hlost : s.lev.lostMoving = true := by simpa [Lev.lostMoving] using h
    rw [if_pos h, if_pos hlost]
    rfl
  · have hlost : ¬s.lev.lostMoving = true := by simpa [Lev.lostMoving] using h
    rw [if_neg h, if_neg hlost, List.append_nil]

/-- Settles O38: the fallback is formed, and with the assist request there the ALLOTMENT built on it. -/
theorem invalidPoseFallsBack : Obligations.InvalidPoseFallsBack := by
  intro r z n x s on hvalid hx
  have hinvalid : ¬r.pose.valid = true := by simp [hvalid]
  refine ⟨s.allotmentOf r.pose.frame false (fallbackCeilings s.settings.lev s.lev.lastCeil) (n.getD 0),
    fallbackCeilings s.settings.lev s.lev.lastCeil, (exec_bothParts on hx).trans (congrArg _ ?_), rfl, fun k hk => ?_⟩
  · rw [if_neg hinvalid, State.invalidCeilings_eq]
    cases n with
    | none =>
      rw [State.tryBuild_waits rfl]
      rfl
    | some k =>
      rw [State.tryBuild_builds rfl, hvalid]
      rfl
  · subst hk
    exact s.allotmentOf_built _ _ nofun

/-! ### The hold ALLOTMENT (R106) -/

/-- Settles O39: the hold ALLOTMENT is the latest one, or the fallback, with the hold values. -/
theorem holdEntryBuildsTheHoldAllotment : Obligations.HoldEntryBuildsTheHoldAllotment := by
  refine ⟨fun s on => ⟨_, s.holdAllotment, next_of_on on rfl, rfl, ?_⟩, fun s on => next_of_on on rfl⟩
  have hallow : s.fhu.held.isSome = true → s.allotmentAllowance = min s.epc.allowance s.settings.epc.holdKw :=
    fun h => by rw [State.allotmentAllowance, if_pos h]
  unfold State.holdAllotment
  cases hlatest : s.lev.latest with
  | none => exact ⟨rfl, rfl, rfl, rfl, rfl, hallow, nofun, fun _ => ⟨rfl, rfl, rfl⟩⟩
  | some b =>
    refine ⟨rfl, rfl, rfl, rfl, rfl, hallow, fun a ha => ?_, nofun⟩
    obtain rfl := Option.some.inj ha
    exact ⟨rfl, rfl, rfl⟩

/-! ### A valid pose: the ceilings (R98, R99) -/

section
variable {c : LevCfg} {r : PoseRecord}

/-- A fold of the smaller values is below each of them, and is the start or one of them. -/
theorem foldl_min_spec {α : Type} (f : α → Nat) (l : List α) (a : Nat) :
    (∀ x ∈ l, l.foldl (fun b x => min b (f x)) a ≤ f x) ∧ l.foldl (fun b x => min b (f x)) a ≤ a
      ∧ (l.foldl (fun b x => min b (f x)) a = a ∨ ∃ x ∈ l, l.foldl (fun b x => min b (f x)) a = f x) := by
  induction l generalizing a with
  | nil => exact ⟨nofun, le_rfl, .inl rfl⟩
  | cons y l ih =>
    obtain ⟨hall, hstart, hone⟩ := ih (min a (f y))
    simp only [List.foldl_cons]
    refine ⟨fun x hx => ?_, hstart.trans (Nat.min_le_left _ _), ?_⟩
    · obtain rfl | hx := List.mem_cons.1 hx
      · exact hstart.trans (Nat.min_le_right _ _)
      · exact hall x hx
    · obtain heq | ⟨x, hx, heq⟩ := hone
      · obtain hmin | hmin := Nat.le_total a (f y) |>.imp Nat.min_eq_left Nat.min_eq_right
        · exact .inl (heq.trans hmin)
        · exact .inr ⟨y, List.mem_cons_self, heq.trans hmin⟩
      · exact .inr ⟨x, List.mem_cons_of_mem _ hx, heq⟩

/-- A motion of the combined ceilings is the smallest of that motion over the zones. -/
theorem combinedCeilings_motion (g : Ceilings → Nat) (hmeet : ∀ a b, g (a.meet b) = min (g a) (g b))
    (zones : List FrameZone) :
    g (combinedCeilings c r zones) = zones.foldl (fun b z => min b (g (zoneEval c r z).ceilings)) (g openCeilings) := by
  have hfold : ∀ (l : List FrameZone) (a : Ceilings),
      g (l.foldl (fun a z => a.meet (zoneEval c r z).ceilings) a)
        = l.foldl (fun b z => min b (g (zoneEval c r z).ceilings)) (g a) := by
    intro l
    induction l with
    | nil => exact fun _ => rfl
    | cons z l ih => exact fun a => by simp only [List.foldl_cons, ih, hmeet]
  exact hfold zones openCeilings

theorem combinedCeilings_spec (g : Ceilings → Nat) (hmeet : ∀ a b, g (a.meet b) = min (g a) (g b))
    (hopen : g openCeilings = 100) (zones : List FrameZone) :
    (∀ z ∈ zones, g (combinedCeilings c r zones) ≤ g (zoneEval c r z).ceilings)
      ∧ (g (combinedCeilings c r zones) = 100
        ∨ ∃ z ∈ zones, g (combinedCeilings c r zones) = g (zoneEval c r z).ceilings) := by
  rw [combinedCeilings_motion g hmeet, hopen]
  obtain ⟨hall, _, hone⟩ := foldl_min_spec (fun z => g (zoneEval c r z).ceilings) zones 100
  exact ⟨hall, hone⟩

theorem zoneEnforced_iff (z : FrameZone) :
    zoneEnforced z = true ↔ z.zone.mode = .enforce ∧ z.suspended = false := by
  simp [zoneEnforced]

theorem zoneEval_enforced {z : FrameZone} (h : z.zone.mode = .enforce) (hs : z.suspended = false) :
    zoneEval c r z = evalZone c z.zone r := by
  have henforced := (zoneEnforced_iff z).2 ⟨h, hs⟩
  simp [zoneEval, h, henforced]

/-- Outside ENFORCE, or suspended, a zone limits nothing and is not deep. -/
theorem zoneEval_open {z : FrameZone} (h : z.zone.mode ≠ .enforce ∨ z.suspended = true) :
    (zoneEval c r z).ceilings = openCeilings ∧ (zoneEval c r z).deep = false ∧ zoneBreach c r z = false := by
  have hnot : zoneEnforced z = false := by
    cases he : zoneEnforced z with
    | false => rfl
    | true =>
      obtain ⟨hmode, hsusp⟩ := (zoneEnforced_iff z).1 he
      obtain hm | hs := h
      · exact absurd hmode hm
      · exact absurd hs (by simp [hsusp])
  refine ⟨?_, ?_, by simp [zoneBreach, hnot]⟩
  all_goals
    unfold zoneEval
    split
    · rfl
    · simp [hnot]

theorem zoneEval_state (z : FrameZone) :
    (zoneEval c r z).state = if z.zone.mode = .off then .clear else (evalZone c z.zone r).state := by
  unfold zoneEval
  split
  · rfl
  · dsimp only
    split <;> rfl

theorem zoneBreach_enforced {z : FrameZone} (h : z.zone.mode = .enforce) (hs : z.suspended = false) :
    zoneBreach c r z = true ↔ (evalZone c z.zone r).state = .breached := by
  have henforced := (zoneEnforced_iff z).2 ⟨h, hs⟩
  simp [zoneBreach, henforced, zoneEval_enforced h hs]

/-! ### A valid pose: the zones (R98, R100, R103) -/

theorem evaluatedZones_eq {zones : List FrameZone} {ls : List LevZone} (h : zones.length = ls.length) :
    evaluatedZones c r zones ls = (List.zip zones ls).map fun y => y.2.evaluated c r y.1 := by
  induction ls generalizing zones with
  | nil => simp [evaluatedZones]
  | cons l ls ih =>
    cases zones with
    | nil => exact nomatch h
    | cons z zones =>
      have hrest := ih (zones := zones) (by simpa using h)
      unfold evaluatedZones at hrest ⊢
      simp [List.mapIdx_cons, hrest]

/-- The reports of an entry at a valid frame, from the view before and after it (R100, R103). -/
def zoneReports (m : FrameNo) (y : ((FrameZone × LevZone) × LevZone) × Nat) : List Instr :=
  (if y.1.2.breachRecorded = true ∧ (y.1.1.2.breachRecorded = false ∨ y.1.1.2.copy ≠ some y.1.1.1.zone) then
    [.faultReport { code := .zoneBreach, clearing := false, detail := y.2, frame := some m }] else [])
    ++ (if y.1.2.deep = true ∧ y.1.1.2.deep = false then
      [.faultReport { code := .breachDeep, clearing := false, detail := y.2, frame := some m }] else [])

theorem State.deliver_twice (p q : Prop) [Decidable p] [Decidable q] (a b : Instr) (s : State) :
    (if q then (if p then s.deliver a else s).deliver b else if p then s.deliver a else s)
      = { s with inFlight := s.inFlight ++ ((if p then [a] else []) ++ if q then [b] else []) } := by
  by_cases hp : p <;> by_cases hq : q <;> simp [hp, hq, State.deliver]

/-- Operations that each append deliveries append them in turn. -/
theorem foldl_delivers {α : Type} {f : State → α → State} {g : α → List Instr}
    (h : ∀ (s : State) x, f s x = { s with inFlight := s.inFlight ++ g x }) (l : List α) (s : State) :
    l.foldl f s = { s with inFlight := s.inFlight ++ l.flatMap g } := by
  induction l generalizing s with
  | nil => simp
  | cons x l ih => simp [ih, h]

theorem zip_map_self {α β : Type} (f : α → β) (l : List α) : List.zip l (l.map f) = l.map fun x => (x, f x) := by
  induction l with
  | nil => rfl
  | cons x l ih => simp [ih]

theorem State.reportZone_eq (i : Nat) (z : FrameZone) (l : LevZone) (s : State) :
    s.reportZone c r i z l
      = { s with inFlight := s.inFlight ++ zoneReports r.pose.frame (((z, l), l.evaluated c r z), i) } := by
  have hbreach : (zoneBreach c r z && !l.flagBefore z) = true
      ↔ zoneBreach c r z = true ∧ (l.breachRecorded = false ∨ l.copy ≠ some z.zone) := by
    simp only [LevZone.flagBefore, Bool.and_eq_true, Bool.not_eq_true', Bool.and_eq_false_iff, beq_eq_false_iff_ne]
  have hdeep : ((zoneEval c r z).deep && !l.deep) = true ↔ (zoneEval c r z).deep = true ∧ l.deep = false := by simp
  unfold State.reportZone zoneReports
  dsimp only [LevZone.evaluated]
  simp only [hbreach, hdeep]
  exact State.deliver_twice _ _ _ _ s

theorem State.reportZones_eq {zones : List FrameZone} {ls : List LevZone} (h : zones.length = ls.length) (s : State) :
    s.reportZones c r zones ls = { s with inFlight := s.inFlight
      ++ (List.zip (List.zip zones ls) (evaluatedZones c r zones ls)).zipIdx.flatMap (zoneReports r.pose.frame) } := by
  rw [evaluatedZones_eq h, zip_map_self, List.zipIdx_map, List.flatMap_map]
  exact foldl_delivers (fun s y => State.reportZone_eq y.2 y.1.1 y.1.2 s) _ s

theorem State.validCeilings_eq {zones : List FrameZone} {s : State} (h : zones.length = s.lev.zones.length) :
    s.validCeilings r zones =
      let out := combinedCeilings s.settings.lev r zones
      let ls := evaluatedZones s.settings.lev r zones s.lev.zones
      { s with
        inFlight := s.inFlight
          ++ (List.zip (List.zip zones s.lev.zones) ls).zipIdx.flatMap (zoneReports r.pose.frame)
          ++ [.stateReport r.pose.frame (ls.map LevZone.state)]
        lev := Lev.formed out
          { s.lev with lastCeil := out, lastRate := r.rate, prevEval := .valid, zones := ls } } := by
  unfold State.validCeilings
  dsimp only
  rw [State.reportZones_eq h]
  rfl

end

/-- A zone evaluated: what its view, before and after, and its definition have to do with each other. -/
theorem evaluated_spec {c : LevCfg} {r : PoseRecord} {zones : List FrameZone} {ls : List LevZone}
    (h : zones.length = ls.length) {i : Nat} {z : FrameZone} {l : LevZone} (hz : zones[i]? = some z)
    (hl : (evaluatedZones c r zones ls)[i]? = some l) :
    ∃ l0, ls[i]? = some l0 ∧ l = l0.evaluated c r z := by
  rw [evaluatedZones_eq h, List.getElem?_map] at hl
  obtain ⟨⟨z', l0⟩, hzip, rfl⟩ := Option.map_eq_some_iff.1 hl
  obtain ⟨hz', hl0⟩ := List.getElem?_zip_eq_some.1 hzip
  obtain rfl := Option.some.inj (hz.symm.trans hz')
  exact ⟨l0, hl0, rfl⟩

/-- The state a valid pose leaves, with the assist request there or not. -/
def State.validFormed (r : PoseRecord) (zones : List FrameZone) (n : Option Nat) (x : Instr) (s : State) : State :=
  let c := combinedCeilings s.settings.lev r zones
  let ls := evaluatedZones s.settings.lev r zones s.lev.zones
  let a := s.allotmentOf r.pose.frame true c (n.getD 0)
  { s with
    inFlight := s.inFlight.erase x
      ++ (List.zip (List.zip zones s.lev.zones) ls).zipIdx.flatMap (zoneReports r.pose.frame)
      ++ [.stateReport r.pose.frame (ls.map LevZone.state)]
    portB := if n = none then s.portB else s.portB.handAllotment (allotmentFrame s.settings.ports.pcuOrder a)
    lev := { s.lev with
      join := some (formedParts r.pose.frame r zones n c n.isSome), lastCeil := c, lastRate := r.rate
      prevEval := .valid, zones := ls, latest := if n = none then s.lev.latest else some a } }

theorem State.validCeilings_tryBuild {r : PoseRecord} {zones : List FrameZone} {n : Option Nat} {x : Instr} {s : State}
    (hvalid : r.pose.valid = true) (h : zones.length = s.lev.zones.length) :
    (((s.taken x).joined r zones n).validCeilings r zones).tryBuild = s.validFormed r zones n x := by
  rw [State.validCeilings_eq (s := (s.taken x).joined r zones n) h]
  cases n with
  | none =>
    rw [State.tryBuild_waits rfl]
    rfl
  | some k =>
    rw [State.tryBuild_builds rfl, hvalid]
    rfl

/-- Settles O37: the ceilings are the smallest of the zones', and each zone's view that of its own evaluation. -/
theorem validPoseFormsTheCeilings : Obligations.ValidPoseFormsTheCeilings := by
  intro r zones n x s on hvalid hzones hls hx
  have hlen : zones.length = s.lev.zones.length := hzones.trans hls.symm
  have hnext : exec x s = .next (s.validFormed r zones n x) := by
    rw [exec_bothParts on hx, if_pos hvalid, State.validCeilings_tryBuild hvalid hlen]
  obtain ⟨hleft, hleftOne⟩ := combinedCeilings_spec (c := s.settings.lev) (r := r) Ceilings.left (fun _ _ => rfl) rfl
    zones
  obtain ⟨hright, hrightOne⟩ := combinedCeilings_spec (c := s.settings.lev) (r := r) Ceilings.right (fun _ _ => rfl)
    rfl zones
  obtain ⟨hraise, hraiseOne⟩ := combinedCeilings_spec (c := s.settings.lev) (r := r) Ceilings.raise (fun _ _ => rfl)
    rfl zones
  obtain ⟨hlower, hlowerOne⟩ := combinedCeilings_spec (c := s.settings.lev) (r := r) Ceilings.lower (fun _ _ => rfl)
    rfl zones
  refine ⟨s.validFormed r zones n x, combinedCeilings s.settings.lev r zones, hnext, rfl, rfl, rfl, rfl, ?none, ?some,
    rfl, fun z hz => ⟨hleft z hz, hright z hz, hraise z hz, hlower z hz⟩, hleftOne, hrightOne, hraiseOne, hlowerOne,
    fun z _ h => (zoneEval_open h).1, ?copies, ?last, ?breach,
    fun z _ hm hs => congrArg ZoneEval.ceilings (zoneEval_enforced hm hs), ?flags, rfl⟩
  case none =>
    rintro rfl
    exact ⟨rfl, rfl⟩
  case some =>
    rintro k rfl hk
    exact ⟨_, rfl, s.allotmentOf_built _ _ fun _ => hk, rfl⟩
  case copies =>
    intro i z l hz hl
    obtain ⟨l0, _, rfl⟩ := evaluated_spec hlen hz hl
    exact ⟨rfl, zoneEval_state z⟩
  case last => exact List.getLast?_concat
  case breach =>
    intro i z l hz hl hm hs hstate hnew
    refine List.mem_append_left _ (List.mem_append_right _ (List.mem_flatMap.2
      ⟨(((z, l), l.evaluated s.settings.lev r z), i), ?_, ?_⟩))
    · have hzip : (List.zip zones s.lev.zones)[i]? = some (z, l) := List.getElem?_zip_eq_some.2 ⟨hz, hl⟩
      rw [List.mem_zipIdx_iff_getElem?, List.getElem?_zip_eq_some, evaluatedZones_eq hlen, List.getElem?_map, hzip]
      exact ⟨rfl, rfl⟩
    · have hbreach := (zoneBreach_enforced (c := s.settings.lev) (r := r) hm hs).2 hstate
      exact List.mem_append_left _ (by rw [if_pos ⟨hbreach, hnew⟩]; exact List.mem_singleton_self _)
  case flags =>
    intro i z l hz hl
    obtain ⟨l0, _, rfl⟩ := evaluated_spec hlen hz hl
    refine ⟨fun hm hs => ⟨congrArg ZoneEval.deep (zoneEval_enforced hm hs), zoneBreach_enforced hm hs⟩, fun h => ?_⟩
    obtain ⟨_, hdeep, hbreach⟩ := zoneEval_open (c := s.settings.lev) (r := r) h
    exact ⟨hdeep, hbreach⟩

end Sys2Proof.Machine
end

/-! ## Events of the engine plan controller: commands, allowance, the PCU and the governors (O40) -/

section
namespace Sys2Proof.Machine

open Sys2Proof

/-! ### Commands and allowance re-formed (R117, R128) -/

theorem Epc.command_eq (c : EpcCfg) (p : Epc) (e : Engine) :
    p.command c e = { p.eng e with
      run := p.runFor e, cmdSpeed := if p.runFor e then p.runSpeed c e else 0
      hasRun := p.runFor e && (p.eng e).hasRun } := by
  unfold Epc.command
  cases h : p.runFor e <;> simp

theorem Epc.reform_eq (c : EpcCfg) (p : Epc) :
    p.reform c = { p with
      e1 := p.command c .e1, e2 := p.command c .e2, allowance := (p.reform c).allowance } := rfl

section
variable (p : Epc) (e : Engine)

theorem Epc.avail_failed : p.avail e = .failed ↔ (p.eng e).failed = true := by
  unfold Epc.avail
  cases (p.eng e).failed with
  | true => simp
  | false => simp only [Bool.false_eq_true, if_false, iff_false]; split <;> simp

theorem Epc.runFor_stopped (h : p.keyOff = true ∨ p.avail e = .failed) : p.runFor e = false := by
  rw [Epc.avail_failed] at h
  have hor : (p.keyOff || (p.eng e).failed) = true := by simpa using h
  rw [Epc.runFor, if_pos hor]

/-- The table of R117. -/
theorem Epc.runFor_table (hkey : p.keyOff = false) (hfail : p.avail e ≠ .failed) :
    p.runFor e = match p.plan with
      | .none => !(p.isExcluded e && p.runSeen)
      | .twin => !(p.isExcluded e && !(p.eng e).hasRun)
      | .cooldown => true
      | .single => p.lead == some e
      | .starting => true := by
  have hnot : ¬(p.keyOff || (p.eng e).failed) = true := by
    rw [Ne, Epc.avail_failed] at hfail
    simpa [hkey] using hfail
  rewrite [Epc.runFor, if_neg hnot]
  cases p.plan <;> rfl

theorem Epc.coolingTrail_iff : p.coolingTrail e = true ↔ p.plan = .cooldown ∧ p.lead ≠ some e := by
  simp [Epc.coolingTrail]

theorem Epc.runSpeed_eq (c : EpcCfg) : p.runSpeed c e =
    if p.hold = true ∨ (p.plan = .cooldown ∧ p.lead ≠ some e) ∨ p.idle = true then c.idleRpm
    else c.ratedSpeed p.effMode := by
  unfold Epc.runSpeed
  simp only [Bool.or_eq_true, Epc.coolingTrail_iff, or_assoc]

end

theorem Epc.reform_effMode (c : EpcCfg) (p : Epc) : (p.reform c).effMode = p.effMode := by
  unfold Epc.effMode
  rw [Epc.reform_capped]
  rfl

/-- What an engine contributes once the commands are re-formed. -/
theorem Epc.recommand_contribution (c : EpcCfg) (p : Epc) (e : Engine) :
    (p.recommand c).contribution c e =
      if (p.eng e).reported = .running ∧ p.runFor e = true ∧ ¬(p.plan = .cooldown ∧ p.lead ≠ some e) then
        c.rated e * c.ratio p.effMode / 100 else 0 := by
  have heng : (p.recommand c).eng e = p.command c e := by cases e <;> rfl
  have hmode : (p.recommand c).effMode = p.effMode := p.reform_effMode c
  have hcond : ((p.recommand c).running e && ((p.recommand c).eng e).run && !(p.recommand c).coolingTrail e) = true
      ↔ (p.eng e).reported = .running ∧ p.runFor e = true ∧ ¬(p.plan = .cooldown ∧ p.lead ≠ some e) := by
    unfold Epc.running
    rw [heng, Epc.command_eq, ← p.coolingTrail_iff e]
    simp only [Bool.and_eq_true, beq_iff_eq, Bool.not_eq_true', Bool.not_eq_true, and_assoc]
    rfl
  unfold Epc.contribution
  rw [hmode]
  simp only [hcond]

/-- R128: the allowance of the commands re-formed. -/
theorem Epc.reform_allowance_eq (c : EpcCfg) (p : Epc) :
    let sum := min 4000 ((p.recommand c).contribution c .e1 + (p.recommand c).contribution c .e2 - c.reserve)
    (p.reform c).allowance = if p.hold then min sum c.holdKw else sum := rfl

/-! ### Events that leave the plan and the cap -/

/-- An event that leaves the plan, the lead, the cap mark and the excluded flags raises no notice. -/
theorem State.epcEvent_plain (f : Epc → Epc) (s : State) (hplan : (f s.epc).plan = s.epc.plan)
    (hlead : (f s.epc).lead = s.epc.lead) (hcap : (f s.epc).capped = s.epc.capped) :
    s.epcEvent f = { s with epc := (f s.epc).reform s.settings.epc } :=
  State.epcEvent_quiet f s ((Epc.reform_capped _ _).trans hcap) hplan hlead

theorem Epc.onPumpStatus_eq (demand : Nat) (neutral : Bool) (p : Epc) :
    p.onPumpStatus demand neutral = { p with
      demand := min 4000 demand, neutral := neutral, pcu := .fresh
      idle := if neutral then p.idle else false
      neutralCount := if neutral then p.neutralCount else 0 } := by
  cases neutral <;> rfl

/-- Settles O40: the commands and the allowance in closed form, and the events of the PCU and the governors. -/
theorem epcTakesPcuAndGovernorEvents : Obligations.EpcTakesPcuAndGovernorEvents := by
  refine ⟨fun c p => ?_, fun p e =>
    ⟨p.runFor_stopped e, fun hkey hfail => ?table⟩, fun c p e => ?speed, fun c p => ?allow,
    fun demand neutral g s on => ⟨?pump, next_of_on on ?_, next_of_on on ?_, next_of_on on ?_, next_of_on on ?_,
      next_of_on on rfl⟩⟩
  · exact (p.reform_eq c).trans (by rw [Epc.command_eq, Epc.command_eq]; rfl)
  case table =>
    have htable := p.runFor_table e hkey hfail
    refine ⟨fun h => ?_, fun h => ?_, fun h => ?_, fun h => ?_⟩
    · rw [htable, h]
      simp [Epc.isExcluded]
    · rw [htable, h]
      simp [Epc.isExcluded]
    · rw [htable]
      obtain h | h := h <;> rw [h]
    · rw [htable, h]
      simp
  case speed =>
    rw [p.runSpeed_eq e c]
    cases p.effMode <;> rfl
  case allow =>
    intro ratio counts
    have hratio : ratio = c.ratio p.effMode := by
      dsimp only [ratio]
      cases p.effMode <;> rfl
    rw [hratio]
    refine ⟨(p.recommand c).contribution c .e1,
      (p.recommand c).contribution c .e2, fun h => ?_, fun h => ?_, fun h => ?_,
      fun h => ?_, fun h => ?_, fun h => ?_⟩
    · rw [Epc.recommand_contribution, if_pos h]
      rfl
    · rw [Epc.recommand_contribution, if_neg h]
    · rw [Epc.recommand_contribution, if_pos h]
      rfl
    · rw [Epc.recommand_contribution, if_neg h]
    · rw [p.reform_allowance_eq c, h]
      rfl
    · rw [p.reform_allowance_eq c, h]
      rfl
  case pump =>
    rw [← Epc.onPumpStatus_eq]
    refine next_of_on on ?_
    refine State.epcEvent_plain _ (s.taken _) ?_ ?_ ?_ <;> cases neutral <;> rfl
  · exact State.epcEvent_plain _ (s.taken _) rfl rfl rfl
  · exact State.epcEvent_plain _ (s.taken _) rfl rfl rfl
  · exact State.epcEvent_plain _ (s.taken _) rfl rfl rfl
  · exact State.epcEvent_plain _ (s.taken _) rfl rfl rfl

end Sys2Proof.Machine
end

/-! ## An ENGINE_STATUS at the engine plan controller (O41) -/

section
namespace Sys2Proof.Machine

open Sys2Proof

/-! ### Events of the EPC and their notices (R114, R116) -/

theorem capNotices_nil {p q : Epc} (h : q.capped = p.capped) : capNotices p q = [] := by
  unfold capNotices
  exact if_neg fun hc => hc.1 h

/-- An event of the EPC from a state that differs in the deliveries in flight alone. -/
theorem State.epcEvent_from (f : Epc → Epc) (l : List Instr) (s : State) :
    let t := State.epcEvent f { s with inFlight := l }
    t.epc = (f s.epc).reform s.settings.epc ∧ t.inFlight = l
      ∧ t = { s with epc := t.epc, inFlight := t.inFlight, portA := t.portA, sli := t.sli }
      ∧ noticesRaised (capNotices s.epc t.epc ++ planNotices s.epc t.epc) (planNotices s.epc t.epc) s t := by
  have hframe := State.epcEvent_frame f { s with inFlight := l }
  refine ⟨State.epcEvent_epc f _, ?_, ?_, State.epcEvent_notices f { s with inFlight := l }⟩
  · rw [hframe]
  · rw [hframe]

/-- Without a change of the cap, PLAN_CHANGED is the only notice. -/
theorem State.epcEvent_planNotices (f : Epc → Epc) (l : List Instr) (s : State)
    (hcap : (f s.epc).capped = s.epc.capped) :
    noticesRaised (planNotices s.epc (State.epcEvent f { s with inFlight := l }).epc)
      (planNotices s.epc (State.epcEvent f { s with inFlight := l }).epc) s
      (State.epcEvent f { s with inFlight := l }) := by
  obtain ⟨hepc, _, _, hnotices⟩ := State.epcEvent_from f l s
  rwa [capNotices_nil (by rw [hepc, Epc.reform_capped, hcap]), List.nil_append] at hnotices

/-! ### The report of an engine (R109) -/

/-- The EPC with the record of an engine replaced (R109). -/
abbrev Epc.reported (g : Engine) (st : EngState) (load speed fuel : Nat) (p : Epc) : Epc :=
  p.onEng g (EngineRec.reportedAs st load speed fuel)

theorem Epc.onEng_frame (g : Engine) (f : EngineRec → EngineRec) (p : Epc) :
    p.onEng g f = { p with e1 := (p.onEng g f).e1, e2 := (p.onEng g f).e2 } := by cases g <;> rfl

theorem Epc.onEng_same (g : Engine) (f : EngineRec → EngineRec) (p : Epc) : (p.onEng g f).eng g = f (p.eng g) := by
  cases g <;> rfl

theorem Epc.onEng_other {g o : Engine} (h : o ≠ g) (f : EngineRec → EngineRec) (p : Epc) :
    (p.onEng g f).eng o = p.eng o := by rw [Epc.onEng_eng, if_neg h]

theorem SameView.capped {p q : Epc} (v : SameView p q) (h : q.capEconomy = p.capEconomy) : q.capped = p.capped := by
  have h1 : q.e1.excluded = p.e1.excluded := v.excluded .e1
  have h2 : q.e2.excluded = p.e2.excluded := v.excluded .e2
  rw [Epc.capped, Epc.capped, h, h1, h2]

section
variable {c : EpcCfg} {g : Engine} {st : EngState} {load speed fuel : Nat} {p : Epc}

/-- R119: a report that brings the plan out of PLAN_NONE. -/
theorem Epc.onStatus_first (hst : st = .running) (hrun : (p.eng g).run = true) (hplan : p.plan = .none) :
    p.onStatus c g st load speed fuel = Epc.enterTwin { p.reported g st load speed fuel with runSeen := true } := by
  subst hst
  have hq : ((p.reported g .running load speed fuel).eng g).run = true := by rw [Epc.onEng_same]; exact hrun
  have hp : (p.reported g .running load speed fuel).plan = .none := by cases g <;> exact hplan
  simp [Epc.onStatus, Epc.onRunning, hq, hp]

/-- R123: a report that completes a start. -/
theorem Epc.onStatus_completes (hst : st = .running) (hrun : (p.eng g).run = true) (hplan : p.plan = .starting)
    (hs : p.starting = some g) :
    p.onStatus c g st load speed fuel = (p.reported g st load speed fuel).startCompleted c g := by
  subst hst
  have hq : ((p.reported g .running load speed fuel).eng g).run = true := by rw [Epc.onEng_same]; exact hrun
  have hp : (p.reported g .running load speed fuel).plan = .starting := by cases g <;> exact hplan
  have hstart : (p.reported g .running load speed fuel).starting = some g := by cases g <;> exact hs
  simp [Epc.onStatus, Epc.onRunning, hq, hp, hstart]

/-- R119, R123: any other RUNNING report moves no plan. -/
theorem Epc.onStatus_runs (hst : st = .running)
    (h : (p.eng g).run = false ∨ (p.plan ≠ .none ∧ (p.plan ≠ .starting ∨ p.starting ≠ some g))) :
    p.onStatus c g st load speed fuel = p.reported g st load speed fuel := by
  subst hst
  have hq : ((p.reported g .running load speed fuel).eng g).run = (p.eng g).run := by rw [Epc.onEng_same]; rfl
  have hp : (p.reported g .running load speed fuel).plan = p.plan := by cases g <;> rfl
  have hstart : (p.reported g .running load speed fuel).starting = p.starting := by cases g <;> rfl
  unfold Epc.onStatus
  dsimp only
  rw [if_pos rfl, Epc.onRunning, hq, hp, hstart]
  obtain hr | ⟨hplan, hs⟩ := h
  · simp [hr]
  · rw [if_neg hplan, if_neg (not_and_or.2 hs), ite_self]

/-- R125: a report that finds its engine lost. -/
theorem Epc.onStatus_lost (hst : st ≠ .running) (h : p.isLost g st = true) :
    p.onStatus c g st load speed fuel = (p.reported g st load speed fuel).lost g := by
  simp [Epc.onStatus, hst, h]

/-- R125: any other report moves no plan. -/
theorem Epc.onStatus_stays (hst : st ≠ .running) (h : p.isLost g st = false) :
    p.onStatus c g st load speed fuel = p.reported g st load speed fuel := by
  simp [Epc.onStatus, hst, h]

theorem Epc.isLost_iff : p.isLost g st = true
    ↔ (st = .stopped ∨ st = .faulted) ∧ (p.eng g).run = true ∧ (p.eng g).hasRun = true := by
  simp [Epc.isLost, and_assoc]

/-! ### An engine lost (R125) -/

/-- The EPC with the failed flag of an engine set. -/
abbrev Epc.failedNow (g : Engine) (p : Epc) : Epc := p.onEng g fun r => { r with failed := true }

theorem Epc.lost_starting (hplan : p.plan = .starting) (hs : p.starting = some (otherEngine g)) :
    p.lost g = { p.failedNow g with lead := some (otherEngine g), swap := false } := by
  simp [Epc.lost, hplan, hs]

/-- With no start of the other engine under way, the other engine leads, runs alone or is none (R125). -/
theorem Epc.lost_moved (h : p.plan ≠ .starting ∨ p.starting ≠ some (otherEngine g)) :
    p.lost g =
      if (p.eng (otherEngine g)).reported = .running ∧ p.avail (otherEngine g) = .available then
        (p.failedNow g).enterSingle (otherEngine g)
      else if (p.eng (otherEngine g)).reported = .running ∧ p.avail (otherEngine g) = .excluded then
        (p.failedNow g).enterTwin
      else (p.failedNow g).enterNone := by
  have heng : (p.failedNow g).eng (otherEngine g) = p.eng (otherEngine g) := Epc.onEng_other (otherEngine_ne g) _ _
  have havail := p.avail_failed_other g
  unfold Epc.lost
  dsimp only
  rw [if_neg (not_and_or.2 h)]
  simp only [Bool.and_eq_true, Epc.isAvailable_iff, Epc.isExcluded_iff, Epc.running, beq_iff_eq]
  rw [heng, havail]

/-- What a lost engine leaves of the EPC. -/
theorem Epc.lost_frame : p.lost g = { p.failedNow g with
    plan := (p.lost g).plan, lead := (p.lost g).lead, starting := (p.lost g).starting, swap := (p.lost g).swap
    lowCount := (p.lost g).lowCount } := by
  unfold Epc.lost
  dsimp only
  split
  · rfl
  · split
    · rfl
    · split <;> rfl

theorem Epc.startCompleted_swap (h : p.swap = true) :
    p.startCompleted c g = Epc.enterCooldown c g { p with startTimer := 0, swap := false } := by
  simp [Epc.startCompleted, h]

theorem Epc.startCompleted_demand (h : p.swap = false) :
    p.startCompleted c g = Epc.enterTwin { p with startTimer := 0, dwell := c.restartDwell } := by
  simp [Epc.startCompleted, h]

theorem Epc.startCompleted_plan : (p.startCompleted c g).plan = .cooldown ∨ (p.startCompleted c g).plan = .twin := by
  unfold Epc.startCompleted
  dsimp only
  split
  · exact .inl rfl
  · exact .inr rfl

theorem Epc.startCompleted_frame : p.startCompleted c g = { p with
    plan := (p.startCompleted c g).plan, lead := (p.startCompleted c g).lead
    starting := (p.startCompleted c g).starting, swap := (p.startCompleted c g).swap
    startTimer := 0, cooldown := (p.startCompleted c g).cooldown, lowCount := (p.startCompleted c g).lowCount
    dwell := (p.startCompleted c g).dwell } := by
  unfold Epc.startCompleted
  dsimp only
  split <;> rfl

/-! ### What an ENGINE_STATUS leaves of the EPC -/

/-- A report touches the records, the plan and its counts, and nothing else. -/
theorem Epc.onStatus_frame : p.onStatus c g st load speed fuel =
    let q := p.onStatus c g st load speed fuel
    { p with
      e1 := q.e1, e2 := q.e2, plan := q.plan, lead := q.lead, starting := q.starting, swap := q.swap
      runSeen := q.runSeen, startTimer := q.startTimer, cooldown := q.cooldown, lowCount := q.lowCount
      dwell := q.dwell } := by
  have hq := Epc.onEng_frame g (EngineRec.reportedAs st load speed fuel) p
  unfold Epc.onStatus Epc.onRunning
  dsimp only
  split
  · split
    · rw [hq]
    · split
      · rw [hq]
        rfl
      · split
        · rw [Epc.startCompleted_frame, hq]
        · rw [hq]
  · split
    · rw [Epc.lost_frame]
      cases g <;> rfl
    · rw [hq]

theorem Epc.onStatus_eng (x : Engine) : (p.onStatus c g st load speed fuel).eng x =
    if st ≠ .running ∧ p.isLost g st = true then ((p.reported g st load speed fuel).failedNow g).eng x
    else (p.reported g st load speed fuel).eng x := by
  have hlost := (p.reported g st load speed fuel).lost_frame (g := g)
  have hcompleted := (p.reported g st load speed fuel).startCompleted_frame (c := c) (g := g)
  unfold Epc.onStatus
  dsimp only
  split
  next hst =>
    rw [if_neg fun h => h.1 hst, Epc.onRunning]
    split
    · rfl
    · split
      · cases x <;> rfl
      · split
        · rw [hcompleted]
          cases x <;> rfl
        · rfl
  next hst =>
    split
    next h =>
      rw [if_pos ⟨hst, h⟩, hlost]
      cases x <;> rfl
    next h => rw [if_neg fun hh => h hh.2]

theorem Epc.onStatus_eng_other {o : Engine} (ho : o ≠ g) : (p.onStatus c g st load speed fuel).eng o = p.eng o := by
  rw [Epc.onStatus_eng]
  split
  · rw [Epc.onEng_other ho, Epc.onEng_other ho]
  · rw [Epc.onEng_other ho]

/-- The record of the engine that reports. -/
theorem Epc.onStatus_eng_same : (p.onStatus c g st load speed fuel).eng g =
    { (p.eng g).reportedAs st load speed fuel with
      failed := if st ≠ .running ∧ p.isLost g st = true then true else (p.eng g).failed } := by
  rw [Epc.onStatus_eng]
  split
  · rw [Epc.onEng_same, Epc.onEng_same]
  · rw [Epc.onEng_same]
    rfl

theorem Epc.onStatus_capped : (p.onStatus c g st load speed fuel).capped = p.capped := by
  have hexcluded : ∀ x, ((p.onStatus c g st load speed fuel).eng x).excluded = (p.eng x).excluded := fun x => by
    by_cases hx : x = g
    · subst hx
      rw [Epc.onStatus_eng_same]
      rfl
    · rw [Epc.onStatus_eng_other hx]
  have h1 : (p.onStatus c g st load speed fuel).e1.excluded = p.e1.excluded := hexcluded .e1
  have h2 : (p.onStatus c g st load speed fuel).e2.excluded = p.e2.excluded := hexcluded .e2
  have hcap : (p.onStatus c g st load speed fuel).capEconomy = p.capEconomy := by rw [Epc.onStatus_frame]
  rw [Epc.capped, Epc.capped, hcap, h1, h2]

/-- R117: an engine that has run is commanded RUN in any plan but PLAN_NONE, in PLAN_SINGLE as the lead. -/
theorem Epc.runFor_of_hasRun (hkey : p.keyOff = false) (hfail : (p.eng g).failed = false)
    (hrun : (p.eng g).hasRun = true)
    (hplan : p.plan ≠ .none) (hsingle : p.plan = .single → p.lead = some g) : p.runFor g = true := by
  rw [Epc.runFor_table p g hkey (by rw [Ne, Epc.avail_failed]; simp [hfail])]
  split
  · contradiction
  · simp [hrun]
  · rfl
  next h => simp [hsingle h]
  · rfl

theorem Epc.runFor_true (h : p.runFor g = true) : p.keyOff = false ∧ (p.eng g).failed = false := by
  unfold Epc.runFor at h
  split at h
  · exact nomatch h
  next hn => simpa using hn

/-- R117, R119, R123: a RUNNING engine commanded RUN by the plan stays commanded RUN. -/
theorem Epc.onStatus_runFor (hst : st = .running) (hrun : (p.eng g).run = true) (h : p.runFor g = true) :
    (p.onStatus c g st load speed fuel).runFor g = true := by
  subst hst
  obtain ⟨hkey, hfail⟩ := Epc.runFor_true h
  have heng := p.onStatus_eng_same (c := c) (g := g) (st := .running) (load := load) (speed := speed) (fuel := fuel)
  have hkey' : (p.onStatus c g .running load speed fuel).keyOff = false := by rw [Epc.onStatus_frame]; exact hkey
  have hfail' : ((p.onStatus c g .running load speed fuel).eng g).failed = false := by
    rw [heng]
    simpa using hfail
  have hrun' : ((p.onStatus c g .running load speed fuel).eng g).hasRun = true := by
    rw [heng]
    simp [EngineRec.reportedAs, hrun]
  by_cases hnone : p.plan = .none
  · refine Epc.runFor_of_hasRun hkey' hfail' hrun' ?_ ?_ <;> rw [Epc.onStatus_first rfl hrun hnone] <;> nofun
  · by_cases hs : p.plan = .starting ∧ p.starting = some g
    · have hplan := (p.reported g .running load speed fuel).startCompleted_plan (c := c) (g := g)
      rw [← Epc.onStatus_completes (c := c) rfl hrun hs.1 hs.2] at hplan
      obtain hplan | hplan := hplan <;> exact Epc.runFor_of_hasRun hkey' hfail' hrun' (by simp [hplan])
        (by simp [hplan])
    · have hsame := p.onStatus_runs (c := c) (load := load) (speed := speed) (fuel := fuel) rfl
        (.inr ⟨hnone, not_and_or.1 hs⟩)
      have hplan : (p.reported g .running load speed fuel).plan = p.plan := by cases g <;> rfl
      have hlead : (p.reported g .running load speed fuel).lead = p.lead := by cases g <;> rfl
      refine Epc.runFor_of_hasRun hkey' hfail' hrun' (by rw [hsame, hplan]; exact hnone) fun hsingle => ?_
      rw [hsame, hplan] at hsingle
      rw [Epc.runFor_table p g hkey (by rw [Ne, Epc.avail_failed]; simp [hfail]), hsingle] at h
      rw [hsame, hlead]
      simpa using h

end

/-- The report of an engine that is lost (R125). -/
def lostReports (g : Engine) (st : EngState) (p : Epc) : List Instr :=
  if p.isLost g st then [.faultReport
    { code := .engineLost, clearing := false, detail := engineNumber g, frame := none }]
  else []

theorem State.engineReport_eq (g : Engine) (st : EngState) (load speed fuel : Nat) (s : State) :
    s.engineReport g st load speed fuel =
      State.epcEvent (Epc.onStatus s.settings.epc g st load speed fuel)
        { s with inFlight := s.inFlight ++ lostReports g st s.epc } := by
  unfold State.engineReport lostReports
  by_cases h : s.epc.isLost g st = true
  · rw [if_pos h, if_pos h]
    rfl
  · rw [if_neg h, if_neg h, List.append_nil]

theorem engStateOf_running {code : Byte} : engStateOf code = .running ↔ code = 2 := by
  unfold engStateOf
  split
  next h => simp [h]
  · split
    next h => simp [h]
    · split <;> simp_all

theorem engStateOf_stopped {code : Byte} :
    (engStateOf code = .stopped ∨ engStateOf code = .faulted) ↔ code ≠ 1 ∧ code ≠ 2 := by
  unfold engStateOf
  split
  next h => simp [h]
  · split
    next h => simp [h]
    · split <;> simp_all

/-- An engine is found lost by a code that is neither CRANKING nor RUNNING. -/
theorem Epc.isLost_code {p : Epc} {g : Engine} {code : Byte} : p.isLost g (engStateOf code) = true
    ↔ (code ≠ 1 ∧ code ≠ 2) ∧ (p.eng g).run = true ∧ (p.eng g).hasRun = true := by
  rw [Epc.isLost_iff, engStateOf_stopped]

/-- The record of the engine that reports, with the commands re-formed. -/
theorem Epc.reform_onStatus_same (c : EpcCfg) (g : Engine) (st : EngState) (load speed fuel : Nat) (p : Epc) :
    ((p.onStatus c g st load speed fuel).reform c).eng g = { p.eng g with
      reported := st, load := load, speed := speed, fuel := fuel
      failed := if st ≠ .running ∧ p.isLost g st = true then true else (p.eng g).failed
      run := (((p.onStatus c g st load speed fuel).reform c).eng g).run
      cmdSpeed := (((p.onStatus c g st load speed fuel).reform c).eng g).cmdSpeed
      hasRun := (((p.onStatus c g st load speed fuel).reform c).eng g).run
        && ((p.eng g).hasRun || ((p.eng g).run && st == .running)) } := by
  rw [Epc.reform_eng, Epc.command_eq, Epc.onStatus_eng_same]
  rfl

/-- The record of the other engine. -/
theorem Epc.reform_onStatus_other (c : EpcCfg) (g : Engine) (st : EngState) (load speed fuel : Nat) (p : Epc)
    {o : Engine} (ho : o ≠ g) :
    ((p.onStatus c g st load speed fuel).reform c).eng o = { p.eng o with
      run := (((p.onStatus c g st load speed fuel).reform c).eng o).run
      cmdSpeed := (((p.onStatus c g st load speed fuel).reform c).eng o).cmdSpeed
      hasRun := (p.eng o).hasRun && (((p.onStatus c g st load speed fuel).reform c).eng o).run } := by
  rw [Epc.reform_eng, Epc.command_eq, Epc.onStatus_eng_other ho, Bool.and_comm]

/-- Settles O41: the report replaces the record, and each case of R119, R123 and R125 is one equation of
`Epc.onStatus`. -/
theorem engineStatusIsTaken : Obligations.EngineStatusIsTaken := by
  intro g o code load speed fuel s on hog x
  obtain rfl := eq_other_of_ne hog
  obtain ⟨st, hst⟩ : ∃ st, engStateOf code = st := ⟨_, rfl⟩
  obtain ⟨q, hq⟩ : ∃ q, s.epc.onStatus s.settings.epc g st load speed fuel = q := ⟨_, rfl⟩
  obtain ⟨t, ht⟩ : ∃ t, State.epcEvent (Epc.onStatus s.settings.epc g st load speed fuel)
    { s with inFlight := s.inFlight.erase x ++ lostReports g st s.epc } = t := ⟨_, rfl⟩
  have hnext : exec x s = .next t := by
    refine next_of_on on ?_
    rw [← ht, ← hst]
    exact State.engineReport_eq g _ load speed fuel (s.taken x)
  obtain ⟨hepc, hflight, hstate, _⟩ := State.epcEvent_from (Epc.onStatus s.settings.epc g st load speed fuel)
    (s.inFlight.erase x ++ lostReports g st s.epc) s
  have hnotices := State.epcEvent_planNotices (Epc.onStatus s.settings.epc g st load speed fuel)
    (s.inFlight.erase x ++ lostReports g st s.epc) s s.epc.onStatus_capped
  rw [ht] at hepc hflight hstate hnotices
  have hsame := s.epc.reform_onStatus_same s.settings.epc g st load speed fuel
  have hother := s.epc.reform_onStatus_other s.settings.epc g st load speed fuel hog
  rw [hq] at hepc
  rw [hq, ← hepc] at hsame hother
  have hrunning : code = 2 → st = .running := fun h => hst ▸ engStateOf_running.2 h
  have hnotRunning : code ≠ 2 → st ≠ .running := fun h hr => h (engStateOf_running.1 (hst.trans hr))
  have hlostIff : s.epc.isLost g st = true
      ↔ (code ≠ 1 ∧ code ≠ 2) ∧ (s.epc.eng g).run = true ∧ (s.epc.eng g).hasRun = true := by
    rw [← hst]
    exact Epc.isLost_code
  have hkeptFailed : s.epc.isLost g st = false → (t.epc.eng g).failed = (s.epc.eng g).failed := fun h => by
    rw [hsame]
    simp [h]
  have hkeptFlight : s.epc.isLost g st = false → t.inFlight = s.inFlight.erase x := fun h => by
    rw [hflight]
    simp [lostReports, h]
  have hnotLost : code = 1 ∨ code = 2 ∨ (s.epc.eng g).run = false ∨ (s.epc.eng g).hasRun = false →
      s.epc.isLost g st = false := fun h => by
    rw [← Bool.not_eq_true, hlostIff]
    grind
  have hstays : q = s.epc.reported g st load speed fuel →
      t.epc = { s.epc with e1 := t.epc.e1, e2 := t.epc.e2, allowance := t.epc.allowance } := fun h => by
    rw [hepc, h]
    cases g <;> rfl
  refine ⟨t, hnext, ?_, ?_, ?_, ?_, ?first, ?completes, ?runs, ?hasRun, ?kept, hother, ?_, ?failed, ?lost, ?stays,
    ?frame,
    hstate, hnotices⟩
  · rw [hsame]
    exact hst.symm
  · rw [hsame]
  · rw [hsame]
  · rw [hsame]
  case first =>
    intro hcode hrun hplan
    rw [hepc, ← hq, Epc.onStatus_first (hrunning hcode) hrun hplan]
    exact ⟨rfl, rfl, rfl, rfl, by cases g <;> rfl⟩
  case completes =>
    intro hcode hrun hplan hstart
    rw [hepc, ← hq, Epc.onStatus_completes (hrunning hcode) hrun hplan hstart]
    have hswap : (s.epc.reported g st load speed fuel).swap = s.epc.swap := by cases g <;> rfl
    have hdwell : (s.epc.reported g st load speed fuel).dwell = s.epc.dwell := by cases g <;> rfl
    cases hs : s.epc.swap with
    | true =>
      rw [Epc.startCompleted_swap (hswap.trans hs)]
      exact ⟨rfl, rfl, rfl, fun _ => ⟨rfl, rfl, rfl, hdwell⟩, nofun⟩
    | false =>
      rw [Epc.startCompleted_demand (hswap.trans hs)]
      exact ⟨rfl, hswap.trans hs, rfl, nofun, fun _ => ⟨rfl, rfl, rfl, rfl⟩⟩
  case runs =>
    intro hcode h
    exact hstays (hq.symm.trans (Epc.onStatus_runs (hrunning hcode) h))
  case hasRun =>
    intro hcode hrun
    refine ⟨by rw [hsame]; simp [hrunning hcode, hrun], fun hallow => ?_⟩
    obtain ⟨_, hruns⟩ := hallow
    rw [hepc, Epc.reform_run, ← hq]
    exact Epc.onStatus_runFor (hrunning hcode) hrun ((hruns g).symm.trans hrun)
  case kept =>
    intro h
    have hno : ((s.epc.eng g).run && st == .running) = false := by
      obtain hcode | hrun := h
      · simp [hnotRunning hcode]
      · simp [hrun]
    rw [hsame]
    simp [hno, Bool.and_comm]
  · rw [hsame]
  case failed =>
    intro hcode
    exact ⟨hkeptFailed (hnotLost (.inr (.inl hcode))), hkeptFlight (hnotLost (.inr (.inl hcode)))⟩
  case lost =>
    intro h1 h2 hrun hhas
    have hlost := hlostIff.2 ⟨⟨h1, h2⟩, hrun, hhas⟩
    have hfailed : (t.epc.eng g).failed = true := by rw [hsame]; simp [hlost, hnotRunning h2]
    have hstop : q.runFor g = false := Epc.runFor_stopped q g (.inr ((Epc.avail_failed q g).2 (by
      rw [← hfailed, hepc, Epc.reform_failed])))
    have hqlost : q = (s.epc.reported g st load speed fuel).lost g :=
      hq.symm.trans (Epc.onStatus_lost (hnotRunning h2) hlost)
    have hcmd : (t.epc.eng g).run = false ∧ (t.epc.eng g).cmdSpeed = 0 := by
      rw [hepc, Epc.reform_eng, Epc.command_eq, hstop]
      exact ⟨rfl, rfl⟩
    have hplan : (s.epc.reported g st load speed fuel).plan = s.epc.plan := by cases g <;> rfl
    have hstart : (s.epc.reported g st load speed fuel).starting = s.epc.starting := by cases g <;> rfl
    have hruns : (s.epc.reported g st load speed fuel).eng (otherEngine g) = s.epc.eng (otherEngine g) :=
      Epc.onEng_other hog _ _
    have havail : (s.epc.reported g st load speed fuel).avail (otherEngine g) = s.epc.avail (otherEngine g) :=
      (Epc.reportedAs_view g st load speed fuel s.epc).avail _
    refine ⟨hfailed, hcmd.1, hcmd.2, ?_, fun hp hs => ?_, fun h => ?_⟩
    · rw [hflight, lostReports, if_pos hlost]
    · rw [hepc, hqlost, Epc.lost_starting (hplan.trans hp) (hstart.trans hs)]
      exact ⟨by cases g <;> exact hp, by cases g <;> exact hs, rfl, rfl, by cases g <;> rfl⟩
    · rw [hepc, hqlost, Epc.lost_moved (by rwa [hplan, hstart]), hruns, havail]
      by_cases havailable : (s.epc.eng (otherEngine g)).reported = .running ∧ s.epc.avail (otherEngine g) = .available
      · rw [if_pos havailable]
        obtain ⟨hr, ha⟩ := havailable
        exact ⟨rfl, fun _ _ => ⟨rfl, rfl⟩, by simp [ha], by simp [hr, ha]⟩
      · rw [if_neg havailable]
        by_cases hexcluded : (s.epc.eng (otherEngine g)).reported = .running ∧ s.epc.avail (otherEngine g) = .excluded
        · rw [if_pos hexcluded]
          obtain ⟨hr, ha⟩ := hexcluded
          exact ⟨rfl, by simp [ha], fun _ _ => ⟨rfl, rfl, rfl⟩, by simp [hr, ha]⟩
        · rw [if_neg hexcluded]
          exact ⟨rfl, fun hr ha => absurd ⟨hr, ha⟩ havailable, fun hr ha => absurd ⟨hr, ha⟩ hexcluded,
            fun _ => ⟨rfl, rfl⟩⟩
  case stays =>
    intro h
    have hnot : s.epc.isLost g st = false :=
      hnotLost (h.imp_right fun h => .inr h.2)
    have hcode : code ≠ 2 := by
      obtain rfl | h := h
      · decide
      · exact h.1
    refine ⟨hstays ?_, hkeptFailed hnot, hkeptFlight hnot⟩
    exact hq.symm.trans (Epc.onStatus_stays (hnotRunning hcode) hnot)
  case frame =>
    have hframe := s.epc.onStatus_frame (c := s.settings.epc) (g := g) (st := st) (load := load) (speed := speed)
      (fuel := fuel)
    rw [hq] at hframe
    rw [hepc]
    exact congrArg (fun r : Epc => { r with
      e1 := (q.reform s.settings.epc).e1, e2 := (q.reform s.settings.epc).e2
      allowance := (q.reform s.settings.epc).allowance }) hframe

end Sys2Proof.Machine
end

/-! ## The plan interval: demand, counts and ENGINE_DEMANDs (O42) -/

section
namespace Sys2Proof.Machine

open Sys2Proof

/-! ### The counts of an interval (R113, R118, R119) -/

/-- The EPC at a plan interval with its demand filtered and its counts kept, before the tests of the plan. -/
def Epc.counted (c : EpcCfg) (p : Epc) : Epc :=
  Epc.keepCounts c (Epc.keepIdle c { p with filter := filterStep p.filter (p.rawDemand c) })

theorem Epc.onInterval_eq (c : EpcCfg) (h1 h2 : Nat) (p : Epc) :
    p.onInterval c h1 h2 = (p.counted c).planTests c h1 h2 (p.rawDemand c) := rfl

/-- The condition of R118 for an interval to count. -/
def Epc.idling (p : Epc) : Bool := p.autoIdle && p.pcu == .fresh && p.neutral

theorem Epc.counted_eq (c : EpcCfg) (p : Epc) : p.counted c = { p with
    filter := filterStep p.filter (p.rawDemand c)
    neutralCount := if p.idling then min 65535 (p.neutralCount + 1) else p.neutralCount
    idle := if p.idling then p.idle || decide (c.idleDelay ≤ min 65535 (p.neutralCount + 1)) else p.idle
    dwell := p.dwell - 1
    lowCount :=
      if p.hold then 0
      else if p.plan = .twin then
        (if filterStep p.filter (p.rawDemand c) / 8 < c.singleEnter then min 65535 (p.lowCount + 1) else 0)
      else p.lowCount } := by
  unfold Epc.counted Epc.keepIdle
  show Epc.keepCounts c (if p.idling = true then _ else _) = _
  cases h : p.idling <;> rfl

/-! ### What the tests of the plan leave (R120 to R124) -/

/-- From `k` to `q` the plan may move and an engine become FAILED; of the counts only an entry into PLAN_TWIN zeroes the
low-demand count. -/
structure PlanMoved (k q : Epc) : Prop where
  frame : q = { k with
    e1 := q.e1, e2 := q.e2, plan := q.plan, lead := q.lead, starting := q.starting, swap := q.swap
    startTimer := q.startTimer, cooldown := q.cooldown, lowCount := q.lowCount }
  eng : ∀ g, q.eng g = { k.eng g with failed := (q.eng g).failed }
  low : q.lowCount = if k.plan ≠ .twin ∧ q.plan = .twin then 0 else k.lowCount

theorem PlanMoved.refl (k : Epc) : PlanMoved k k := ⟨rfl, fun _ => rfl, by simp⟩

section
variable {c : EpcCfg} {k : Epc}

theorem PlanMoved.enterCooldown (l : Engine) : PlanMoved k (k.enterCooldown c l) :=
  ⟨rfl, fun g => by cases g <;> rfl, by simp [Epc.enterCooldown]⟩

theorem PlanMoved.enterStarting (e : Engine) (swap : Bool) : PlanMoved k (k.enterStarting c e swap) :=
  ⟨rfl, fun g => by cases g <;> rfl, by simp [Epc.enterStarting]⟩

theorem PlanMoved.twinTests (h1 h2 : Nat) : PlanMoved k (k.twinTests c h1 h2) := by
  unfold Epc.twinTests
  split
  · exact .enterCooldown _
  · split
    · exact .enterCooldown _
    · exact .refl k

theorem PlanMoved.cooldownTests (hplan : k.plan = .cooldown) : PlanMoved k (k.cooldownTests c) := by
  unfold Epc.cooldownTests
  split
  · exact .refl k
  · split
    · exact .refl k
    · split
      · exact ⟨rfl, fun g => by cases g <;> rfl, by simp [Epc.enterTwin, hplan]⟩
      · dsimp only
        split
        · exact ⟨rfl, fun g => by cases g <;> rfl, by simp [Epc.enterSingle]⟩
        · exact ⟨rfl, fun g => by cases g <;> rfl, by simp [hplan]⟩

theorem PlanMoved.singleTests (h1 h2 d : Nat) : PlanMoved k (k.singleTests c h1 h2 d) := by
  unfold Epc.singleTests
  split
  · exact .refl k
  · dsimp only
    split
    · exact .refl k
    · split
      · exact .enterStarting _ _
      · split
        · exact .enterStarting _ _
        · exact .refl k

/-- A start that times out leaves its engine FAILED, and the other one to lead, alone, or not at all. -/
theorem PlanMoved.startTimedOut (hplan : k.plan = .starting) (e : Engine) : PlanMoved k (k.startTimedOut e) := by
  unfold Epc.startTimedOut
  dsimp only
  split
  · exact ⟨by cases e <;> rfl, fun g => by cases e <;> cases g <;> rfl, by cases e <;> simp
      [Epc.enterSingle, Epc.onEng]⟩
  · exact ⟨by cases e <;> rfl, fun g => by cases e <;> cases g <;> rfl, by simp [Epc.enterTwin, hplan]⟩
  · exact ⟨by cases e <;> rfl, fun g => by cases e <;> cases g <;> rfl, by cases e <;> simp [Epc.enterNone, Epc.onEng]⟩

theorem PlanMoved.startingTests (hplan : k.plan = .starting) : PlanMoved k k.startingTests := by
  unfold Epc.startingTests
  split
  · exact .refl k
  · split
    · exact .startTimedOut hplan _
    · exact ⟨rfl, fun g => by cases g <;> rfl, by simp⟩

theorem PlanMoved.planTests (h1 h2 d : Nat) : PlanMoved k (k.planTests c h1 h2 d) := by
  unfold Epc.planTests
  split
  · exact .refl k
  · exact .twinTests h1 h2
  next hplan => exact .cooldownTests hplan
  · exact .singleTests h1 h2 d
  next hplan => exact .startingTests hplan

theorem PlanMoved.counts {q : Epc} (h : PlanMoved k q) :
    q.filter = k.filter ∧ q.dwell = k.dwell ∧ q.neutralCount = k.neutralCount ∧ q.idle = k.idle := by
  rw [h.frame]
  exact ⟨rfl, rfl, rfl, rfl⟩

theorem PlanMoved.excluded {q : Epc} (h : PlanMoved k q) (g : Engine) : (q.eng g).excluded = (k.eng g).excluded := by
  rw [h.eng]

theorem PlanMoved.capped {q : Epc} (h : PlanMoved k q) : q.capped = k.capped := by
  have h1 : q.e1.excluded = k.e1.excluded := h.excluded .e1
  have h2 : q.e2.excluded = k.e2.excluded := h.excluded .e2
  have hcap : q.capEconomy = k.capEconomy := by rw [h.frame]
  rw [Epc.capped, Epc.capped, hcap, h1, h2]

end

/-! ### The interval at the machine (R127) -/

/-- START_FAILED of a start that times out (R123). -/
def timeoutReports (p : Epc) : List Instr :=
  match p.starting with
  | some e =>
    if p.startTimesOut then
      [.faultReport { code := .startFailed, clearing := false, detail := engineNumber e, frame := none }]
    else []
  | none => []

theorem State.reportStart_eq (p : Epc) (s : State) :
    s.reportStart p = { s with inFlight := s.inFlight ++ timeoutReports p } := by
  unfold State.reportStart timeoutReports
  cases p.starting with
  | none => simp
  | some e =>
    by_cases h : p.startTimesOut = true
    · simp [h, State.report, State.deliver]
    · simp [h]

theorem State.handDemands_portA (s : State) : s.handDemands.portA = s.portA := rfl

theorem State.handDemands_sli (s : State) : s.handDemands.sli = s.sli := rfl

theorem State.handDemands_epc (s : State) : s.handDemands.epc = s.epc := rfl

theorem State.handDemands_inFlight (s : State) : s.handDemands.inFlight = s.inFlight := rfl

/-- The EPC at the end of a plan interval. -/
abbrev State.intervalEpc (s : State) : Epc :=
  s.epc.onInterval s.settings.epc (s.smu.meters.getD 0 0) (s.smu.meters.getD 1 0)

/-- The event of a plan interval, before its ENGINE_DEMANDs are handed on. -/
def State.intervalEvent (s : State) : State :=
  State.epcEvent (Epc.onInterval s.settings.epc (s.smu.meters.getD 0 0) (s.smu.meters.getD 1 0))
    { s with inFlight := s.inFlight ++ timeoutReports s.epc }

theorem exec_planInterval {s : State} (on : s.supply = true) :
    exec .planIntervalExpiry s = .next s.intervalEvent.handDemands := by
  have hexec : exec .planIntervalExpiry s = .next s.planInterval := next_of_on on rfl
  rw [hexec, State.planInterval, State.reportStart_eq]
  rfl

theorem Epc.counted_capped (c : EpcCfg) (p : Epc) : (p.counted c).capped = p.capped := by rw [Epc.counted_eq]; rfl

theorem PlanMoved.interval (c : EpcCfg) (p : Epc) (h1 h2 : Nat) : PlanMoved (p.counted c) (p.onInterval c h1 h2) := by
  rw [Epc.onInterval_eq]
  exact .planTests _ _ _

/-- The EPC at the end of a plan interval, commands re-formed, from what it was (R113, R116, R118, R119). -/
theorem Epc.reform_interval_frame (c : EpcCfg) (p : Epc) (h1 h2 : Nat) :
    let q := (p.onInterval c h1 h2).reform c
    q = { p with
      e1 := q.e1, e2 := q.e2, plan := q.plan, lead := q.lead, starting := q.starting, swap := q.swap
      startTimer := q.startTimer, cooldown := q.cooldown, lowCount := q.lowCount, dwell := q.dwell, filter := q.filter
      neutralCount := q.neutralCount, idle := q.idle, allowance := q.allowance } := by
  obtain ⟨q, hq⟩ : ∃ q, p.onInterval c h1 h2 = q := ⟨_, rfl⟩
  have hframe := (PlanMoved.interval c p h1 h2).frame
  rw [hq] at hframe ⊢
  have hcounted := (Epc.counted_eq c p).symm
  rw [← hcounted] at hframe
  exact congrArg (fun r : Epc => { r with
    e1 := (q.reform c).e1, e2 := (q.reform c).e2, dwell := q.dwell, filter := q.filter, neutralCount := q.neutralCount
    idle := q.idle, allowance := (q.reform c).allowance }) hframe

theorem Epc.reform_interval_eng (c : EpcCfg) (p : Epc) (h1 h2 : Nat) (g : Engine) :
    let q := (p.onInterval c h1 h2).reform c
    q.eng g = { p.eng g with
      failed := (q.eng g).failed, run := (q.eng g).run, cmdSpeed := (q.eng g).cmdSpeed
      hasRun := (p.eng g).hasRun && (q.eng g).run } := by
  have heng := (PlanMoved.interval c p h1 h2).eng g
  have hsame : (p.counted c).eng g = p.eng g := by
    rw [Epc.counted_eq]
    cases g <;> rfl
  rw [hsame] at heng
  dsimp only
  rw [Epc.reform_eng, Epc.command_eq, heng, Bool.and_comm]

theorem State.intervalEvent_epc (s : State) : s.intervalEvent.epc = s.intervalEpc.reform s.settings.epc :=
  (State.epcEvent_from _ _ s).1

theorem State.intervalEvent_frame (s : State) : s.intervalEvent = { s with
    epc := s.intervalEvent.epc, inFlight := s.intervalEvent.inFlight, portA := s.intervalEvent.portA
    sli := s.intervalEvent.sli } := (State.epcEvent_from _ _ s).2.2.1

theorem State.intervalEvent_inFlight (s : State) : s.intervalEvent.inFlight = s.inFlight ++ timeoutReports s.epc :=
  (State.epcEvent_from _ _ s).2.1

theorem State.intervalEpc_moved (s : State) : PlanMoved (s.epc.counted s.settings.epc) s.intervalEpc :=
  PlanMoved.interval _ _ _ _

theorem State.intervalEvent_notices (s : State) :
    noticesRaised (planNotices s.epc s.intervalEvent.epc) (planNotices s.epc s.intervalEvent.epc) s s.intervalEvent :=
  State.epcEvent_planNotices (Epc.onInterval s.settings.epc (s.smu.meters.getD 0 0) (s.smu.meters.getD 1 0))
    (s.inFlight ++ timeoutReports s.epc) s (s.intervalEpc_moved.capped.trans (s.epc.counted_capped _))

/-- Settles O42: the counts of the interval, what the tests of the plan leave of them, and the two frames. -/
theorem planIntervalFiltersAndDemands : Obligations.PlanIntervalFiltersAndDemands := by
  intro s on
  have hepc := s.intervalEvent_epc
  have hepcNext : s.intervalEvent.handDemands.epc = s.intervalEpc.reform s.settings.epc :=
    s.intervalEvent.handDemands_epc.trans hepc
  have hstate := s.intervalEvent_frame
  have hmoved := s.intervalEpc_moved
  have hcounted := Epc.counted_eq s.settings.epc s.epc
  obtain ⟨hfilterKept, hdwellKept, hneutralKept, hidleKept⟩ := hmoved.counts
  have hfilter : s.intervalEvent.epc.filter = filterStep s.epc.filter (s.epc.rawDemand s.settings.epc) := by
    rw [hepc]
    exact hfilterKept.trans (by rw [hcounted])
  have hlow : s.intervalEvent.epc.lowCount = if s.epc.plan ≠ .twin ∧ s.intervalEvent.epc.plan = .twin then 0
      else (s.epc.counted s.settings.epc).lowCount := by
    rw [hepc]
    have h := hmoved.low
    rw [show (s.epc.counted s.settings.epc).plan = s.epc.plan by rw [hcounted]] at h
    exact h
  have hlowCounted : (s.epc.counted s.settings.epc).lowCount =
      if s.epc.hold then 0
      else if s.epc.plan = .twin then
        (if s.intervalEvent.epc.filter / 8 < s.settings.epc.singleEnter then min 65535 (s.epc.lowCount + 1) else 0)
      else s.epc.lowCount := by
    rw [hfilter, hcounted]
  have hidling : s.epc.idling = true ↔ s.epc.autoIdle = true ∧ s.epc.pcu = .fresh ∧ s.epc.neutral = true := by
    simp [Epc.idling, and_assoc]
  have hneutral : s.intervalEvent.epc.neutralCount
      = if s.epc.idling then min 65535 (s.epc.neutralCount + 1) else s.epc.neutralCount := by
    rw [hepc]
    exact hneutralKept.trans (by rw [hcounted])
  have hidle : s.intervalEvent.epc.idle
      = if s.epc.idling then s.epc.idle || decide (s.settings.epc.idleDelay ≤ min 65535 (s.epc.neutralCount + 1))
        else s.epc.idle := by
    rw [hepc]
    exact hidleKept.trans (by rw [hcounted])
  refine ⟨s.intervalEvent.handDemands, exec_planInterval on, hfilter, ?dwell, fun h1 h2 h3 => ?counts,
    fun h => ?idle, fun h => ?_, fun h hplan => ?_, fun h hplan => ?_, ?frame, fun g => ?eng, ?portB, ?state, ?notices⟩
  case dwell =>
    show s.intervalEvent.epc.dwell = _
    rw [hepc]
    exact hdwellKept.trans (by rw [hcounted])
  case counts =>
    have hi := hidling.2 ⟨h1, h2, h3⟩
    rw [if_pos hi] at hneutral hidle
    refine ⟨hneutral, ?_⟩
    show s.intervalEvent.epc.idle = true ↔ _ ∨ _ ≤ s.intervalEvent.epc.neutralCount
    rw [hidle, hneutral]
    simp
  case idle =>
    have hi : ¬s.epc.idling = true := fun hi => by
      obtain ⟨h1, h2, h3⟩ := hidling.1 hi
      simp [h1, h2, h3] at h
    rw [if_neg hi] at hneutral hidle
    exact ⟨hneutral, hidle⟩
  · show s.intervalEvent.epc.lowCount = 0
    rw [hlow, hlowCounted, if_pos h, ite_self]
  · show s.intervalEvent.epc.lowCount = _
    rw [hlow, hlowCounted]
    simp [h, hplan]
    rfl
  · show s.intervalEvent.epc.lowCount = if s.intervalEvent.epc.plan = .twin then 0 else _
    rw [hlow, hlowCounted]
    simp [h, hplan]
  case frame =>
    rw [hepcNext]
    exact Epc.reform_interval_frame _ _ _ _
  case eng =>
    rw [hepcNext]
    exact Epc.reform_interval_eng _ _ _ _ g
  case portB =>
    have hport : s.intervalEvent.portB = s.portB := by rw [hstate]
    have hsettings : s.intervalEvent.settings = s.settings := by rw [hstate]
    unfold State.handDemands
    rw [State.handDemand_portB, State.handDemand_portB, hport]
    rw [show (State.handDemand (s.intervalEvent.epc.demandFor s.intervalEvent.settings.epc .e1)
      s.intervalEvent).settings = s.settings from hsettings, hsettings]
    rfl
  case state =>
    exact congrArg (fun u : State => { u with portB := s.intervalEvent.handDemands.portB }) hstate
  case notices =>
    rw [hepcNext, ← hepc]
    exact noticesRaised_congr s.intervalEvent_notices rfl rfl s.intervalEvent.handDemands_portA
      s.intervalEvent.handDemands_sli

end Sys2Proof.Machine
end

/-! ## The plan interval: how the plan moves (O43) -/

section
namespace Sys2Proof.Machine

open Sys2Proof

/-! ### The tests of the plan states (R120 to R124) -/

section
variable (c : EpcCfg) (k : Epc)

theorem Epc.running_iff (e : Engine) : k.running e = true ↔ (k.eng e).reported = .running := beq_iff_eq

theorem Epc.cooldownDue_iff : k.cooldownDue c = true ↔
    k.autoSingle = true ∧ k.hold = false ∧ (∀ e, k.avail e = .available ∧ (k.eng e).reported = .running)
      ∧ c.downIntervals ≤ k.lowCount ∧ k.dwell = 0 := by
  have hboth : (∀ e, k.avail e = .available ∧ (k.eng e).reported = .running) ↔
      k.running .e1 = true ∧ k.running .e2 = true ∧ k.isAvailable .e1 = true ∧ k.isAvailable .e2 = true := by
    simp only [Epc.running_iff, Epc.isAvailable_iff]
    constructor
    · exact fun h => ⟨(h .e1).2, (h .e2).2, (h .e1).1, (h .e2).1⟩
    · rintro ⟨h1, h2, h3, h4⟩ e
      cases e
      · exact ⟨h3, h1⟩
      · exact ⟨h4, h2⟩
  rw [hboth]
  simp [Epc.cooldownDue, and_assoc]

theorem Epc.forcedLead_none (h : ∀ e, k.avail e ≠ .excluded) : k.forcedLead = none := by
  have h1 : k.isExcluded .e1 = false := by simpa [Epc.isExcluded] using h .e1
  have h2 : k.isExcluded .e2 = false := by simpa [Epc.isExcluded] using h .e2
  simp [Epc.forcedLead, h1, h2]

/-- R124: an engine EXCLUDED that has run leaves the other to cool it down, when that one is AVAILABLE and RUNNING. -/
theorem Epc.forcedLead_excluded {e : Engine} (h : k.avail e = .excluded) :
    k.forcedLead = if (k.eng e).hasRun = true ∧ k.avail (otherEngine e) = .available
      ∧ (k.eng (otherEngine e)).reported = .running then some (otherEngine e) else none := by
  have hother : k.avail (otherEngine e) ≠ .excluded := fun ho => otherEngine_ne e (Epc.excluded_unique h ho)
  cases e with
  | e1 =>
    have h1 : k.isExcluded .e1 = true := (k.isExcluded_iff .e1).2 h
    have hother : k.avail .e2 ≠ .excluded := hother
    have h2 : k.isExcluded .e2 = false := by simpa [Epc.isExcluded] using hother
    simp only [Epc.forcedLead, h1, h2, Bool.true_and, Bool.false_and, Bool.and_eq_true, Epc.isAvailable_iff,
      Epc.running_iff, and_assoc]
    rfl
  | e2 =>
    have h2 : k.isExcluded .e2 = true := (k.isExcluded_iff .e2).2 h
    have hother : k.avail .e1 ≠ .excluded := hother
    have h1 : k.isExcluded .e1 = false := by simpa [Epc.isExcluded] using hother
    simp only [Epc.forcedLead, h1, h2, Bool.true_and, Bool.false_and, Bool.and_eq_true, Epc.isAvailable_iff,
      Epc.running_iff, and_assoc]
    rfl

variable {c k} {h1 h2 d : Nat} {l e : Engine}

theorem Epc.twinTests_due (h : k.cooldownDue c = true) : k.twinTests c h1 h2 = k.enterCooldown c (lowerHours h1 h2) :=
  if_pos h

theorem Epc.twinTests_forced (h : k.cooldownDue c = false) (hl : k.forcedLead = some l) :
    k.twinTests c h1 h2 = k.enterCooldown c l := by
  simp [Epc.twinTests, h, hl]

theorem Epc.twinTests_stays (h : k.cooldownDue c = false) (hl : k.forcedLead = none) : k.twinTests c h1 h2 = k := by
  simp [Epc.twinTests, h, hl]

theorem Epc.cooldownTests_held (hl : k.lead = some l) (hhold : k.hold = true) : k.cooldownTests c = k := by
  simp [Epc.cooldownTests, hl, hhold]

theorem Epc.cooldownTests_demand (hl : k.lead = some l) (hhold : k.hold = false) (hd : c.twinEnter < k.filtered)
    (ho : k.avail (otherEngine l) ≠ .excluded) :
    k.cooldownTests c = Epc.enterTwin { k with cooldown := 0 } := by
  have hx : k.isExcluded (otherEngine l) = false := by simpa [Epc.isExcluded] using ho
  simp [Epc.cooldownTests, hl, hhold, hd, hx]

theorem Epc.cooldownTests_counts (hl : k.lead = some l) (hhold : k.hold = false)
    (h : k.filtered ≤ c.twinEnter ∨ k.avail (otherEngine l) = .excluded) :
    k.cooldownTests c = if k.cooldown - 1 = 0 then Epc.enterSingle l { k with cooldown := k.cooldown - 1 }
      else { k with cooldown := k.cooldown - 1 } := by
  have hnot : ¬(c.twinEnter < k.filtered ∧ (!k.isExcluded (otherEngine l)) = true) := by
    rintro ⟨hd, hx⟩
    obtain h | h := h
    · omega
    · rw [(k.isExcluded_iff _).2 h] at hx
      exact absurd hx (by decide)
  unfold Epc.cooldownTests
  rw [hl]
  dsimp only
  rw [if_neg (by simp [hhold]), if_neg hnot]

theorem Epc.singleTests_stays (hl : k.lead = some l) (h : k.hold = true ∨ k.avail (otherEngine l) ≠ .available) :
    k.singleTests c h1 h2 d = k := by
  have hcond : (k.hold || !k.isAvailable (otherEngine l)) = true := by simpa [Epc.isAvailable] using h
  unfold Epc.singleTests
  rw [hl]
  dsimp only
  rw [if_pos hcond]

theorem Epc.singleTests_free (hl : k.lead = some l) (hhold : k.hold = false)
    (ha : k.avail (otherEngine l) = .available) :
    k.singleTests c h1 h2 d =
      if c.twinEnter < k.filtered ∨ 95 * k.allowance < 100 * d then k.enterStarting c (otherEngine l) false
      else if hoursOf h1 h2 (otherEngine l) + c.balanceUnits < hoursOf h1 h2 l then
        k.enterStarting c (otherEngine l) true
      else k := by
  have hcond : ¬(k.hold || !k.isAvailable (otherEngine l)) = true := by simp [Epc.isAvailable, hhold, ha]
  unfold Epc.singleTests
  rw [hl]
  dsimp only
  rw [if_neg hcond]

theorem Epc.startTimesOut_iff (hplan : k.plan = .starting) (hs : k.starting = some e) :
    k.startTimesOut = true ↔ k.startTimer ≤ 1 := by
  simp [Epc.startTimesOut, hplan, hs]

theorem Epc.startingTests_out (hplan : k.plan = .starting) (hs : k.starting = some e) (h : k.startTimer ≤ 1) :
    k.startingTests = k.startTimedOut e := by
  simp [Epc.startingTests, hs, (Epc.startTimesOut_iff hplan hs).2 h]

theorem Epc.startingTests_counts (hplan : k.plan = .starting) (hs : k.starting = some e) (h : 2 ≤ k.startTimer) :
    k.startingTests = { k with startTimer := k.startTimer - 1 } := by
  have hnot : k.startTimesOut = false := by
    rw [← Bool.not_eq_true, Epc.startTimesOut_iff hplan hs]
    omega
  simp [Epc.startingTests, hs, hnot]

/-- R123: the other engine leads when AVAILABLE, runs alone when EXCLUDED, and with it FAILED the plan is none. -/
theorem Epc.startTimedOut_eq : k.startTimedOut e = match k.avail (otherEngine e) with
    | .available => Epc.enterSingle (otherEngine e) { k.failedNow e with swap := false, startTimer := 0 }
    | .excluded => Epc.enterTwin { k.failedNow e with swap := false, startTimer := 0 }
    | .failed => Epc.enterNone { k.failedNow e with swap := false, startTimer := 0 } := by
  have havail : Epc.avail { k.failedNow e with swap := false, startTimer := 0 } (otherEngine e)
      = k.avail (otherEngine e) := by cases e <;> rfl
  unfold Epc.startTimedOut
  dsimp only
  rewrite [havail]
  cases k.avail (otherEngine e) <;> rfl

theorem Epc.startTimedOut_failed : ((k.startTimedOut e).eng e).failed = true := by
  rw [Epc.startTimedOut_eq]
  split <;> cases e <;> rfl

end

/-! ### What the tests read of the EPC before the interval -/

/-- The tests read the plan, its engines and their records as they stand before the interval. -/
structure CountedFrom (c : EpcCfg) (p k : Epc) : Prop where
  plan : k.plan = p.plan
  lead : k.lead = p.lead
  starting : k.starting = p.starting
  hold : k.hold = p.hold
  autoSingle : k.autoSingle = p.autoSingle
  cooldown : k.cooldown = p.cooldown
  startTimer : k.startTimer = p.startTimer
  allowance : k.allowance = p.allowance
  eng : ∀ e, k.eng e = p.eng e
  avail : ∀ e, k.avail e = p.avail e
  dwell : k.dwell = p.dwell - 1
  twinCount : p.hold = false → p.plan = .twin →
    k.lowCount = if k.filtered < c.singleEnter then min 65535 (p.lowCount + 1) else 0

theorem Epc.counted_from (c : EpcCfg) (p : Epc) : CountedFrom c p (p.counted c) := by
  rw [Epc.counted_eq]
  exact {
    plan := rfl, lead := rfl, starting := rfl, hold := rfl, autoSingle := rfl, cooldown := rfl, startTimer := rfl
    allowance := rfl
    eng := fun e => by cases e <;> rfl
    avail := fun e => by cases e <;> rfl
    dwell := rfl
    twinCount := fun hhold hplan => by
      show (if p.hold = true then _ else if p.plan = .twin then _ else _) = _
      rw [if_neg (by simp [hhold]), if_pos hplan]
      rfl }

section
variable {c : EpcCfg} {p : Epc} {h1 h2 : Nat}

theorem Epc.onInterval_none (h : p.plan = .none) : p.onInterval c h1 h2 = p.counted c := by
  have hplan := (p.counted_from c).plan.trans h
  rw [Epc.onInterval_eq, Epc.planTests, hplan]

theorem Epc.onInterval_twin (h : p.plan = .twin) : p.onInterval c h1 h2 = (p.counted c).twinTests c h1 h2 := by
  have hplan := (p.counted_from c).plan.trans h
  rw [Epc.onInterval_eq, Epc.planTests, hplan]

theorem Epc.onInterval_cooldown (h : p.plan = .cooldown) : p.onInterval c h1 h2 = (p.counted c).cooldownTests c := by
  have hplan := (p.counted_from c).plan.trans h
  rw [Epc.onInterval_eq, Epc.planTests, hplan]

theorem Epc.onInterval_single (h : p.plan = .single) :
    p.onInterval c h1 h2 = (p.counted c).singleTests c h1 h2 (p.rawDemand c) := by
  have hplan := (p.counted_from c).plan.trans h
  rw [Epc.onInterval_eq, Epc.planTests, hplan]

theorem Epc.onInterval_starting (h : p.plan = .starting) : p.onInterval c h1 h2 = (p.counted c).startingTests := by
  have hplan := (p.counted_from c).plan.trans h
  rw [Epc.onInterval_eq, Epc.planTests, hplan]

/-- R120: what the condition of a low-demand cooldown asks of the EPC before the interval. -/
theorem Epc.counted_due (hplan : p.plan = .twin) : (p.counted c).cooldownDue c = true ↔
    p.autoSingle = true ∧ p.hold = false ∧ (∀ e, p.avail e = .available ∧ (p.eng e).reported = .running)
      ∧ c.downIntervals ≤ (if (p.counted c).filtered < c.singleEnter then min 65535 (p.lowCount + 1) else 0)
      ∧ p.dwell ≤ 1 := by
  have hk := p.counted_from c
  rw [Epc.cooldownDue_iff, hk.autoSingle, hk.hold, hk.dwell]
  simp only [hk.avail, hk.eng]
  have hdwell : p.dwell - 1 = 0 ↔ p.dwell ≤ 1 := by omega
  rw [hdwell]
  refine and_congr_right fun _ => and_congr_right fun hhold => ?_
  rw [hk.twinCount hhold hplan]

end

/-- The engines of the statement, and their hours. -/
theorem otherEngine_eq (e : Engine) : (if e = .e1 then Engine.e2 else .e1) = otherEngine e := by cases e <;> rfl

theorem hoursOf_eq (h1 h2 : Nat) (e : Engine) : (if e = .e1 then h1 else h2) = hoursOf h1 h2 e := by cases e <;> rfl

/-! ### The interval in each plan state -/

/-- What a plan interval leaves of the plan, in the EPC `q` with its commands re-formed, in PLAN_TWIN (R120, R124). -/
theorem Epc.interval_twin (c : EpcCfg) (p : Epc) (h1 h2 : Nat) (hplan : p.plan = .twin) :
    let q := p.onInterval c h1 h2
    (p.autoSingle = true → p.hold = false → p.dwell ≤ 1 → c.downIntervals ≤ min 65535 (p.lowCount + 1) →
      (p.counted c).filtered < c.singleEnter → (∀ e, p.avail e = .available ∧ (p.eng e).reported = .running) →
      q.plan = .cooldown ∧ q.lead = some (lowerHours h1 h2) ∧ q.cooldown = c.cooldownIntervals)
    ∧ (∀ e, p.avail e = .excluded → (p.eng e).hasRun = true → p.avail (otherEngine e) = .available →
      (p.eng (otherEngine e)).reported = .running →
      q.plan = .cooldown ∧ q.lead = some (otherEngine e) ∧ q.cooldown = c.cooldownIntervals)
    ∧ ((∀ e, p.avail e ≠ .excluded) →
      p.autoSingle = false ∨ p.hold = true ∨ 2 ≤ p.dwell
        ∨ c.singleEnter ≤ (p.counted c).filtered ∧ 1 ≤ c.downIntervals
        ∨ (p.counted c).filtered < c.singleEnter ∧ p.lowCount + 1 < c.downIntervals
        ∨ (∃ e, p.avail e ≠ .available ∨ (p.eng e).reported ≠ .running) →
      q.plan = .twin ∧ q.lead = p.lead)
    ∧ ∀ e, p.avail e = .excluded →
      (p.eng e).hasRun = false ∨ p.avail (otherEngine e) ≠ .available ∨ (p.eng (otherEngine e)).reported ≠ .running →
      q.plan = .twin ∧ q.lead = p.lead := by
  have hk := p.counted_from c
  have hdue := p.counted_due (c := c) hplan
  have hstays : (p.counted c).cooldownDue c = false → (p.counted c).forcedLead = none →
      (p.onInterval c h1 h2).plan = .twin ∧ (p.onInterval c h1 h2).lead = p.lead := fun hd hf => by
    rw [Epc.onInterval_twin hplan, Epc.twinTests_stays hd hf]
    exact ⟨hk.plan.trans hplan, hk.lead⟩
  have hnotDue : ∀ e, p.avail e = .excluded → (p.counted c).cooldownDue c = false := fun e he => by
    rw [← Bool.not_eq_true, hdue]
    rintro ⟨_, _, hboth, _⟩
    exact nomatch (hboth e).1.symm.trans he
  have hforced : ∀ e, p.avail e = .excluded → (p.counted c).forcedLead =
      if (p.eng e).hasRun = true ∧ p.avail (otherEngine e) = .available ∧ (p.eng (otherEngine e)).reported = .running
      then some (otherEngine e) else none := fun e he => by
    rw [Epc.forcedLead_excluded _ ((hk.avail e).trans he), hk.eng, hk.avail, hk.eng]
  refine ⟨fun hauto hhold hdwell hcount hlow hboth => ?_, fun e he hrun ha hr => ?_, fun hnone h => ?_, fun e he h =>
    ?_⟩
  · have hd := hdue.2 ⟨hauto, hhold, hboth, by rwa [if_pos hlow], hdwell⟩
    rw [Epc.onInterval_twin hplan, Epc.twinTests_due hd]
    exact ⟨rfl, rfl, rfl⟩
  · have hf := (hforced e he).trans (if_pos ⟨hrun, ha, hr⟩)
    rw [Epc.onInterval_twin hplan, Epc.twinTests_forced (hnotDue e he) hf]
    exact ⟨rfl, rfl, rfl⟩
  · refine hstays ?_ (Epc.forcedLead_none _ fun e => by rw [hk.avail]; exact hnone e)
    rw [← Bool.not_eq_true, hdue]
    rintro ⟨hauto, hhold, hboth, hcount, hdwell⟩
    obtain h | h | h | ⟨h, hd⟩ | ⟨h, hd⟩ | ⟨e, h⟩ := h
    · exact nomatch hauto.symm.trans h
    · exact nomatch hhold.symm.trans h
    · omega
    · rw [if_neg (by omega)] at hcount
      omega
    · rw [if_pos h] at hcount
      omega
    · exact h.elim (fun h => h (hboth e).1) fun h => h (hboth e).2
  · refine hstays (hnotDue e he) ((hforced e he).trans (if_neg ?_))
    rintro ⟨hrun, ha, hr⟩
    simp [hrun, ha, hr] at h

/-- Settles O43: the tests of each plan state, on the EPC with its counts kept. -/
theorem planIntervalMovesThePlan : Obligations.PlanIntervalMovesThePlan := by
  intro s on c other raw hours
  have hk := s.epc.counted_from c
  have hepc : s.intervalEvent.handDemands.epc = s.intervalEpc.reform c :=
    s.intervalEvent.handDemands_epc.trans s.intervalEvent_epc
  have hflight : s.intervalEvent.handDemands.inFlight = s.inFlight ++ timeoutReports s.epc :=
    s.intervalEvent.handDemands_inFlight.trans s.intervalEvent_inFlight
  obtain ⟨t, ht⟩ : ∃ t, s.intervalEvent.handDemands = t := ⟨_, rfl⟩
  obtain ⟨k, hkk⟩ : ∃ k, s.epc.counted c = k := ⟨_, rfl⟩
  have hfiltered : t.epc.filter / 8 = k.filtered := by
    rw [← ht, ← hkk, hepc]
    exact congrArg (· / 8) s.intervalEpc_moved.counts.1
  have hnext := exec_planInterval on
  rw [ht] at hnext hepc hflight
  have hplan : t.epc.plan = s.intervalEpc.plan := by rw [hepc]; rfl
  have hlead : t.epc.lead = s.intervalEpc.lead := by rw [hepc]; rfl
  have hcool : t.epc.cooldown = s.intervalEpc.cooldown := by rw [hepc]; rfl
  have hother : ∀ e, other e = otherEngine e := otherEngine_eq
  have hhours : ∀ e, hours e = hoursOf (s.smu.meters.getD 0 0) (s.smu.meters.getD 1 0) e :=
    fun e => hoursOf_eq (s.smu.meter 0) (s.smu.meter 1) e
  rw [hkk] at hk
  refine ⟨t, hnext, fun h => ?none, ?due, ?forced, ?stays, ?excluded, fun l h hl => ?cooldown, fun l h hl => ?single,
    fun e h hs htimer => ?out, fun e h hs htimer => ?counts⟩
  case none =>
    rw [hplan, hlead, State.intervalEpc, Epc.onInterval_none h, hkk]
    exact ⟨hk.plan.trans h, hk.lead⟩
  case due =>
    intro h hauto hhold hdwell hcount hlow hboth
    rw [hplan, hlead, hcool]
    obtain ⟨hdue, -⟩ := s.epc.interval_twin c (s.smu.meters.getD 0 0) (s.smu.meters.getD 1 0) h
    exact hdue hauto hhold hdwell hcount (by rw [hkk, ← hfiltered]; exact hlow) hboth
  case forced =>
    intro e h he hrun ha hr
    rw [hother] at ha hr
    rw [hplan, hlead, hcool, hother]
    obtain ⟨-, hforced, -⟩ := s.epc.interval_twin c (s.smu.meters.getD 0 0) (s.smu.meters.getD 1 0) h
    exact hforced e he hrun ha hr
  case stays =>
    intro h hnone hcond
    rw [hplan, hlead]
    obtain ⟨-, -, hstays, -⟩ := s.epc.interval_twin c (s.smu.meters.getD 0 0) (s.smu.meters.getD 1 0) h
    exact hstays hnone (by rw [hkk, ← hfiltered]; exact hcond)
  case excluded =>
    intro e h he hcond
    rw [hother] at hcond
    rw [hplan, hlead]
    obtain ⟨-, -, -, hexcluded⟩ := s.epc.interval_twin c (s.smu.meters.getD 0 0) (s.smu.meters.getD 1 0) h
    exact hexcluded e he hcond
  case cooldown =>
    have hq : s.intervalEpc = k.cooldownTests c := by rw [State.intervalEpc, Epc.onInterval_cooldown h, hkk]
    have hkl : k.lead = some l := hk.lead.trans hl
    rw [hplan, hlead, hcool, hfiltered, hother, hq]
    refine ⟨fun hhold => ?_, fun hhold hd ho => ?_, fun hhold hcond => ?_⟩
    · rw [Epc.cooldownTests_held hkl (hk.hold.trans hhold)]
      exact ⟨hk.plan.trans h, hkl, hk.cooldown⟩
    · have hlow : t.epc.lowCount = (k.cooldownTests c).lowCount := by rw [hepc, hq]; rfl
      rw [hlow, Epc.cooldownTests_demand hkl (hk.hold.trans hhold) hd (by rwa [hk.avail])]
      exact ⟨rfl, rfl, rfl, rfl⟩
    · rw [Epc.cooldownTests_counts hkl (hk.hold.trans hhold) (by rwa [hk.avail]), hk.cooldown]
      by_cases hend : s.epc.cooldown ≤ 1
      · rw [if_pos (by omega), if_pos hend]
        exact ⟨rfl, rfl, rfl⟩
      · rw [if_neg (by omega), if_neg hend]
        exact ⟨hkl, rfl, hk.plan.trans h⟩
  case single =>
    have hq : s.intervalEpc = k.singleTests c (s.smu.meters.getD 0 0) (s.smu.meters.getD 1 0) raw := by
      rw [State.intervalEpc, Epc.onInterval_single h, hkk]
      rfl
    have hstart : t.epc.starting = s.intervalEpc.starting := by rw [hepc]; rfl
    have hswap : t.epc.swap = s.intervalEpc.swap := by rw [hepc]; rfl
    have htimer : t.epc.startTimer = s.intervalEpc.startTimer := by rw [hepc]; rfl
    have hkl : k.lead = some l := hk.lead.trans hl
    rw [hplan, hlead, hstart, hswap, htimer, hfiltered, hother, hhours, hhours, hq]
    by_cases hfree : s.epc.hold = false ∧ s.epc.avail (otherEngine l) = .available
    · obtain ⟨hhold, ha⟩ := hfree
      rw [Epc.singleTests_free hkl (hk.hold.trans hhold) ((hk.avail _).trans ha), hk.allowance]
      by_cases hdemand : c.twinEnter < k.filtered ∨ 95 * s.epc.allowance < 100 * raw
      · rw [if_pos hdemand]
        refine ⟨hkl, fun h => by simp [hhold, ha] at h, fun _ _ => ⟨fun _ => ⟨rfl, rfl, rfl, rfl⟩, fun h1 h2 => ?_⟩⟩
        omega
      · rw [if_neg hdemand]
        by_cases hlong : hoursOf (s.smu.meters.getD 0 0) (s.smu.meters.getD 1 0) (otherEngine l) + c.balanceUnits
            < hoursOf (s.smu.meters.getD 0 0) (s.smu.meters.getD 1 0) l
        · rw [if_pos hlong]
          exact ⟨hkl, fun h => by simp [hhold, ha] at h, fun _ _ => ⟨fun h => absurd h hdemand,
            fun _ _ => ⟨fun _ => ⟨rfl, rfl, rfl, rfl⟩, fun h => absurd hlong h.not_gt⟩⟩⟩
        · rw [if_neg hlong]
          exact ⟨hkl, fun _ => hk.plan.trans h, fun _ _ => ⟨fun h => absurd h hdemand,
            fun _ _ => ⟨fun h => absurd h hlong, fun _ => hk.plan.trans h⟩⟩⟩
    · have hnot : s.epc.hold = true ∨ s.epc.avail (otherEngine l) ≠ .available := by
        rw [not_and_or] at hfree
        simpa using hfree
      rw [Epc.singleTests_stays hkl (by rwa [hk.hold, hk.avail])]
      exact ⟨hkl, fun _ => hk.plan.trans h, fun hhold ha => absurd ⟨hhold, ha⟩ hfree⟩
  case out =>
    have hq : s.intervalEpc = k.startTimedOut e := by
      rw [State.intervalEpc, Epc.onInterval_starting h, hkk]
      exact Epc.startingTests_out (hk.plan.trans h) (hk.starting.trans hs) (hk.startTimer.trans_le htimer)
    have hfailed : (t.epc.eng e).failed = true := by
      rw [hepc, Epc.reform_failed, hq, Epc.startTimedOut_failed]
    have hrun : (t.epc.eng e).run = false := by
      rw [hepc, Epc.reform_run]
      refine Epc.runFor_stopped _ e (.inr ((Epc.avail_failed _ e).2 ?_))
      rw [hq, Epc.startTimedOut_failed]
    have hstart : t.epc.starting = s.intervalEpc.starting := by rw [hepc]; rfl
    have hswap : t.epc.swap = s.intervalEpc.swap := by rw [hepc]; rfl
    have hreport : timeoutReports s.epc =
        [.faultReport { code := .startFailed, clearing := false, detail := engineNumber e, frame := none }] := by
      rw [timeoutReports, hs]
      exact if_pos ((Epc.startTimesOut_iff h hs).2 htimer)
    rw [hplan, hlead, hstart, hswap, hother, hq, Epc.startTimedOut_eq, hk.avail, hflight, hreport]
    refine ⟨hfailed, hrun, ?_⟩
    have hmem : ∀ x : Instr, x ∈ s.inFlight ++ [x] := fun x => List.mem_append_right _ (List.mem_singleton_self x)
    cases s.epc.avail (otherEngine e) with
    | available => exact ⟨nofun, rfl, rfl, fun _ => ⟨rfl, rfl⟩, nofun, nofun, hmem _⟩
    | excluded => exact ⟨nofun, rfl, rfl, nofun, fun _ => ⟨rfl, rfl⟩, nofun, hmem _⟩
    | failed => exact ⟨nofun, rfl, rfl, nofun, nofun, fun _ => ⟨rfl, rfl⟩, hmem _⟩
  case counts =>
    have hq : s.intervalEpc = { k with startTimer := k.startTimer - 1 } := by
      rw [State.intervalEpc, Epc.onInterval_starting h, hkk]
      exact Epc.startingTests_counts (hk.plan.trans h) (hk.starting.trans hs) (by rw [hk.startTimer]; exact htimer)
    have hnot : ¬s.epc.startTimesOut = true := by
      rw [Epc.startTimesOut_iff h hs]
      omega
    have htimer : t.epc.startTimer = s.intervalEpc.startTimer := by rw [hepc]; rfl
    rw [hplan, hlead, htimer, hq, hflight, timeoutReports, hs]
    dsimp only
    rw [if_neg hnot, List.append_nil]
    exact ⟨hk.plan.trans h, congrArg (· - 1) hk.startTimer, hk.lead, rfl⟩

end Sys2Proof.Machine
end

/-! ## Consequences, the hold and the requests at the engine plan controller (O44, O45) -/

section
namespace Sys2Proof.Machine

open Sys2Proof

/-! ### An engine that becomes EXCLUDED (R124) -/

section
variable (c : EpcCfg) (e : Engine) (p : Epc)

/-- R124 moves the plan and nothing else. -/
theorem Epc.becameExcluded_frame : p.becameExcluded c e =
    let q := p.becameExcluded c e
    { p with
      plan := q.plan, lead := q.lead, starting := q.starting, swap := q.swap, startTimer := q.startTimer
      cooldown := q.cooldown, lowCount := q.lowCount } := by
  unfold Epc.becameExcluded
  split
  · split
    · split <;> rfl
    · split <;> rfl
  · split <;> rfl
  · split
    · split <;> rfl
    · rfl
  · rfl
  · rfl

variable {c e p}

theorem Epc.becameExcluded_started (hplan : p.plan = .starting) (hs : p.starting = some e) :
    p.becameExcluded c e =
      if p.avail (otherEngine e) = .available then
        Epc.enterSingle (otherEngine e) { p with swap := false, startTimer := 0 }
      else Epc.enterTwin { p with swap := false, startTimer := 0 } := by
  simp [Epc.becameExcluded, hplan, hs, Epc.isAvailable_iff]

theorem Epc.becameExcluded_swapped (hplan : p.plan = .starting) (hs : p.starting = some (otherEngine e))
    (hl : p.lead = some e) : p.becameExcluded c e = { p with lead := some (otherEngine e), swap := true } := by
  simp [Epc.becameExcluded, hplan, hs, hl, otherEngine_ne]

theorem Epc.becameExcluded_cooling (hplan : p.plan = .cooldown) (hl : p.lead = some e) :
    p.becameExcluded c e = p.enterCooldown c (otherEngine e) := by
  simp [Epc.becameExcluded, hplan, hl]

theorem Epc.becameExcluded_leading (hplan : p.plan = .single) (hl : p.lead = some e) :
    p.becameExcluded c e =
      if p.avail (otherEngine e) = .available ∧ p.hold = false then
        Epc.enterStarting c (otherEngine e) true { p with lead := some (otherEngine e) }
      else p.enterTwin := by
  simp [Epc.becameExcluded, hplan, hl, Epc.isAvailable_iff]

theorem Epc.becameExcluded_stands (h : p.plan = .none ∨ p.plan = .twin ∨ (p.plan ≠ .starting ∧ p.lead ≠ some e)
    ∨ (p.plan = .starting ∧ p.starting = some (otherEngine e) ∧ p.lead ≠ some e)) : p.becameExcluded c e = p := by
  obtain h | h | ⟨h, hl⟩ | ⟨h, hs, hl⟩ := h
  · simp [Epc.becameExcluded, h]
  · simp [Epc.becameExcluded, h]
  · unfold Epc.becameExcluded
    split
    · contradiction
    · rw [if_neg hl]
    · rw [if_neg hl]
    · rfl
    · rfl
  · simp [Epc.becameExcluded, h, hs, hl, otherEngine_ne]

/-- The cases of R124, with the commands re-formed. -/
theorem Epc.becameExcluded_moves {o : Engine} (ho : o ≠ e) :
    exclusionMoves c e o p ((p.becameExcluded c e).reform c) := by
  obtain rfl := eq_other_of_ne ho
  refine ⟨fun hplan hs => ⟨fun ha => ?_, fun ha => ?_⟩, fun hplan hs hl => ?_, fun hplan hl => ?_,
    fun hplan hl => ⟨fun ha hhold => ?_, fun h => ?_⟩, fun h => ?_⟩
  · rw [Epc.becameExcluded_started hplan hs, if_pos ha]
    rfl
  · rw [Epc.becameExcluded_started hplan hs, if_neg ha]
    rfl
  · rw [Epc.becameExcluded_swapped hplan hs hl]
  · rw [Epc.becameExcluded_cooling hplan hl, Epc.enterCooldown]
    rw [← hplan]
  · rw [Epc.becameExcluded_leading hplan hl, if_pos ⟨ha, hhold⟩]
    rfl
  · rw [Epc.becameExcluded_leading hplan hl, if_neg (by rw [not_and_or]; simpa using h)]
    rfl
  · rw [Epc.becameExcluded_stands h]

/-! ### Changes of availability -/

variable {b : Epc}

theorem Epc.availChanged_moves (hkey : p.keyOff = false) (he : p.avail e = .excluded) (hb : b.avail e ≠ .excluded) :
    Epc.availChanged c b e p = p.becameExcluded c e := by
  have hx : p.isExcluded e = true := (p.isExcluded_iff e).2 he
  have hne : (b.avail e != p.avail e) = true := by simpa [he] using hb
  simp [Epc.availChanged, hkey, hne, hx]

theorem Epc.availChanged_stands (h : p.keyOff = true ∨ (p.avail e = .excluded → b.avail e = .excluded)) :
    Epc.availChanged c b e p = p := by
  by_cases he : p.avail e = .excluded
  · obtain hkey | hb := h
    · simp [Epc.availChanged, hkey]
    · simp [Epc.availChanged, hb he, he]
  · exact Epc.availChanged_of_not_excluded c b he

theorem Epc.applyAvail_stands (h : p.keyOff = true ∨ ∀ e, p.avail e = .excluded → b.avail e = .excluded) :
    Epc.applyAvail c b p = p := by
  have hstands : ∀ e, Epc.availChanged c b e p = p := fun e => Epc.availChanged_stands (h.imp_right fun h => h e)
  rw [Epc.applyAvail, hstands, hstands]

theorem Epc.applyAvail_moves (hkey : p.keyOff = false) (he : p.avail e = .excluded) (hb : b.avail e ≠ .excluded) :
    Epc.applyAvail c b p = p.becameExcluded c e := by
  rw [Epc.applyAvail_of_excluded c b he, Epc.availChanged_moves hkey he hb]

/-- R124 leaves the records, the cap mark and the mode request. -/
theorem Epc.availChanged_frame : (Epc.availChanged c b e p).e1 = p.e1 ∧ (Epc.availChanged c b e p).e2 = p.e2
    ∧ (Epc.availChanged c b e p).capEconomy = p.capEconomy ∧ (Epc.availChanged c b e p).modeReq = p.modeReq := by
  unfold Epc.availChanged
  split
  · rw [Epc.becameExcluded_frame]
    exact ⟨rfl, rfl, rfl, rfl⟩
  · exact ⟨rfl, rfl, rfl, rfl⟩

theorem Epc.applyAvail_frame : (Epc.applyAvail c b p).e1 = p.e1 ∧ (Epc.applyAvail c b p).e2 = p.e2
    ∧ (Epc.applyAvail c b p).capEconomy = p.capEconomy ∧ (Epc.applyAvail c b p).modeReq = p.modeReq := by
  obtain ⟨h1, h2, h3, h4⟩ := Epc.availChanged_frame (c := c) (b := b) (e := .e1) (p := p)
  obtain ⟨k1, k2, k3, k4⟩ := Epc.availChanged_frame (c := c) (b := b) (e := .e2) (p := Epc.availChanged c b .e1 p)
  exact ⟨k1.trans h1, k2.trans h2, k3.trans h3, k4.trans h4⟩

end

/-! ### The consequence summary and the hold (R111, R114, R129) -/

/-- The EPC with the flags and the mark of a consequence summary. -/
abbrev Epc.flagged (m : Consequences) (p : Epc) : Epc :=
  { p with
    capEconomy := m.capEconomy, e1 := { p.e1 with excluded := m.excludeE1 }
    e2 := { p.e2 with excluded := m.excludeE2 } }

theorem Epc.onSummary_eq (c : EpcCfg) (m : Consequences) (p : Epc) :
    p.onSummary c m = Epc.applyAvail c p (p.flagged m) := rfl

theorem Epc.onSummary_effMode (c : EpcCfg) (m : Consequences) (p : Epc) :
    ((p.onSummary c m).reform c).effMode =
      if m.capEconomy || (m.excludeE1 && m.excludeE2) then .economy else p.modeReq := by
  obtain ⟨h1, h2, hcap, hmode⟩ := Epc.applyAvail_frame (c := c) (b := p) (p := p.flagged m)
  rw [Epc.reform_effMode, Epc.onSummary_eq, Epc.effMode, Epc.capped, h1, h2, hcap, hmode]

theorem State.summary_taken (m : Consequences) (s : State) :
    let t := State.epcEvent (Epc.onSummary s.settings.epc m)
      { s with inFlight := s.inFlight.erase (.consequenceSummary m) }
    let c := s.settings.epc
    t = { s with epc := t.epc, portA := t.portA, sli := t.sli, inFlight := s.inFlight.erase (.consequenceSummary m) }
      ∧ noticesRaised (capNotices s.epc t.epc ++ planNotices s.epc t.epc) (planNotices s.epc t.epc) s t
      ∧ t.epc.e1.excluded = m.excludeE1 ∧ t.epc.e2.excluded = m.excludeE2 ∧ t.epc.capEconomy = m.capEconomy
      ∧ t.epc.effMode = (if m.capEconomy || (m.excludeE1 && m.excludeE2) then .economy else s.epc.modeReq)
      ∧ (s.epc.keyOff = true ∨ (∀ e, (s.epc.flagged m).avail e = .excluded → s.epc.avail e = .excluded) →
          t.epc = (s.epc.flagged m).reform c)
      ∧ ∀ e o : Engine, o ≠ e → s.epc.keyOff = false → (s.epc.flagged m).avail e = .excluded →
          s.epc.avail e ≠ .excluded → exclusionMoves c e o (s.epc.flagged m) t.epc := by
  intro t c
  obtain ⟨hepc, hflight, hstate, hnotices⟩ := State.epcEvent_from (Epc.onSummary s.settings.epc m)
    (s.inFlight.erase (.consequenceSummary m)) s
  change t.epc = _ at hepc
  change t.inFlight = _ at hflight
  change t = _ at hstate
  obtain ⟨h1, h2, hcap, -⟩ := Epc.applyAvail_frame (c := c) (b := s.epc) (p := s.epc.flagged m)
  refine ⟨?_, hnotices, ?_, ?_, ?_, ?_, fun h => ?_, fun e o ho hkey he hb => ?_⟩
  · rw [← hflight]
    exact hstate
  · rw [hepc, show ((s.epc.onSummary s.settings.epc m).reform s.settings.epc).e1.excluded
      = (s.epc.onSummary s.settings.epc m).e1.excluded from Epc.reform_excluded _ _ .e1]
    exact congrArg EngineRec.excluded h1
  · rw [hepc, show ((s.epc.onSummary s.settings.epc m).reform s.settings.epc).e2.excluded
      = (s.epc.onSummary s.settings.epc m).e2.excluded from Epc.reform_excluded _ _ .e2]
    exact congrArg EngineRec.excluded h2
  · rw [hepc]
    exact hcap
  · rw [hepc]
    exact Epc.onSummary_effMode _ _ _
  · rw [hepc, Epc.onSummary_eq, Epc.applyAvail_stands h]
  · rw [hepc, Epc.onSummary_eq, Epc.applyAvail_moves (p := s.epc.flagged m) hkey he hb]
    exact Epc.becameExcluded_moves ho

/-- Every step keeps the engines low in a hold. -/
theorem heldLowOk.step {s t : State} (hs : heldLowOk s) (h : step s = .next t) : heldLowOk t :=
  step_keeps heldLowKept.reads (by simp)
    (fun _ _ _ hq hexec => heldLowKept.exec_any (by simp) (fun _ _ hh => nomatch hh) hq hexec) s t hs h

/-- Settles O44: R124 for the engine that becomes EXCLUDED, and the commands re-formed with the hold mark. -/
theorem consequencesAndHoldReachThePlan : Obligations.ConsequencesAndHoldReachThePlan := by
  refine ⟨fun m s on => ?summary, fun s on => ?hold, fun s on => next_of_on on ?_, fun s t hs h => hs.step h⟩
  case summary =>
    obtain ⟨hstate, hnotices, h1, h2, hcap, hmode, hstands, hmoves⟩ := s.summary_taken m
    refine ⟨_, next_of_on on rfl, hstate, hnotices, h1, h2, hcap, fun h => ?_, fun hc h => ?_, hstands, hmoves⟩
    · exact hmode.trans (if_pos (by simpa using h))
    · exact hmode.trans (if_neg (by simpa [hc, imp_iff_not_or] using h))
  case hold =>
    have hnext : exec .epcHoldEntry s = .next { s with
        epc := Epc.reform s.settings.epc { s.epc with hold := true, lowCount := 0 }
        inFlight := s.inFlight.erase .epcHoldEntry } :=
      next_of_on on (State.epcEvent_plain _ (s.taken _) rfl rfl rfl)
    obtain ⟨hallow, -⟩ := Epc.reform_low s.settings.epc { s.epc with hold := true, lowCount := 0 } rfl
    refine ⟨_, hnext, rfl, rfl, rfl, rfl, rfl, hallow, fun e => ?_⟩
    show ((Epc.reform s.settings.epc { s.epc with hold := true, lowCount := 0 }).eng e).cmdSpeed
      = if ((Epc.reform s.settings.epc { s.epc with hold := true, lowCount := 0 }).eng e).run then _ else 0
    rw [Epc.reform_eng, Epc.command_eq]
    rfl
  · exact State.epcEvent_plain _ (s.taken _) rfl rfl rfl

/-! ### The requests (R111, R115, R126) -/

theorem engineOf_number (g : Engine) : engineOf (engineNumber g) = some g := by cases g <;> rfl

theorem engineOf_none {n : Nat} (h1 : n ≠ 1) (h2 : n ≠ 2) : engineOf n = none := by simp [engineOf, h1, h2]

theorem State.clearFailed_refused {n : Nat} {s : State} (h : engineOf n = none) :
    s.clearFailed n = s.answerPlain .refusedRange := by simp [State.clearFailed, h]

theorem State.clearFailed_sound {n : Nat} {g : Engine} {s : State} (h : engineOf n = some g)
    (hf : (s.epc.eng g).failed = false) : s.clearFailed n = s.answerPlain .refusedState := by
  simp [State.clearFailed, h, hf]

/-- The EPC with the failed flag of an engine cleared. -/
abbrev Epc.cleared (g : Engine) (p : Epc) : Epc := p.onEng g fun r => { r with failed := false }

theorem State.clearFailed_clears {n : Nat} {g : Engine} {s : State} (h : engineOf n = some g)
    (hf : (s.epc.eng g).failed = true) :
    s.clearFailed n = State.answerPlain .accepted (State.epcEvent
      (fun p => Epc.applyAvail s.settings.epc p (p.cleared g)) { s with inFlight := s.inFlight
        ++ [.faultReport { code := .engineLost, clearing := true, detail := n, frame := none }] }) := by
  simp only [State.clearFailed, h, hf, if_true]
  rfl

/-- Clearing the flag of an engine leaves the availability of the other. -/
theorem Epc.cleared_avail_other {g o : Engine} (ho : o ≠ g) (p : Epc) : (p.cleared g).avail o = p.avail o := by
  obtain rfl := eq_other_of_ne ho
  cases g <;> rfl

theorem Epc.cleared_capped (g : Engine) (p : Epc) : (p.cleared g).capped = p.capped := by cases g <;> rfl

theorem Epc.applyAvail_capped (c : EpcCfg) (b p : Epc) : (Epc.applyAvail c b p).capped = p.capped := by
  obtain ⟨h1, h2, hcap, -⟩ := Epc.applyAvail_frame (c := c) (b := b) (p := p)
  rw [Epc.capped, Epc.capped, h1, h2, hcap]

/-- Only the engine whose flag is cleared can become EXCLUDED by it. -/
theorem Epc.applyAvail_cleared {c : EpcCfg} {g : Engine} {p : Epc}
    (h : p.keyOff = true ∨ (p.cleared g).avail g ≠ .excluded) :
    Epc.applyAvail c p (p.cleared g) = p.cleared g := by
  have hkey : (p.cleared g).keyOff = p.keyOff := by cases g <;> rfl
  refine Epc.applyAvail_stands ((h.imp hkey.trans id).imp_right fun hg e he => ?_)
  by_cases heg : e = g
  · exact absurd (heg ▸ he) hg
  · exact (Epc.cleared_avail_other heg p).symm.trans he

theorem Epc.cleared_failed (g : Engine) (p : Epc) : ((p.cleared g).eng g).failed = false := by
  rw [Epc.onEng_same]

/-- An engine FAILED is not EXCLUDED, so one EXCLUDED with its flag cleared has become so. -/
theorem Epc.applyAvail_cleared_moves {c : EpcCfg} {g : Engine} {p : Epc} (hf : (p.eng g).failed = true)
    (hkey : p.keyOff = false) (he : (p.cleared g).avail g = .excluded) :
    Epc.applyAvail c p (p.cleared g) = (p.cleared g).becameExcluded c g := by
  refine Epc.applyAvail_moves ?_ he ?_
  · cases g <;> exact hkey
  · rw [(Epc.avail_failed p g).2 hf]
    nofun

theorem Epc.applyAvail_eng (c : EpcCfg) (b p : Epc) (e : Engine) : (Epc.applyAvail c b p).eng e = p.eng e := by
  obtain ⟨h1, h2, -⟩ := Epc.applyAvail_frame (c := c) (b := b) (p := p)
  cases e
  · exact h1
  · exact h2

/-! AUTO_SINGLE -/

theorem Epc.onAutoSingle_on {c : EpcCfg} {p : Epc} {on : Bool}
    (h : on = true ∨ (p.plan ≠ .cooldown ∧ p.plan ≠ .single)) :
    p.onAutoSingle c on = { p with autoSingle := on } := by
  unfold Epc.onAutoSingle
  dsimp only
  split
  · rfl
  next hon =>
    obtain ⟨hc, hs⟩ := h.resolve_left hon
    split
    · contradiction
    · contradiction
    · rfl

theorem Epc.onAutoSingle_cooldown {c : EpcCfg} {p : Epc} {l : Engine} (hplan : p.plan = .cooldown)
    (hl : p.lead = some l) : p.onAutoSingle c false =
      if p.avail (otherEngine l) = .excluded then { p with autoSingle := false }
      else Epc.enterTwin { p with autoSingle := false } := by
  simp [Epc.onAutoSingle, hplan, hl, Epc.isExcluded_iff]

theorem Epc.onAutoSingle_single {c : EpcCfg} {p : Epc} {l : Engine} (hplan : p.plan = .single)
    (hl : p.lead = some l) : p.onAutoSingle c false =
      if p.avail (otherEngine l) = .available then
        Epc.enterStarting c (otherEngine l) false { p with autoSingle := false }
      else { p with autoSingle := false } := by
  simp [Epc.onAutoSingle, hplan, hl, Epc.isAvailable_iff]

theorem Epc.onAutoSingle_capped (c : EpcCfg) (on : Bool) (p : Epc) : (p.onAutoSingle c on).capped = p.capped := by
  unfold Epc.onAutoSingle
  dsimp only
  split
  · rfl
  · split
    · split <;> rfl
    · split <;> rfl
    · rfl

theorem Epc.onAutoIdle_eq (on : Bool) (p : Epc) : p.onAutoIdle on = { p with
    autoIdle := on, idle := if on then p.idle else false, neutralCount := if on then p.neutralCount else 0 } := by
  cases on <;> rfl

/-- Settles O45: each request by its first check that fails. -/
theorem engineRequests : Obligations.EngineRequests := by
  intro k n v on s hon c cleared switched
  refine ⟨fun h1 h2 => next_of_on hon (State.clearFailed_refused (engineOf_none h1 h2)), ?clear, ?range, ?held, ?mode,
    fun h => next_of_on hon (if_pos h), fun h => ?auto, next_of_on hon ?idle⟩
  case clear =>
    rintro g rfl
    refine ⟨fun hf => next_of_on hon (State.clearFailed_sound (s := s.taken _) (engineOf_number g) hf), fun hf => ?_⟩
    obtain ⟨hepc, hflight, hstate, -⟩ := State.epcEvent_from (fun p => Epc.applyAvail c p (p.cleared g))
      (s.inFlight.erase (.clearFailed (engineNumber g))
        ++ [.faultReport { code := .engineLost, clearing := true, detail := engineNumber g, frame := none }]) s
    have hnotices := State.epcEvent_planNotices (fun p => Epc.applyAvail c p (p.cleared g))
      (s.inFlight.erase (.clearFailed (engineNumber g))
        ++ [.faultReport { code := .engineLost, clearing := true, detail := engineNumber g, frame := none }]) s
      ((Epc.applyAvail_capped _ _ _).trans (Epc.cleared_capped g _))
    refine ⟨_, next_of_on hon (State.clearFailed_clears (s := s.taken _)
      (engineOf_number g) hf), hstate, ?_, fun h => ?_,
      fun o ho hkey he => ?_, hnotices, hflight⟩
    · refine (congrArg (fun p : Epc => (p.eng g).failed) hepc).trans ?_
      show ((Epc.reform c (Epc.applyAvail c s.epc (s.epc.cleared g))).eng g).failed = false
      rw [Epc.reform_failed, Epc.applyAvail_eng, Epc.cleared_failed]
    · exact hepc.trans (congrArg (Epc.reform c) (Epc.applyAvail_cleared h))
    · have hmoved := hepc.trans (congrArg (Epc.reform c) (Epc.applyAvail_cleared_moves (c := c) hf hkey he))
      have hcases := Epc.becameExcluded_moves (c := c) (p := s.epc.cleared g) ho
      rw [← hmoved] at hcases
      exact hcases
  case range =>
    intro h
    have hout : within 0 2 v = false := (within_eq_false _ _ _).2 (by omega)
    exact next_of_on hon (if_pos (by simp [hout]))
  case held =>
    intro h0 h2 hhold
    have hin : within 0 2 v = true := (within_iff _ _ _).2 ⟨h0, h2⟩
    exact next_of_on hon ((if_neg (by simp [hin])).trans (if_pos hhold))
  case mode =>
    intro h0 h2 hhold
    have hin : within 0 2 v = true := (within_iff _ _ _).2 ⟨h0, h2⟩
    refine ⟨modeOf v, by rintro rfl; rfl, by rintro rfl; rfl, by rintro rfl; rfl, next_of_on hon ?_⟩
    refine (if_neg (by simp [hin])).trans ((if_neg (by simp [hhold])).trans ?_)
    exact congrArg (State.answerCab k .accepted) (State.epcEvent_plain _ (s.taken _) rfl rfl rfl)
  case auto =>
    obtain ⟨hepc, hflight, hstate, -⟩ := State.epcEvent_from (Epc.onAutoSingle c on)
      (s.inFlight.erase (.autoSingle k on)) s
    have hnotices := State.epcEvent_planNotices (Epc.onAutoSingle c on) (s.inFlight.erase (.autoSingle k on)) s
      (Epc.onAutoSingle_capped c on _)
    obtain ⟨t, ht⟩ : ∃ t, State.epcEvent (Epc.onAutoSingle c on)
      { s with inFlight := s.inFlight.erase (.autoSingle k on) } = t := ⟨_, rfl⟩
    rw [ht] at hepc hflight hstate hnotices
    refine ⟨t, next_of_on hon ((if_neg (by simp [h])).trans (congrArg
      (State.answerCab k .accepted) ht)), ?_, hnotices, fun hon => ?_, ?_⟩
    · rw [← hflight]
      exact hstate
    · exact hepc.trans (congrArg (Epc.reform c) (Epc.onAutoSingle_on hon))
    · intro l o ho hoff hl
      obtain rfl := eq_other_of_ne ho
      subst hoff
      refine ⟨fun hplan ha => hepc.trans (congrArg (Epc.reform c) ?_), fun hplan ha => hepc.trans
        (congrArg (Epc.reform c) ?_), fun hcase => hepc.trans (congrArg (Epc.reform c) ?_)⟩
      · rw [Epc.onAutoSingle_cooldown hplan hl, if_neg ha]
        rfl
      · rw [Epc.onAutoSingle_single hplan hl, if_pos ha]
        rfl
      · obtain ⟨hplan, ha⟩ | ⟨hplan, ha⟩ := hcase
        · rw [Epc.onAutoSingle_cooldown hplan hl, if_pos ha]
        · rw [Epc.onAutoSingle_single hplan hl, if_neg ha]
  case idle =>
    refine congrArg (State.answerCab k .accepted) ((State.epcEvent_plain _ (s.taken _) ?_ ?_ ?_).trans ?_)
    · cases on <;> rfl
    · cases on <;> rfl
    · cases on <;> rfl
    · rw [Epc.onAutoIdle_eq]
      rfl

end Sys2Proof.Machine
end

/-! ## Meters that accrue (O46, O48) -/

section
namespace Sys2Proof.Machine

open Sys2Proof

/-! ### Classifications that change (R141) -/

theorem movedCount_eq (a b : List Item) : movedCount a b = itemsMoved a b := by
  refine List.countP_congr fun x _ => ?_
  simp

/-- The number of items whose classification a function changes. -/
def movedBy (f : Item → Item) (l : List Item) : Nat := l.countP fun i => decide (i.state ≠ (f i).state)

theorem itemsMoved_map (f : Item → Item) (l : List Item) : itemsMoved l (l.map f) = movedBy f l := by
  unfold itemsMoved movedBy
  rw [zip_map_self, List.countP_map]
  rfl

theorem movedBy_comp_le (f g : Item → Item) (l : List Item) :
    movedBy (g ∘ f) l ≤ movedBy f l + movedBy g (l.map f) := by
  unfold movedBy
  rw [List.countP_map]
  induction l with
  | nil => exact Nat.le_refl _
  | cons i l ih =>
    simp only [List.countP_cons, Function.comp_apply, decide_eq_true_eq] at ih ⊢
    have hhead : (if i.state ≠ (g (f i)).state then 1 else 0)
        ≤ (if i.state ≠ (f i).state then 1 else 0) + (if (f i).state ≠ (g (f i)).state then 1 else 0) := by
      split_ifs <;> simp_all
    omega

/-- Functions that act on different items: the changes add up. -/
theorem movedBy_comp_eq {f g : Item → Item} (h : ∀ i, f i = i ∨ g (f i) = f i) (l : List Item) :
    movedBy (g ∘ f) l = movedBy f l + movedBy g (l.map f) := by
  unfold movedBy
  rw [List.countP_map]
  induction l with
  | nil => rfl
  | cons i l ih =>
    simp only [List.countP_cons, Function.comp_apply, decide_eq_true_eq] at ih ⊢
    have hhead : (if i.state ≠ (g (f i)).state then 1 else 0)
        = (if i.state ≠ (f i).state then 1 else 0) + (if (f i).state ≠ (g (f i)).state then 1 else 0) := by
      obtain hf | hg := h i
      · rw [hf, if_neg (not_not.2 rfl), Nat.zero_add]
      · rw [hg, if_neg (not_not.2 (Eq.refl (f i).state)), Nat.add_zero]
    omega

/-! ### One change of the meters in `K` -/

/-- A function on items that leaves their definitions, and every item on a meter outside `K`. -/
def touchesOn (K : Set Nat) (f : Item → Item) : Prop :=
  ∀ i, (f i).defn = i.defn ∧ (i.defn.basis ∉ K → f i = i)

/-- From `s` to `t` the meters in `K` accrue: the items on them go through `f`, and `n` classifications change. -/
structure AccruedBy (K : Set Nat) (f : Item → Item) (n : Nat) (s t : State) : Prop where
  frame : t = { s with smu := t.smu, portA := t.portA, sli := t.sli, inFlight := t.inFlight }
  smu : t.smu = { s.smu with meters := t.smu.meters, residues := t.smu.residues, items := s.smu.items.map f
                             summary := t.smu.summary }
  touches : touchesOn K f
  notices : noticesRaised (List.replicate n .reminderChanged) (List.replicate n .reminderChanged) s t
  flight : ∀ c ∈ s.inFlight, c ∈ t.inFlight
  summary : t.smu.summary ≠ s.smu.summary → (.consequenceSummary t.smu.summary : Instr) ∈ t.inFlight
  moved : movedBy f s.smu.items ≤ n
  once : (∀ k ∈ K, t.smu.meter k ≤ s.smu.meter k + 1) → n = movedBy f s.smu.items
  lengths : t.smu.meters.length = s.smu.meters.length ∧ t.smu.residues.length = s.smu.residues.length
  others : ∀ j, j ∉ K → t.smu.meter j = s.smu.meter j ∧ t.smu.residue j = s.smu.residue j

section
variable {K K' : Set Nat} {f g : Item → Item} {n m : Nat} {s t u : State}

theorem AccruedBy.items (h : AccruedBy K f n s t) : t.smu.items = s.smu.items.map f := by rw [h.smu]

theorem AccruedBy.refl (K : Set Nat) (s : State) : AccruedBy K id 0 s s where
  frame := rfl
  smu := by rw [List.map_id]
  touches _ := ⟨rfl, fun _ => rfl⟩
  notices := ⟨rfl, rfl⟩
  flight _ h := h
  summary h := absurd rfl h
  moved := by simp [movedBy]
  once _ := by simp [movedBy]
  lengths := ⟨rfl, rfl⟩
  others _ _ := ⟨rfl, rfl⟩

/-- Changes follow one another; that nothing is counted twice is left to show. -/
theorem AccruedBy.trans (h : AccruedBy K f n s t) (k : AccruedBy K' g m t u)
    (honce : (∀ k ∈ K ∪ K', u.smu.meter k ≤ s.smu.meter k + 1) → n + m = movedBy (g ∘ f) s.smu.items) :
    AccruedBy (K ∪ K') (g ∘ f) (n + m) s u where
  frame := k.frame.trans (congrArg (fun r : State =>
    { r with smu := u.smu, portA := u.portA, sli := u.sli, inFlight := u.inFlight }) h.frame)
  smu := by
    rw [k.smu, h.smu, List.map_map]
  touches i := by
    obtain ⟨hf, hfK⟩ := h.touches i
    obtain ⟨hg, hgK⟩ := k.touches (f i)
    refine ⟨hg.trans hf, fun hout => ?_⟩
    obtain ⟨h1, h2⟩ := not_or.1 hout
    show g (f i) = i
    rw [hgK (hf ▸ h2), hfK h1]
  notices := by
    simpa only [List.replicate_add] using noticesRaised_trans h.notices k.notices
  flight c hc := k.flight c (h.flight c hc)
  summary hne := by
    by_cases hsame : u.smu.summary = t.smu.summary
    · rw [hsame] at hne ⊢
      exact k.flight _ (h.summary hne)
    · exact k.summary hsame
  moved := by
    have hg := k.moved
    rw [h.items] at hg
    have hf := h.moved
    have hboth := movedBy_comp_le f g s.smu.items
    omega
  once := honce
  lengths := ⟨k.lengths.1.trans h.lengths.1, k.lengths.2.trans h.lengths.2⟩
  others j hj := by
    obtain ⟨h1, h2⟩ := not_or.1 hj
    obtain ⟨hm, hr⟩ := h.others j h1
    obtain ⟨km, kr⟩ := k.others j h2
    exact ⟨km.trans hm, kr.trans hr⟩

/-- Changes of different meters count no item twice. -/
theorem AccruedBy.trans_disjoint (h : AccruedBy K f n s t) (k : AccruedBy K' g m t u) (hdis : ∀ j ∈ K, j ∉ K') :
    AccruedBy (K ∪ K') (g ∘ f) (n + m) s u := by
  refine h.trans k fun hone => ?_
  have hn : n = movedBy f s.smu.items := h.once fun j hj => by
    rw [← (k.others j (hdis j hj)).1]
    exact hone j (.inl hj)
  have hm : m = movedBy g t.smu.items := k.once fun j hj => by
    rw [(h.others j fun hK => hdis j hK hj).1]
    exact hone j (.inr hj)
  rw [movedBy_comp_eq fun i => ?_, hn, hm, h.items]
  obtain ⟨hf, hfK⟩ := h.touches i
  by_cases hi : i.defn.basis ∈ K
  · exact .inr ((k.touches (f i)).2 (hf ▸ hdis _ hi))
  · exact .inl (hfK hi)

theorem AccruedBy.reminders (h : AccruedBy K f n s t) {p : Prop}
    (hp : p → ∀ k ∈ K, t.smu.meter k ≤ s.smu.meter k + 1) : remindersRaised p s t := by
  have hcount : itemsMoved s.smu.items t.smu.items = movedBy f s.smu.items := by rw [h.items, itemsMoved_map]
  exact ⟨⟨n, h.notices, hcount ▸ h.moved, fun hq => hcount ▸ h.once (hp hq)⟩, h.summary⟩

end

/-! ### One unit, and several (R133, R140) -/

/-- An item on basis `k` classified anew at `v`. -/
def Item.onMeter (k v : Nat) (i : Item) : Item := if i.defn.basis = k then i.reclassified v else i

theorem Item.reclassified_twice (v : Nat) (i : Item) : (i.reclassified v).reclassified v = i.reclassified v := by
  have hsame : (i.reclassified v).classify v = i.classify v := rfl
  rw [Item.reclassified, hsame]
  simp [Item.reclassified]

theorem Item.onMeter_touches (k v : Nat) : touchesOn {k} (Item.onMeter k v) := fun i => by
  unfold Item.onMeter
  split
  next h => exact ⟨rfl, fun hk => absurd h hk⟩
  next => exact ⟨rfl, fun _ => rfl⟩

section
variable (k v : Nat) (s : State)

theorem State.setMeter_meters : (s.setMeter k v).smu.meters = s.smu.meters.set k v := by rw [State.setMeter_frame]

theorem State.setMeter_accrued : AccruedBy {k} (Item.onMeter k v) (movedBy (Item.onMeter k v) s.smu.items) s
    (s.setMeter k v) := by
  have hcount : movedCount s.smu.items (reclassifyOn k v s.smu.items) = movedBy (Item.onMeter k v) s.smu.items :=
    (movedCount_eq _ _).trans (itemsMoved_map (Item.onMeter k v) _)
  have hset : s.setMeter k v = State.itemsChanged (reclassifyOn k v s.smu.items)
      (movedBy (Item.onMeter k v) s.smu.items) { s with smu := { s.smu with meters := s.smu.meters.set k v } } := by
    rw [← hcount]
    rfl
  have hflight := congrArg State.inFlight (hset.trans (State.itemsChanged_frame _ _ _))
  have hframe := State.setMeter_frame k v s
  obtain ⟨t, ht⟩ : ∃ t, s.setMeter k v = t := ⟨_, rfl⟩
  have hnotices := State.itemsChanged_notices (reclassifyOn k v s.smu.items)
    (movedBy (Item.onMeter k v) s.smu.items) { s with smu := { s.smu with meters := s.smu.meters.set k v } }
  rw [← hset, ht] at hnotices
  rw [ht] at hframe hflight ⊢
  have hsmu := congrArg State.smu hframe
  refine ⟨?_, ?_, Item.onMeter_touches k v, hnotices, fun c hc => ?_, fun hne => ?_, Nat.le_refl _, fun _ => rfl, ?_,
    fun j hj => ?_⟩
  · rw [hsmu]
    exact hframe
  · rw [hsmu]
    rfl
  · rw [hflight]
    exact List.mem_append_left _ hc
  · have hsummary : t.smu.summary = summaryOf (reclassifyOn k v s.smu.items) := (congrArg Smu.summary hsmu :)
    rw [hsummary] at hne ⊢
    rw [hflight, if_pos (bne_iff_ne.2 hne)]
    exact List.mem_append_right _ (List.mem_singleton.2 rfl)
  · rw [hsmu]
    exact ⟨List.length_set, rfl⟩
  · have hjk : k ≠ j := fun h => hj h.symm
    rw [hsmu]
    refine ⟨?_, rfl⟩
    simp [Smu.meter, List.getD_eq_getElem?_getD, List.getElem?_set_ne hjk]

end

section
variable {k : Nat} {s : State}

theorem State.advanceOne_meter (hk : k < s.smu.meters.length) :
    (s.advanceOne k).smu.meter k = min 4294967295 (s.smu.meter k + 1) := by
  unfold State.advanceOne
  rw [Smu.meter, State.setMeter_meters]
  exact (Smu.meter_set hk _ k).trans (if_pos rfl)

/-- A meter at its top with the items on it classified stands. -/
theorem State.advanceOne_full (hk : k < s.smu.meters.length) (htop : s.smu.meter k = 4294967295)
    (hitems : reclassifyOn k 4294967295 s.smu.items = s.smu.items) (hsummary : s.smu.summary = summaryOf s.smu.items) :
    s.advanceOne k = s := by
  have hsat : satAdd 4294967295 (s.smu.meter k) 1 = 4294967295 := by rw [htop]; rfl
  have hset : s.smu.meters.set k 4294967295 = s.smu.meters := by
    rw [← htop, Smu.meter, List.getD_eq_getElem?_getD, List.getElem?_eq_getElem hk]
    exact List.set_getElem_self hk
  have hnone : movedCount s.smu.items s.smu.items = 0 := by
    rw [movedCount_eq]
    simpa [movedBy] using itemsMoved_map id s.smu.items
  unfold State.advanceOne State.setMeter
  rw [hsat, hitems, hset]
  dsimp only
  rw [hnone]
  simp [State.itemsChanged, State.deliverIf, repeatN, ← hsummary]

theorem State.advanceOne_top (hk : k < s.smu.meters.length) (htop : (s.advanceOne k).smu.meter k = 4294967295)
    (n : Nat) :
    State.advance k n (s.advanceOne k) = s.advanceOne k := by
  have hvalue : satAdd 4294967295 (s.smu.meter k) 1 = 4294967295 := (State.advanceOne_meter hk).symm.trans htop
  have hfull : (s.advanceOne k).advanceOne k = s.advanceOne k := by
    have hframe := State.setMeter_frame k (satAdd 4294967295 (s.smu.meter k) 1) s
    have hsmu := congrArg State.smu hframe
    refine State.advanceOne_full ?_ htop ?_ ?_
    · unfold State.advanceOne
      rw [State.setMeter_meters, List.length_set]
      exact hk
    · unfold State.advanceOne
      rw [hsmu, hvalue]
      show List.map _ (List.map _ _) = List.map _ _
      rw [List.map_map]
      refine List.map_congr_left fun i _ => ?_
      show Item.onMeter k 4294967295 (Item.onMeter k 4294967295 i) = Item.onMeter k 4294967295 i
      by_cases h : i.defn.basis = k
      · have hstays : (i.reclassified 4294967295).defn.basis = k := h
        rw [Item.onMeter, Item.onMeter, if_pos h, if_pos hstays, Item.reclassified_twice]
      · rw [Item.onMeter, Item.onMeter, if_neg h, if_neg h]
    · unfold State.advanceOne
      rw [hsmu]
  unfold State.advance
  induction n with
  | zero => rfl
  | succ n ih => rw [repeatN, hfull, ih]

theorem State.advance_succ (k n : Nat) (s : State) : s.advance k (n + 1) = State.advance k n (s.advanceOne k) := rfl

theorem State.advance_accrued (n : Nat) : ∀ s : State, k < s.smu.meters.length →
    (s.smu.meter k ≤ 4294967295 → (s.advance k n).smu.meter k = min 4294967295 (s.smu.meter k + n))
      ∧ (s.advance k n).smu.residues = s.smu.residues ∧ ∃ f m, AccruedBy {k} f m s (s.advance k n) := by
  induction n with
  | zero => exact fun s _ => ⟨fun h => (Nat.min_eq_right h).symm, rfl, id, 0, .refl {k} s⟩
  | succ n ih =>
    intro s hk
    have hfirst := State.setMeter_accrued k (satAdd 4294967295 (s.smu.meter k) 1) s
    change AccruedBy _ _ _ _ (s.advanceOne k) at hfirst
    have hone := State.advanceOne_meter hk
    have hres : (s.advanceOne k).smu.residues = s.smu.residues := by
      unfold State.advanceOne
      rw [State.setMeter_frame]
    by_cases htop : (s.advanceOne k).smu.meter k = 4294967295
    · rw [State.advance_succ, State.advanceOne_top hk htop]
      exact ⟨fun _ => by omega, hres, _, _, hfirst⟩
    · obtain ⟨hmeter, hresidues, f, m, hrest⟩ := ih (s.advanceOne k) (by rw [hfirst.lengths.1]; exact hk)
      have hsum := hmeter (by omega)
      refine ⟨fun _ => by rw [State.advance_succ]; omega, hresidues.trans hres, ?_⟩
      cases n with
      | zero => exact ⟨_, _, hfirst⟩
      | succ n =>
        have hall := hfirst.trans hrest fun hle => ?_
        · rw [Set.union_self] at hall
          exact ⟨_, _, hall⟩
        · have htwo := hle k (.inl rfl)
          omega

theorem Smu.residue_set {m : Smu} {k : Nat} (hk : k < m.residues.length) (v j : Nat) :
    ({ m with residues := m.residues.set k v } : Smu).residue j = if j = k then v else m.residue j := by
  unfold Smu.residue
  rw [List.getD_eq_getElem?_getD, List.getD_eq_getElem?_getD, List.getElem?_set]
  by_cases hj : k = j
  · subst hj
    simp [hk]
  · rw [if_neg hj, if_neg (Ne.symm hj)]

/-- R134, R136, R137: the residue and the units carried, and what accrues besides. -/
theorem State.accrue_accrued (per x : Nat) (hk : k < s.smu.meters.length) (hr : k < s.smu.residues.length) :
    (s.accrue k per x).smu.residue k = (s.smu.residue k + x) % per
      ∧ (s.smu.meter k ≤ 4294967295 →
          (s.accrue k per x).smu.meter k = min 4294967295 (s.smu.meter k + (s.smu.residue k + x) / per))
      ∧ ∃ f n, AccruedBy {k} f n s (s.accrue k per x) := by
  obtain ⟨u, hu⟩ : ∃ u : State, { s with smu := { s.smu with
    residues := s.smu.residues.set k ((s.smu.residue k + x) % per) } } = u := ⟨_, rfl⟩
  have husmu : u.smu = { s.smu with residues := s.smu.residues.set k ((s.smu.residue k + x) % per) } := by
    rw [← hu]
  have haccrue : s.accrue k per x = u.advance k ((s.smu.residue k + x) / per) := by
    rw [← hu]
    rfl
  obtain ⟨hmeter, hresidues, f, n, hall⟩ := State.advance_accrued (k := k) ((s.smu.residue k + x) / per) u
    (by rw [husmu]; exact hk)
  have hstart : AccruedBy {k} id 0 s u := by
    refine ⟨?_, ?_, fun _ => ⟨rfl, fun _ => rfl⟩, ?_, fun c hc => ?_, fun hne => absurd ?_ hne, by simp [movedBy],
      fun _ => by simp [movedBy], ?_, fun j hj => ?_⟩
    · rw [husmu, ← hu]
    · rw [husmu, List.map_id]
    · rw [← hu]
      exact ⟨rfl, rfl⟩
    · rw [← hu]
      exact hc
    · rw [husmu]
    · rw [husmu]
      exact ⟨rfl, List.length_set⟩
    · rw [husmu, Smu.residue_set hr, if_neg (show ¬j = k from hj)]
      exact ⟨rfl, rfl⟩
  rw [haccrue]
  refine ⟨?_, fun hle => ?_, f, n, ?_⟩
  · rw [Smu.residue, hresidues, husmu]
    exact (Smu.residue_set hr _ k).trans (if_pos rfl)
  · have hsame : u.smu.meter k = s.smu.meter k := by rw [husmu]; rfl
    rw [hmeter (hsame ▸ hle), hsame]
  · have hboth := hstart.trans hall fun hle => ?_
    · rw [Set.union_self, Nat.zero_add] at hboth
      exact hboth
    · have hsame : u.smu.meter k = s.smu.meter k := by rw [husmu]; rfl
      have hitems : u.smu.items = s.smu.items := by rw [husmu]
      rw [Nat.zero_add, Function.comp_id, ← hitems]
      refine hall.once fun j hj => ?_
      obtain rfl := hj
      rw [hsame]
      exact hle j (.inl rfl)

end

/-- Settles O48: a slew increment accrues, a cycle end advances its meter by one; the trip record by its three
requests. -/
theorem metersAndTripAdvance : Obligations.MetersAndTripAdvance := by
  refine ⟨fun x s on hm hr hlow => ?slew, fun s on hm => ?cycle, fun u s on => next_of_on on rfl,
    fun s on => next_of_on on rfl, fun k s on => next_of_on on rfl⟩
  case slew =>
    obtain ⟨hres, hmeter, f, n, hall⟩ := State.accrue_accrued (k := 5) (s := s.taken (.slewIncrement x)) 65536 x
      (by rw [State.taken_smu, hm]; decide) (by rw [State.taken_smu, hr]; decide)
    rw [State.taken_smu] at hres hmeter
    have hvalue := hmeter (by omega)
    rw [Nat.min_eq_right hlow] at hvalue
    obtain ⟨t, ht⟩ : ∃ t, (s.taken (.slewIncrement x)).accrue 5 65536 x = t := ⟨_, rfl⟩
    rw [ht] at hres hvalue hall
    refine ⟨t, next_of_on on ht, hres, hvalue, fun k hk => hall.others k hk, ?_, hall.frame⟩
    exact hall.reminders fun hle k hk => by
      obtain rfl := hk
      exact hle
  case cycle =>
    have hvalue := State.advanceOne_meter (k := 6) (s := s.taken .smuCycleEnd) (by rw [State.taken_smu, hm]; decide)
    have hall := State.setMeter_accrued 6 (satAdd 4294967295 ((s.taken .smuCycleEnd).smu.meter 6) 1)
      (s.taken .smuCycleEnd)
    have hres : ((s.taken .smuCycleEnd).advanceOne 6).smu.residues = s.smu.residues := by
      unfold State.advanceOne
      rw [State.setMeter_frame]
      rfl
    change AccruedBy _ _ _ _ ((s.taken .smuCycleEnd).advanceOne 6) at hall
    rw [show satAdd 4294967295 ((s.taken .smuCycleEnd).smu.meter 6) 1
      = ((s.taken .smuCycleEnd).advanceOne 6).smu.meter 6 from hvalue.symm] at hall
    obtain ⟨t, ht⟩ : ∃ t, (s.taken .smuCycleEnd).advanceOne 6 = t := ⟨_, rfl⟩
    rw [ht] at hvalue hall hres
    refine ⟨t, next_of_on on ht, hvalue, fun k hk => (hall.others k hk).1, hres, hall.items, ?_, hall.frame⟩
    exact hall.reminders fun _ k hk => by
      obtain rfl := hk
      rw [hvalue]
      exact Nat.min_le_right _ _

/-! ### The one-second step (R134, R136, R138) -/

/-- A run of accruals: each a meter, the residue a unit takes, and what its residue gains. -/
def State.accrueAll (l : List (Nat × Nat × Nat)) (s : State) : State := l.foldl (fun s a => s.accrue a.1 a.2.1 a.2.2) s

/-- R133, R134: accruals of different meters do not disturb one another. -/
theorem State.accrueAll_accrued : ∀ (l : List (Nat × Nat × Nat)) (s : State), (l.map Prod.fst).Nodup →
    (∀ a ∈ l, a.1 < s.smu.meters.length ∧ a.1 < s.smu.residues.length) →
    (∀ a ∈ l, (s.accrueAll l).smu.residue a.1 = (s.smu.residue a.1 + a.2.2) % a.2.1
        ∧ (s.smu.meter a.1 ≤ 4294967295 → (s.accrueAll l).smu.meter a.1
            = min 4294967295 (s.smu.meter a.1 + (s.smu.residue a.1 + a.2.2) / a.2.1)))
      ∧ ∃ f n, AccruedBy {k | k ∈ l.map Prod.fst} f n s (s.accrueAll l)
  | [], s, _, _ => ⟨nofun, id, 0, .refl _ s⟩
  | a :: l, s, hnodup, hlen => by
    obtain ⟨hout, hrest⟩ := List.nodup_cons.1 hnodup
    obtain ⟨hm, hr⟩ := hlen a List.mem_cons_self
    obtain ⟨hres, hmeter, f, n, hfirst⟩ := State.accrue_accrued a.2.1 a.2.2 hm hr
    obtain ⟨hvalues, g, m, hthen⟩ := State.accrueAll_accrued l (s.accrue a.1 a.2.1 a.2.2) hrest fun b hb => by
      rw [hfirst.lengths.1, hfirst.lengths.2]
      exact hlen b (List.mem_cons_of_mem _ hb)
    refine ⟨fun b hb => ?_, g ∘ f, n + m, ?_⟩
    · obtain rfl | hb := List.mem_cons.1 hb
      · obtain ⟨km, kr⟩ := hthen.others b.1 hout
        exact ⟨kr.trans hres, fun hle => km.trans (hmeter hle)⟩
      · have hne : b.1 ∉ ({a.1} : Set Nat) := fun h => hout (h ▸ List.mem_map_of_mem hb)
        obtain ⟨km, kr⟩ := hfirst.others b.1 hne
        obtain ⟨hb1, hb2⟩ := hvalues b hb
        rw [km, kr] at hb2
        rw [kr] at hb1
        exact ⟨hb1, hb2⟩
    · have hboth := hfirst.trans_disjoint hthen fun j hj hmem => hout (hj ▸ hmem)
      have hset : ({a.1} ∪ {k | k ∈ l.map Prod.fst} : Set Nat) = {k | k ∈ (a :: l).map Prod.fst} := by
        ext k
        simp
      rw [hset] at hboth
      exact hboth

/-- The accrual of an hours meter, while its condition holds (R134). -/
def hoursAccrual (k : Nat) (active : Bool) : List (Nat × Nat × Nat) := if active then [(k, 36, 1)] else []

/-- The accruals of a one-second step (R134, R136). -/
def State.secondsAccruals (s : State) : List (Nat × Nat × Nat) :=
  hoursAccrual 0 (s.epc.e1.reported == .running) ++ hoursAccrual 1 (s.epc.e2.reported == .running)
    ++ hoursAccrual 2 (s.epc.e1.reported == .running || s.epc.e2.reported == .running)
    ++ [(3, 36000, fuelUnits s.epc.e1.fuel), (4, 36000, fuelUnits s.epc.e2.fuel)] ++ hoursAccrual 7 s.smu.travel

theorem State.hoursStep_eq (k : Nat) (active : Bool) (s : State) : s.hoursStep k active = s.accrueAll
    (hoursAccrual k active) := by
  cases active <;> rfl

theorem State.accrueAll_append (l m : List (Nat × Nat × Nat)) (s : State) :
    s.accrueAll (l ++ m) = (s.accrueAll l).accrueAll m := List.foldl_append ..

/-- The state at the end of a one-second step, from that with its meters accrued. -/
def State.secondEnded (running : Bool) (fuel : Nat) (t : State) : State :=
  (State.requestSnapshot { t.deliver (.tripFuelIncrement fuel) with smu := t.smu.countSnapshot running }).settle

theorem State.oneSecond_eq (s : State) : s.oneSecond =
    State.secondEnded (s.epc.e1.reported == .running || s.epc.e2.reported == .running)
      (fuelUnits s.epc.e1.fuel + fuelUnits s.epc.e2.fuel) (s.accrueAll s.secondsAccruals) := by
  unfold State.secondsAccruals
  rw [State.accrueAll_append, State.accrueAll_append, State.accrueAll_append, State.accrueAll_append,
    ← State.hoursStep_eq, ← State.hoursStep_eq, ← State.hoursStep_eq, ← State.hoursStep_eq]
  rfl

theorem State.secondsAccruals_nodup (s : State) : (s.secondsAccruals.map Prod.fst).Nodup := by
  have hall : ∀ a b c d : Bool, ∀ f g : Nat, ((hoursAccrual 0 a ++ hoursAccrual 1 b ++ hoursAccrual 2 c
      ++ [(3, 36000, f), (4, 36000, g)] ++ hoursAccrual 7 d).map Prod.fst).Nodup := by
    intro a b c d f g
    cases a <;> cases b <;> cases c <;> cases d <;> simp [hoursAccrual]
  exact hall _ _ _ _ _ _

theorem mem_hoursAccrual {k : Nat} {active : Bool} {a : Nat × Nat × Nat} :
    a ∈ hoursAccrual k active ↔ active = true ∧ a = (k, 36, 1) := by
  cases active <;> simp [hoursAccrual]

theorem State.mem_secondsAccruals {s : State} {a : Nat × Nat × Nat} : a ∈ s.secondsAccruals ↔
    (s.epc.e1.reported = .running ∧ a = (0, 36, 1)) ∨ (s.epc.e2.reported = .running ∧ a = (1, 36, 1))
      ∨ ((s.epc.e1.reported = .running ∨ s.epc.e2.reported = .running) ∧ a = (2, 36, 1))
      ∨ a = (3, 36000, fuelUnits s.epc.e1.fuel) ∨ a = (4, 36000, fuelUnits s.epc.e2.fuel)
      ∨ (s.smu.travel = true ∧ a = (7, 36, 1)) := by
  simp [State.secondsAccruals, mem_hoursAccrual]

/-- The meters that accrue at a step, each on its condition. -/
theorem State.secondsAccruals_meters {s : State} {a : Nat × Nat × Nat} (hmem : a ∈ s.secondsAccruals) :
    (a.1 = 0 → s.epc.e1.reported = .running) ∧ (a.1 = 1 → s.epc.e2.reported = .running)
      ∧ (a.1 = 2 → s.epc.e1.reported = .running ∨ s.epc.e2.reported = .running)
      ∧ (a.1 = 7 → s.smu.travel = true) ∧ a.1 < 8 := by
  obtain ⟨h, rfl⟩ | ⟨h, rfl⟩ | ⟨h, rfl⟩ | rfl | rfl | ⟨h, rfl⟩ := State.mem_secondsAccruals.1 hmem
  case inl | inr.inl | inr.inr.inl | inr.inr.inr.inr.inr => simp [*]
  case inr.inr.inr.inl | inr.inr.inr.inr.inl => simp

section
variable (running : Bool) (fuel : Nat) (t : State)

theorem State.secondEnded_frame : ∃ snapDue snapCount nvc inFlight, t.secondEnded running fuel = { t with
    smu := { t.smu with snapDue := snapDue, snapCount := snapCount }, nvc := nvc, inFlight := inFlight } := by
  obtain ⟨due, count, hcount⟩ : ∃ due count, t.smu.countSnapshot running
      = { t.smu with snapDue := due, snapCount := count } := by
    cases running
    · exact ⟨_, _, rfl⟩
    · exact ⟨_, _, rfl⟩
  unfold State.secondEnded State.requestSnapshot
  rw [hcount]
  split
  · rw [State.requestStore_meters, State.settle_frame]
    split
    · exact ⟨_, _, _, _, rfl⟩
    · exact ⟨_, _, _, _, rfl⟩
  · rw [State.settle_frame]
    exact ⟨_, _, _, _, rfl⟩

theorem State.requestSnapshot_inFlight (t : State) : t.requestSnapshot.inFlight = t.inFlight := by
  unfold State.requestSnapshot
  split
  · rw [State.requestStore_frame]
  · rfl

theorem State.mem_secondEnded {c : Instr} (h : c ∈ t.inFlight ∨ c = .tripFuelIncrement fuel) :
    c ∈ (t.secondEnded running fuel).inFlight := by
  refine State.mem_settle _ _ ?_
  rw [State.requestSnapshot_inFlight]
  show c ∈ t.inFlight ++ [.tripFuelIncrement fuel]
  simpa using h

/-- R138: the snapshot, by the mark after the count. -/
theorem State.secondEnded_snapshot (n : Nat) (due : Bool)
    (hc : t.smu.countSnapshot running = { t.smu with snapCount := n, snapDue := due }) :
    let e := t.secondEnded running fuel
    (due = false → e.smu.snapCount = n ∧ e.smu.snapDue = false ∧ e.nvc.queue = t.nvc.queue)
      ∧ (due = true → t.nvc.takes .meters = true →
          e.smu.snapCount = 0 ∧ e.smu.snapDue = false ∧ (storesOk t → e.nvc.queued .meters = true))
      ∧ (due = true → t.nvc.takes .meters = false →
          e.smu.snapCount = n ∧ e.smu.snapDue = true ∧ e.nvc.queue = t.nvc.queue) := by
  intro e
  have he : e = (State.requestSnapshot { t.deliver (.tripFuelIncrement fuel) with
      smu := { t.smu with snapCount := n, snapDue := due } }).settle := by rw [← hc]; rfl
  have hrequest : due = true → e = (State.requestStore .meters false false { t.deliver (.tripFuelIncrement fuel) with
      smu := { t.smu with snapCount := n, snapDue := due } }).settle := fun hdue => he.trans (congrArg _ (if_pos hdue))
  refine ⟨fun hdue => ?_, fun hdue htakes => ?_, fun hdue htakes => ?_⟩
  · have hnone : e = State.settle { t.deliver (.tripFuelIncrement fuel) with
        smu := { t.smu with snapCount := n, snapDue := due } } := he.trans (congrArg _ (if_neg (by simp [hdue])))
    rw [hnone, State.settle_smu, State.settle_queue]
    exact ⟨rfl, hdue, rfl⟩
  · rw [hrequest hdue, State.settle_smu, Nvc.queued, State.settle_queue, State.requestStore_meters]
    refine ⟨?_, ?_, fun hs => ?_⟩
    · exact congrArg Smu.snapCount (if_pos htakes)
    · exact congrArg Smu.snapDue (if_pos htakes)
    · exact Nvc.requested_queued .meters false false t.nvc htakes hs.2.queued
  · rw [hrequest hdue, State.settle_smu, State.settle_queue, State.requestStore_meters]
    refine ⟨?_, ?_, ?_⟩
    · exact congrArg Smu.snapCount (if_neg (by simp [htakes]))
    · exact (congrArg Smu.snapDue (if_neg (by simp [htakes]))).trans hdue
    · exact congrArg Nvc.queue (Nvc.requested_refused .meters false false t.nvc htakes)

end

/-- R134: thirty-six seconds are a unit of an hours meter. -/
theorem hoursAccrued {m r m' r' x : Nat} (hr : r' = (r + x) % 36)
    (hm : m ≤ 4294967295 → m' = min 4294967295 (m + (r + x) / 36))
    (hx : x ≤ 1) (hlow : m < 4294967295) (hres : r < 36) : 36 * m' + r' = 36 * m + r + x ∧ r' < 36 := by
  have hvalue := hm hlow.le
  omega

/-- R136: 36,000 of the fuel rate's units are a unit of a fuel meter. -/
theorem fuelAccrued {m r m' r' x : Nat} (hr : r' = (r + x) % 36000)
    (hm : m ≤ 4294967295 → m' = min 4294967295 (m + (r + x) / 36000))
    (hx : x ≤ 65535) (hlow : m + 2 < 4294967295) (hres : r < 36000) :
    36000 * m' + r' = 36000 * m + r + x ∧ r' < 36000 := by
  have hvalue := hm (by omega)
  omega

theorem fuelUnits_le {rate : Nat} (h : rate ≤ 65535) : fuelUnits rate ≤ 65535 := by
  unfold fuelUnits
  split <;> omega

/-- Settles O46: the meters of a step accrue one by one, each from its state before the step; the snapshot follows. -/
theorem oneSecondStepAccrues : Obligations.OneSecondStepAccrues := by
  intro s on hm hr
  have hlen : ∀ a ∈ s.secondsAccruals, a.1 < s.smu.meters.length ∧ a.1 < s.smu.residues.length := fun a ha => by
    obtain ⟨_, _, _, _, hlt⟩ := State.secondsAccruals_meters ha
    omega
  obtain ⟨hvalues, f, n, hall⟩ := State.accrueAll_accrued s.secondsAccruals s s.secondsAccruals_nodup hlen
  obtain ⟨T, hT⟩ : ∃ T, s.accrueAll s.secondsAccruals = T := ⟨_, rfl⟩
  have hend := s.oneSecond_eq
  rw [hT] at hvalues hall hend
  obtain ⟨running, hrunning⟩ : ∃ b, (s.epc.e1.reported == .running || s.epc.e2.reported == .running) = b := ⟨_, rfl⟩
  rw [hrunning] at hend
  obtain ⟨due, count, nvc, flight, hframe⟩ := State.secondEnded_frame running
    (fuelUnits s.epc.e1.fuel + fuelUnits s.epc.e2.fuel) T
  have hflight := fun c => State.mem_secondEnded running (fuelUnits s.epc.e1.fuel + fuelUnits s.epc.e2.fuel) T (c := c)
  have hsnap := State.secondEnded_snapshot running (fuelUnits s.epc.e1.fuel + fuelUnits s.epc.e2.fuel) T
  obtain ⟨t, ht⟩ : ∃ t, T.secondEnded running (fuelUnits s.epc.e1.fuel + fuelUnits s.epc.e2.fuel) = t := ⟨_, rfl⟩
  rw [ht] at hend hframe hflight hsnap
  have hsmu := congrArg State.smu hframe
  have hmeter : ∀ k, t.smu.meter k = T.smu.meter k := fun k => by rw [hsmu]; rfl
  have hresidue : ∀ k, t.smu.residue k = T.smu.residue k := fun k => by rw [hsmu]; rfl
  have hstands : ∀ k, (∀ a ∈ s.secondsAccruals, a.1 ≠ k) → t.smu.residue k = s.smu.residue k
      ∧ t.smu.meter k = s.smu.meter k := fun k hk => by
    obtain ⟨h1, h2⟩ := hall.others k fun hmem => by
      obtain ⟨a, ha, rfl⟩ := List.mem_map.1 hmem
      exact hk a ha rfl
    exact ⟨(hresidue k).trans h2, (hmeter k).trans h1⟩
  have hhours : ∀ k, (k, 36, 1) ∈ s.secondsAccruals → s.smu.meter k < 4294967295 → s.smu.residue k < 36 →
      36 * t.smu.meter k + t.smu.residue k = 36 * s.smu.meter k + s.smu.residue k + 1 ∧ t.smu.residue k < 36 :=
    fun k hk hlow hres => by
      obtain ⟨h1, h2⟩ := hvalues _ hk
      rw [hmeter, hresidue]
      exact hoursAccrued h1 h2 (Nat.le_refl 1) hlow hres
  have hfuel : ∀ k x, (k, 36000, x) ∈ s.secondsAccruals → x ≤ 65535 → s.smu.residue k < 36000 →
      s.smu.meter k + 2 < 4294967295 →
      36000 * t.smu.meter k + t.smu.residue k = 36000 * s.smu.meter k + s.smu.residue k + x ∧ t.smu.residue k < 36000 :=
    fun k x hk hx hres hlow => by
      obtain ⟨h1, h2⟩ := hvalues _ hk
      rw [hmeter, hresidue]
      exact fuelAccrued h1 h2 hx hlow hres
  refine ⟨t, (onEvent_on _ _ on).trans (congrArg _ hend), fun g hg k hk => hstands k fun a ha => ?idle,
    fun g hg k hk => hhours k ?hours, fun g k hk hle hres hlow => hfuel k _ ?fuel (fuelUnits_le hle) hres hlow,
    fun hlow hres => ?both, fun hlow hres => ?travel, hflight _ (.inr rfl), ?snapshot, ?reminders, ?frame⟩
  case idle =>
    obtain ⟨h0, h1, -⟩ := State.secondsAccruals_meters ha
    cases g
    · obtain rfl : k = 0 := hk
      exact mt h0 hg
    · obtain rfl : k = 1 := hk
      exact mt h1 hg
  case hours =>
    cases g
    · obtain rfl : k = 0 := hk
      exact State.mem_secondsAccruals.2 (.inl ⟨hg, rfl⟩)
    · obtain rfl : k = 1 := hk
      exact State.mem_secondsAccruals.2 (.inr (.inl ⟨hg, rfl⟩))
  case fuel =>
    cases g
    · obtain rfl : k = 3 := hk
      exact State.mem_secondsAccruals.2 (.inr (.inr (.inr (.inl rfl))))
    · obtain rfl : k = 4 := hk
      exact State.mem_secondsAccruals.2 (.inr (.inr (.inr (.inr (.inl rfl)))))
  case both =>
    split
    next h => exact hhours 2 (State.mem_secondsAccruals.2 (.inr (.inr (.inl ⟨h, rfl⟩)))) hlow hres
    next h =>
      obtain ⟨h1, h2⟩ := hstands 2 fun a ha => by
        obtain ⟨-, -, h2, -⟩ := State.secondsAccruals_meters ha
        exact mt h2 h
      rw [h1, h2]
      exact ⟨rfl, hres⟩
  case travel =>
    split
    next h =>
      exact hhours 7 (State.mem_secondsAccruals.2 (.inr (.inr (.inr (.inr (.inr ⟨h, rfl⟩)))))) hlow hres
    next h =>
      obtain ⟨h1, h2⟩ := hstands 7 fun a ha => by
        obtain ⟨-, -, -, h7, -⟩ := State.secondsAccruals_meters ha
        exact mt h7 h
      rw [h1, h2]
      exact ⟨rfl, hres⟩
  case snapshot =>
    have hcount : T.smu.snapCount = s.smu.snapCount := (congrArg Smu.snapCount hall.smu :)
    have hdue : T.smu.snapDue = s.smu.snapDue := (congrArg Smu.snapDue hall.smu :)
    have hnvc : T.nvc = s.nvc := (congrArg State.nvc hall.frame :)
    rw [hnvc] at hsnap
    have hstores : storesOk s → storesOk T := fun hs => by
      unfold storesOk
      rw [hnvc]
      exact hs
    have hrun : running = true ↔ s.epc.e1.reported = .running ∨ s.epc.e2.reported = .running := by
      simp [← hrunning]
    cases running with
    | true =>
      obtain ⟨hno, hyes, hfull⟩ := hsnap (min 360 (s.smu.snapCount + 1))
        (s.smu.snapDue || min 360 (s.smu.snapCount + 1) == 360) (by rw [← hcount, ← hdue]; rfl)
      refine ⟨_, _, fun _ => ⟨rfl, by simp⟩, fun h1 h2 =>
        ((hrun.1 rfl).elim h1 h2).elim, hno, fun hd htakes => ?_, hfull⟩
      obtain ⟨hc, hd, hq⟩ := hyes hd htakes
      exact ⟨hc, hd, fun hs => hq (hstores hs)⟩
    | false =>
      obtain ⟨hno, hyes, hfull⟩ := hsnap s.smu.snapCount s.smu.snapDue (by rw [← hcount, ← hdue]; rfl)
      refine ⟨_, _, fun h => absurd (hrun.2 h) Bool.false_ne_true, fun _ _ =>
        ⟨rfl, rfl⟩, hno, fun hd htakes => ?_, hfull⟩
      obtain ⟨hc, hd, hq⟩ := hyes hd htakes
      exact ⟨hc, hd, fun hs => hq (hstores hs)⟩
  case reminders =>
    obtain ⟨⟨m, hnotices, hmoved, honce⟩, hsummary⟩ := hall.reminders
      (p := ∀ k, t.smu.meter k ≤ s.smu.meter k + 1) fun hle k _ => hmeter k ▸ hle k
    have hitems : t.smu.items = T.smu.items := (congrArg Smu.items hsmu :)
    have hsum : t.smu.summary = T.smu.summary := (congrArg Smu.summary hsmu :)
    refine ⟨⟨m, noticesRaised_congr hnotices rfl rfl ?_ ?_, hitems ▸ hmoved, hitems ▸ honce⟩, fun hne => ?_⟩
    · rw [hframe]
    · rw [hframe]
    · rw [hsum] at hne ⊢
      exact hflight _ (.inl (hsummary hne))
  case frame =>
    clear hsmu hmeter hresidue hstands hhours hfuel
    subst hframe
    exact (congrArg (fun r : State => { r with
      smu := { T.smu with snapDue := due, snapCount := count }, nvc := nvc, inFlight := flight, portA := T.portA
      sli := T.sli }) hall.frame)

end Sys2Proof.Machine
end

/-! ## Item and meter requests (O49) -/

section
namespace Sys2Proof.Machine

open Sys2Proof

/-! ### Checks and the store they ask for (R145 to R148) -/

theorem checkedResult_refused {first : ResultCode} (h : first ≠ .accepted) (r : RecordId) (s : State) :
    checkedResult first r s = first := if_neg h

theorem checkedResult_stored {first : ResultCode} (h : first = .accepted) (r : RecordId) (s : State) :
    checkedResult first r s = if s.nvc.takes r then .accepted else .refusedBusy := if_pos h

theorem checkedResult_taken {first : ResultCode} {r : RecordId} {s : State} (h : checkedResult first r s = .accepted) :
    s.nvc.takes r = true := by
  rw [checkedResult_stored (checkedResult_accepted h)] at h
  by_contra ht
  rw [if_neg ht] at h
  exact nomatch h

/-- R168: after a service request that is taken, the entry of its record has its service mark set. -/
theorem Nvc.requested_service {r : RecordId} {n : Nvc} (head : Bool) (h : n.takes r = true)
    (hw : n.writing r = true → n.queued r = true) :
    ∃ e ∈ (n.requested r head true).queue, e.record = r ∧ e.service = true := by
  have hmap : ∀ (again : Bool) e, e ∈ n.queue → e.record = r →
      ∃ x ∈ n.queue.map (fun e => if e.record = r then e.absorbed again true else e), x.record = r ∧ x.service = true :=
    fun again e he hr => ⟨e.absorbed again true, List.mem_map.2 ⟨e, he, if_pos hr⟩, hr, Bool.or_true _⟩
  rw [Nvc.requested_queue r head true n h]
  unfold Nvc.queueAfter
  split
  next hwriting =>
    obtain ⟨e, he, hr⟩ := List.mem_map.1 ((Nvc.queued_iff r n).1 (hw hwriting))
    exact hmap true e he hr
  · split
    next e hfind =>
      have hr : e.record = r := by simpa using List.find?_some hfind
      split
      · exact ⟨_, (mem_atHead _ _ _ _).2 (.inl rfl), hr, Bool.or_true _⟩
      · exact hmap false e (List.mem_of_find?_eq_some hfind) hr
    · dsimp only
      split
      · exact ⟨_, (mem_atHead _ _ _ _).2 (.inl rfl), rfl, rfl⟩
      · exact ⟨_, List.mem_append_right _ (List.mem_singleton.2 rfl), rfl, rfl⟩

/-! ### An item reset (R145) -/

theorem Smu.item_set {m : Smu} {n : Nat} (hn : n < m.items.length) (x : Item) (c : Consequences) (j : Nat) :
    ({ m with items := m.items.set n x, summary := c } : Smu).item j = if j = n then x else m.item j := by
  unfold Smu.item
  rw [List.getD_eq_getElem?_getD, List.getD_eq_getElem?_getD, List.getElem?_set]
  by_cases hj : n = j
  · subst hj
    simp [hn]
  · rw [if_neg hj, if_neg (Ne.symm hj)]

/-- Item `n` as its reset leaves it. -/
def Smu.itemReset (m : Smu) (n : Nat) : Item := (m.item n).reset (m.meter (m.item n).defn.basis)

/-- The notices of the reset of item `n`. -/
def Smu.resetNotices (m : Smu) (n : Nat) : List NoticeKind :=
  if (m.itemReset n).state = (m.item n).state then [] else [.reminderChanged]

/-- The SMU after the reset of item `n`. -/
def Smu.withReset (m : Smu) (n : Nat) : Smu :=
  { m with items := m.items.set n (m.itemReset n), summary := summaryOf (m.items.set n (m.itemReset n)) }

theorem State.resetItem_eq (n : Nat) (s : State) : s.resetItem n = { s with
    smu := s.smu.withReset n, portA := s.portA.raisedAll (s.smu.resetNotices n)
    sli := { s.sli with counts := countsAfter (s.smu.resetNotices n) s.sli.counts }
    inFlight := (s.resetItem n).inFlight } := by
  have hframe := State.itemsChanged_frame (s.smu.items.set n (s.smu.itemReset n))
    (bit ((s.smu.item n).state != (s.smu.itemReset n).state)) s
  obtain ⟨hportA, hsli⟩ := State.itemsChanged_notices (s.smu.items.set n (s.smu.itemReset n))
    (bit ((s.smu.item n).state != (s.smu.itemReset n).state)) s
  have hnotices : List.replicate (bit ((s.smu.item n).state != (s.smu.itemReset n).state)) NoticeKind.reminderChanged
      = s.smu.resetNotices n := by
    unfold Smu.resetNotices
    split
    next h => rw [h]; simp [bit]
    next h => rw [bne_iff_ne.2 (Ne.symm h)]; rfl
  rw [hnotices] at hportA hsli
  change (s.resetItem n).portA = _ at hportA
  change (s.resetItem n).sli = _ at hsli
  have hflight := congrArg State.inFlight hframe
  change (s.resetItem n).inFlight = _ at hflight
  rw [← hportA, ← hsli, hflight]
  exact hframe

/-- R145, R146: a reset that the queue takes. -/
theorem State.resetItem_stored {n : Nat} {service : Bool} {s : State} : ∃ flight,
    State.resetItem n (s.requestStore .items false service) = { s with
      smu := s.smu.withReset n, portA := s.portA.raisedAll (s.smu.resetNotices n)
      sli := { s.sli with counts := countsAfter (s.smu.resetNotices n) s.sli.counts }
      nvc := s.nvc.requested .items false service, inFlight := flight } :=
  ⟨_, State.resetItem_eq n (s.requestStore .items false service)⟩

theorem Smu.withReset_item {m : Smu} {n : Nat} (hn : n < m.items.length) (j : Nat) :
    (m.withReset n).item j = if j = n then m.itemReset n else m.item j := Smu.item_set hn _ _ j

theorem Smu.resetNotices_eq {m : Smu} {n : Nat} (hn : n < m.items.length) : m.resetNotices n =
    if ((m.withReset n).item n).state = (m.item n).state then [] else [.reminderChanged] := by
  rw [Smu.withReset_item hn, if_pos rfl]
  rfl

/-! ### The checks of each request (R144 to R148) -/

section
variable {n : Nat} {m : Smu}

theorem ackResult_range (h : 31 < n) : ackResult n m = .refusedRange := if_pos h

theorem ackResult_state (hn : n ≤ 31) (h : (m.item n).defn.inUse = false ∨ (m.item n).state = some .ok) :
    ackResult n m = .refusedState := by
  refine (if_neg (by omega)).trans ?_
  obtain h | h := h
  · exact if_pos (by simp [h])
  · by_cases huse : (!(m.item n).defn.inUse) = true
    · exact if_pos huse
    · exact (if_neg huse).trans (if_pos h)

theorem ackResult_accepted (hn : n ≤ 31) (huse : (m.item n).defn.inUse = true) (h : (m.item n).state ≠ some .ok) :
    ackResult n m = .accepted :=
  (if_neg (by omega)).trans ((if_neg (by simp [huse])).trans (if_neg h))

theorem cabDoneResult_accepted (h : cabDoneResult n m = .accepted) : n ≤ 31 := by
  by_contra hn
  exact absurd ((if_pos (by omega)).symm.trans h) (by decide)

theorem cabDoneResult_state (hn : n ≤ 31) (h : (m.item n).defn.inUse = false) : cabDoneResult n m = .refusedState :=
  (if_neg (by omega)).trans (if_pos (by simp [h]))

theorem cabDoneResult_owner (hn : n ≤ 31) (huse : (m.item n).defn.inUse = true)
    (h : (m.item n).defn.operatorReset = false) : cabDoneResult n m = .refusedNotOwner :=
  (if_neg (by omega)).trans ((if_neg (by simp [huse])).trans (if_pos (by simp [h])))

theorem cabDoneResult_checked (hn : n ≤ 31) (huse : (m.item n).defn.inUse = true)
    (h : (m.item n).defn.operatorReset = true) : cabDoneResult n m =
      if (m.item n).state = some .ok ∨ (m.item n).state = some .overdue then .refusedState else .accepted :=
  (if_neg (by omega)).trans ((if_neg (by simp [huse])).trans (if_neg (by simp [h])))

theorem serviceDoneResult_accepted (h : serviceDoneResult n m = .accepted) : n ≤ 31 := by
  by_contra hn
  exact absurd ((if_pos (by omega)).symm.trans h) (by decide)

theorem serviceDoneResult_state (hn : n ≤ 31) (h : (m.item n).defn.inUse = false) :
    serviceDoneResult n m = .refusedState := (if_neg (by omega)).trans (if_pos (by simp [h]))

theorem serviceDoneResult_ok (hn : n ≤ 31) (h : (m.item n).defn.inUse = true) : serviceDoneResult n m = .accepted :=
  (if_neg (by omega)).trans (if_neg (by simp [h]))

theorem presetResult_range {k v : Nat} (h : 7 < k ∨ v < m.meter k) : presetResult k v m = .refusedRange := by
  unfold presetResult
  split
  · rfl
  next hk => exact if_pos (h.resolve_left hk)

theorem presetResult_ok {k v : Nat} (hk : k ≤ 7) (hv : m.meter k ≤ v) : presetResult k v m = .accepted :=
  (if_neg (by omega)).trans (if_neg (by omega))

end

/-! ### What is answered, and in which state -/

theorem State.storeAnd_refused {result : ResultCode} (h : result ≠ .accepted) (r : RecordId) (service : Bool)
    (f : State → State) (s : State) : s.storeAnd result r service f = s := if_neg h

theorem State.storeAnd_accepted {result : ResultCode} (h : result = .accepted) (r : RecordId) (service : Bool)
    (f : State → State) (s : State) : s.storeAnd result r service f = f (s.requestStore r false service) := if_pos h

/-- R189: an answer of a result alone to the request that is pending. -/
theorem State.answerPlain_pending {r : ResultCode} {s : State} {tag bt : Byte} {busy : Bool}
    (h : s.sli.buffer = .pending tag busy bt) :
    ∃ a, (s.answerPlain r).sli.buffer = .ready a ∧ a.tag = tag ∧ a.busy = busy ∧ a.busyTag = bt ∧ a.result = r := by
  rw [State.answerPlain, State.answerLink_pending _ _ _ _ _ _ _ _ _ h]
  exact ⟨_, rfl, rfl, rfl, rfl, rfl⟩

/-- An item request answered to the cab or to the service link, from the state after its store and its reset. -/
theorem State.reset_answered {n : Nat} {service : Bool} {s : State} {result : ResultCode} (hs : storesOk s)
    (hlen : s.smu.items.length = 32) (hn : result = .accepted → n ≤ 31)
    (htakes : result = .accepted → s.nvc.takes .items = true) :
    let u := s.storeAnd result .items service (State.resetItem n)
    u = { s with smu := u.smu, portA := u.portA, sli := u.sli, nvc := u.nvc, inFlight := u.inFlight }
      ∧ (∃ l, l = (if (u.smu.item n).state = (s.smu.item n).state then [] else [.reminderChanged])
          ∧ u.portA = s.portA.raisedAll l ∧ u.sli = { s.sli with counts := countsAfter l s.sli.counts })
      ∧ (result ≠ .accepted → u = s)
      ∧ (result = .accepted → u.smu.meters = s.smu.meters ∧ u.smu.residues = s.smu.residues
          ∧ (∀ j, j ≠ n → u.smu.item j = s.smu.item j)
          ∧ (u.smu.item n).mark = s.smu.meter (s.smu.item n).defn.basis ∧ (u.smu.item n).acked = false
          ∧ u.nvc.queued .items = true
          ∧ (service = true → ∃ e ∈ u.nvc.queue, e.record = .items ∧ e.service = true)) := by
  intro u
  by_cases hok : result = .accepted
  · obtain ⟨flight, hreset⟩ := State.resetItem_stored (n := n) (service := service) (s := s)
    have hu : u = _ := (State.storeAnd_accepted hok _ _ _ s).trans hreset
    have hlt : n < s.smu.items.length := by
      have := hn hok
      omega
    have hitem := Smu.withReset_item hlt
    clear_value u
    subst hu
    refine ⟨rfl, ⟨_, Smu.resetNotices_eq hlt, rfl, rfl⟩, fun h => absurd hok h, fun _ =>
      ⟨rfl, rfl, fun j hj => ?_, ?_, ?_,
      ?_, fun hservice => ?_⟩⟩
    · exact (hitem j).trans (if_neg hj)
    · exact congrArg Item.mark ((hitem n).trans (if_pos rfl))
    · exact congrArg Item.acked ((hitem n).trans (if_pos rfl))
    · exact Nvc.requested_queued .items false service s.nvc (htakes hok) hs.2.queued
    · subst hservice
      exact Nvc.requested_service false (htakes hok) hs.2.queued
  · have hu : u = s := State.storeAnd_refused hok _ _ _ s
    rw [hu]
    exact ⟨rfl, ⟨[], by simp, rfl, rfl⟩, fun _ => rfl, fun h => absurd h hok⟩

theorem Smu.acknowledge_refused {n : Nat} {m : Smu} (h : ackResult n m ≠ .accepted) : m.acknowledge n = m := if_neg h

theorem Smu.acknowledge_acked {n : Nat} {m : Smu} (hn : n < m.items.length) (h : ackResult n m = .accepted) :
    ((m.acknowledge n).item n).acked = true := by
  unfold Smu.acknowledge
  rw [if_pos h]
  simp [Smu.item, List.getD_eq_getElem?_getD, hn]

theorem itemsMoved_self (l : List Item) : itemsMoved l l = 0 := by simpa [movedBy] using itemsMoved_map id l

/-- R133, R148: a preset that the queue takes. -/
theorem State.preset_answered {k v : Nat} {s : State} {result : ResultCode} (hs : storesOk s)
    (hlen : s.smu.meters.length = 8) (hv : v ≤ 4294967295) (hk : result = .accepted → k < 8)
    (htakes : result = .accepted → s.nvc.takes .meters = true) :
    let u := s.storeAnd result .meters true (State.setMeter k (min 4294967295 v))
    u = { s with smu := u.smu, portA := u.portA, sli := u.sli, nvc := u.nvc, inFlight := u.inFlight }
      ∧ (∃ l, l = List.replicate (itemsMoved s.smu.items u.smu.items) .reminderChanged
          ∧ u.portA = s.portA.raisedAll l ∧ u.sli = { s.sli with counts := countsAfter l s.sli.counts })
      ∧ (result ≠ .accepted → u = s)
      ∧ (result = .accepted → u.smu.meter k = v ∧ u.smu.residues = s.smu.residues
          ∧ (∀ j, j ≠ k → u.smu.meter j = s.smu.meter j) ∧ u.nvc.queued .meters = true
          ∧ ∃ e ∈ u.nvc.queue, e.record = .meters ∧ e.service = true) := by
  intro u
  by_cases hok : result = .accepted
  · obtain ⟨q, hq⟩ : ∃ q : State, s.requestStore .meters false true = q := ⟨_, rfl⟩
    have hstore := hq.symm.trans (State.requestStore_meters false true s)
    rw [if_pos (htakes hok)] at hstore
    have hu : u = q.setMeter k v := by
      rw [← hq, ← Nat.min_eq_right hv]
      exact State.storeAnd_accepted hok _ _ _ s
    have hset := State.setMeter_accrued k v q
    have hmeters := State.setMeter_meters k v q
    have hframe := congrArg State.smu (State.setMeter_frame k v q)
    rw [← hu] at hset hmeters hframe
    have hitems : itemsMoved s.smu.items u.smu.items = movedBy (Item.onMeter k v) q.smu.items := by
      rw [hset.items, hstore, itemsMoved_map]
    have hnvc : u.nvc = s.nvc.requested .meters false true := by
      rw [show u.nvc = q.nvc from (congrArg State.nvc hset.frame :), hstore]
    obtain ⟨hportA, hsli⟩ := hset.notices
    rw [← hitems, hstore] at hportA hsli
    have hvalue : ∀ j, u.smu.meter j = if j = k then v else s.smu.meter j := fun j => by
      rw [Smu.meter, hmeters, hstore]
      exact Smu.meter_set (m := s.smu) (hlen ▸ hk hok) v j
    refine ⟨?_, ⟨_, rfl, hportA, hsli⟩, fun h => absurd hok h, fun _ => ⟨(hvalue k).trans (if_pos rfl), ?_,
      fun j hj => (hvalue j).trans (if_neg hj), ?_, ?_⟩⟩
    · have hall := hset.frame
      rw [hstore] at hall
      rw [hnvc]
      exact hall
    · rw [show u.smu.residues = q.smu.residues from (congrArg Smu.residues hframe :), hstore]
    · rw [hnvc]
      exact Nvc.requested_queued .meters false true s.nvc (htakes hok) hs.2.queued
    · rw [hnvc]
      exact Nvc.requested_service false (htakes hok) hs.2.queued
  · have hu : u = s := State.storeAnd_refused hok _ _ _ s
    rw [hu]
    exact ⟨rfl, ⟨[], by rw [itemsMoved_self]; rfl, rfl, rfl⟩, fun _ => rfl, fun h => absurd h hok⟩

theorem State.settle_exists (s : State) : ∃ write power flight, s.settle = { s with
    nvc := { s.nvc with write := write, power := power }, inFlight := flight } := ⟨_, _, _, s.settle_frame⟩

theorem Nvc.queued_congr {m n : Nvc} (h : m.queue = n.queue) (r : RecordId) : m.queued r = n.queued r := by
  unfold Nvc.queued
  rw [h]

/-- A cab request answered and settled, from the state `u` after its change. -/
theorem State.cabSettled {s u : State} (k : Nat) (result : ResultCode)
    (hu : u = { s with smu := u.smu, portA := u.portA, sli := u.sli, nvc := u.nvc, inFlight := u.inFlight }) :
    let t := (u.answerCab k result).settle
    t = { s with smu := t.smu, portA := u.portA.answered k result, sli := t.sli, nvc := t.nvc, inFlight := t.inFlight }
      ∧ t.smu = u.smu ∧ t.sli = u.sli ∧ t.nvc.queue = u.nvc.queue := by
  intro t
  obtain ⟨write, power, flight, hsettled⟩ := (u.answerCab k result).settle_exists
  have hall : t = { s with
      smu := u.smu, portA := u.portA.answered k result, sli := u.sli
      nvc := { u.nvc with write := write, power := power }, inFlight := flight } :=
    Eq.trans hsettled (congrArg (fun r : State => { r with
      portA := u.portA.answered k result, nvc := { u.nvc with write := write, power := power }
      inFlight := flight }) hu)
  clear_value t
  subst hall
  exact ⟨rfl, rfl, rfl, rfl⟩

/-- A service request answered and settled, from the state `u` after its change. -/
theorem State.plainSettled {s u : State} (result : ResultCode)
    (hu : u = { s with smu := u.smu, portA := u.portA, sli := u.sli, nvc := u.nvc, inFlight := u.inFlight })
    {l : List NoticeKind} (hsli : u.sli = { s.sli with counts := countsAfter l s.sli.counts }) :
    let t := (u.answerPlain result).settle
    t = { s with smu := t.smu, portA := t.portA, sli := t.sli, nvc := t.nvc, inFlight := t.inFlight
                 freeCount := t.freeCount }
      ∧ t.smu = u.smu ∧ t.portA = u.portA ∧ t.sli.counts = countsAfter l s.sli.counts ∧ t.nvc.queue = u.nvc.queue
      ∧ ∀ tag busy bt, s.sli.buffer = .pending tag busy bt →
          ∃ a, t.sli.buffer = .ready a ∧ a.tag = tag ∧ a.busy = busy ∧ a.busyTag = bt ∧ a.result = result := by
  intro t
  have hcounts := State.answerLink_counts result none none 0 [] u
  have hbuffer : ∀ tag busy bt, s.sli.buffer = .pending tag busy bt →
      ∃ a, (u.answerPlain result).sli.buffer = .ready a ∧ a.tag = tag ∧ a.busy = busy ∧ a.busyTag = bt
        ∧ a.result = result := fun tag busy bt h => State.answerPlain_pending (by rw [hsli]; exact h)
  obtain ⟨link, free, hanswer⟩ : ∃ link free, u.answerPlain result = { u with sli := link, freeCount := free } :=
    ⟨_, _, State.answerLink_frame result none none 0 [] u⟩
  change (u.answerPlain result).sli.counts = _ at hcounts
  rw [hanswer] at hcounts hbuffer
  obtain ⟨write, power, flight, hsettled⟩ := State.settle_exists { u with sli := link, freeCount := free }
  have hall : t = { s with
      smu := u.smu, portA := u.portA, sli := link, freeCount := free
      nvc := { u.nvc with write := write, power := power }, inFlight := flight } :=
    ((congrArg State.settle hanswer).trans hsettled).trans (congrArg (fun r : State => { r with
      sli := link, freeCount := free, nvc := { u.nvc with write := write, power := power }
      inFlight := flight }) hu)
  clear_value t
  subst hall
  exact ⟨rfl, rfl, rfl, hcounts.trans (congrArg Sli.counts hsli), rfl, hbuffer⟩

/-- Settles O49: each request by its first check that fails; an allowed one by its store. -/
theorem itemAndMeterRequests : Obligations.ItemAndMeterRequests := by
  refine ⟨fun k n s on => ?ack, fun k n s on hs hlen => ?cab, fun n s on hs hlen => ?service,
    fun k v s on hs hlen hv => ?preset⟩
  case ack =>
    refine ⟨ackResult n s.smu, { s with smu := s.smu.acknowledge n, inFlight := s.inFlight.erase (.reminderAck k n) },
      next_of_on on rfl, rfl, ackResult_range, ackResult_state, Smu.acknowledge_refused, fun hn hlen huse hstate => ?_⟩
    have hok := ackResult_accepted hn huse hstate
    exact ⟨hok, Smu.acknowledge_acked (by omega) hok⟩
  case cab =>
    obtain ⟨result, hresult⟩ : ∃ r, checkedResult (cabDoneResult n s.smu) .items (s.taken (.cabItemDone k n)) = r :=
      ⟨_, rfl⟩
    obtain ⟨hframe, ⟨l, hl, hportA, hsli⟩, hrefused, htaken⟩ := State.reset_answered (n := n) (service := false)
      (s := s.taken (.cabItemDone k n)) (result := result) hs hlen
      (fun h => cabDoneResult_accepted (checkedResult_accepted (hresult.trans h)))
      (fun h => checkedResult_taken (hresult.trans h))
    obtain ⟨u, hu⟩ : ∃ u, (s.taken (.cabItemDone k n)).storeAnd result .items false (State.resetItem n) = u := ⟨_, rfl⟩
    rw [hu] at hframe hl hportA hsli hrefused htaken
    obtain ⟨htframe, hsmu, htsli, hqueue⟩ := State.cabSettled k result hframe
    obtain ⟨t, ht⟩ : ∃ t, (u.answerCab k result).settle = t := ⟨_, rfl⟩
    have hexec : exec (.cabItemDone k n) s = .next t := next_of_on on (by rw [← ht, ← hu, ← hresult]; rfl)
    rw [ht] at htframe hsmu htsli hqueue
    rw [hsmu.symm] at hl
    rw [Nvc.queued_congr hqueue.symm, hsmu.symm] at htaken
    have hrefusal : ∀ c, c ≠ .accepted → cabDoneResult n s.smu = c → result = c := fun c hc h => by
      rw [← hresult, checkedResult_refused (h ▸ hc), h]
    refine ⟨result, u.portA, t, hexec, htframe, ⟨l, hl, hportA, htsli.trans hsli⟩,
      fun hn => hrefusal _ (by decide) (if_pos hn),
      fun hn huse => hrefusal _ (by decide) (cabDoneResult_state hn huse),
      fun hn huse => ⟨fun h => hrefusal _ (by decide) (cabDoneResult_owner hn huse h), fun h => ⟨fun hst =>
        hrefusal _ (by decide) ((cabDoneResult_checked hn huse h).trans (if_pos hst)), fun hst => ?_⟩⟩,
      fun h => ?_, fun h => ?_⟩
    · have hno : ¬((s.smu.item n).state = some .ok ∨ (s.smu.item n).state = some .overdue) := by
        obtain hst | hst := hst <;> simp [hst]
      rw [← hresult, checkedResult_stored ((cabDoneResult_checked hn huse h).trans (if_neg hno))]
      rfl
    · obtain rfl := hrefused h
      exact ⟨hsmu, rfl, htsli, hqueue⟩
    · obtain ⟨hmeters, hresidues, hothers, hmark, hacked, hqueued, -⟩ := htaken h
      exact ⟨hmeters, hresidues, hothers, hmark, hacked, hqueued⟩
  case service =>
    obtain ⟨result, hresult⟩ : ∃ r, checkedResult (serviceDoneResult n s.smu) .items (s.taken (.itemDone n)) = r :=
      ⟨_, rfl⟩
    obtain ⟨hframe, ⟨l, hl, hportA, hsli⟩, hrefused, htaken⟩ := State.reset_answered (n := n) (service := true)
      (s := s.taken (.itemDone n)) (result := result) hs hlen
      (fun h => serviceDoneResult_accepted (checkedResult_accepted (hresult.trans h)))
      (fun h => checkedResult_taken (hresult.trans h))
    obtain ⟨u, hu⟩ : ∃ u, (s.taken (.itemDone n)).storeAnd result .items true (State.resetItem n) = u := ⟨_, rfl⟩
    rw [hu] at hframe hl hportA hsli hrefused htaken
    obtain ⟨htframe, hsmu, htportA, hcounts, hqueue, hbuffer⟩ := State.plainSettled result hframe hsli
    obtain ⟨t, ht⟩ : ∃ t, (u.answerPlain result).settle = t := ⟨_, rfl⟩
    have hexec : exec (.itemDone n) s = .next t := next_of_on on (by rw [← ht, ← hu, ← hresult]; rfl)
    rw [ht] at htframe hsmu htportA hcounts hqueue hbuffer
    rw [hsmu.symm] at hl
    rw [Nvc.queued_congr hqueue.symm, hsmu.symm, hqueue.symm] at htaken
    have hrefusal : ∀ c, c ≠ .accepted → serviceDoneResult n s.smu = c → result = c := fun c hc h => by
      rw [← hresult, checkedResult_refused (h ▸ hc), h]
    refine ⟨result, t, hexec, htframe, hbuffer, fun hn => hrefusal _ (by decide) (if_pos hn),
      fun hn huse => hrefusal _ (by decide) (serviceDoneResult_state hn huse), fun hn huse => ?_,
      ⟨l, hl, htportA.trans hportA, hcounts⟩, fun h => ?_, fun h => ?_⟩
    · rw [← hresult, checkedResult_stored (serviceDoneResult_ok hn huse)]
      rfl
    · obtain rfl := hrefused h
      exact ⟨hsmu, htportA, hqueue⟩
    · obtain ⟨hmeters, hresidues, hothers, hmark, hacked, hqueued, hmarked⟩ := htaken h
      exact ⟨hmeters, hresidues, hothers, hmark, hacked, hqueued, hmarked rfl⟩
  case preset =>
    obtain ⟨result, hresult⟩ : ∃ r, checkedResult (presetResult k v s.smu) .meters (s.taken (.meterPreset k v)) = r :=
      ⟨_, rfl⟩
    obtain ⟨hframe, ⟨l, hl, hportA, hsli⟩, hrefused, htaken⟩ := State.preset_answered (k := k)
      (s := s.taken (.meterPreset k v)) (result := result) hs hlen hv
      (fun h => (presetResult_accepted (checkedResult_accepted (hresult.trans h))).1)
      (fun h => checkedResult_taken (hresult.trans h))
    obtain ⟨u, hu⟩ : ∃ u, (s.taken (.meterPreset k v)).storeAnd result .meters true
      (State.setMeter k (min 4294967295 v)) = u := ⟨_, rfl⟩
    rw [hu] at hframe hl hportA hsli hrefused htaken
    obtain ⟨htframe, hsmu, htportA, hcounts, hqueue, hbuffer⟩ := State.plainSettled result hframe hsli
    obtain ⟨t, ht⟩ : ∃ t, (u.answerPlain result).settle = t := ⟨_, rfl⟩
    have hexec : exec (.meterPreset k v) s = .next t := next_of_on on (by rw [← ht, ← hu, ← hresult]; rfl)
    rw [ht] at htframe hsmu htportA hcounts hqueue hbuffer
    rw [hsmu.symm] at hl
    rw [Nvc.queued_congr hqueue.symm, hsmu.symm, hqueue.symm] at htaken
    refine ⟨result, t, hexec, htframe, hbuffer, fun h => ?_, fun hk hle => ?_, ⟨l, hl, htportA.trans hportA, hcounts⟩,
      fun h => ?_, htaken⟩
    · have hrange := presetResult_range h
      rw [← hresult, checkedResult_refused (by rw [hrange]; decide), hrange]
    · rw [← hresult, checkedResult_stored (presetResult_ok hk hle)]
      rfl
    · obtain rfl := hrefused h
      exact ⟨hsmu, htportA, hqueue⟩

end Sys2Proof.Machine
end

/-! ## Fault reports and CLEAR_HOLD (O50, O51) -/

section
namespace Sys2Proof.Machine

open Sys2Proof

/-! ### A fault report by its class (R152, R159, R161) -/

theorem activeKey_eq (r : FaultReport) : activeKey r = (r.code,
    if r.code ∈ [.sensorMissing, .sensorRange, .engineLost, .startFailed] then some r.detail else none) := by
  have hkeyed : keyed r.code = true ↔ r.code ∈ [.sensorMissing, .sensorRange, .engineLost, .startFailed] := by
    cases r.code <;> simp [keyed]
  unfold activeKey
  exact congrArg (Prod.mk r.code) (if_congr hkeyed rfl rfl)

theorem recordMade_recordOf (r : FaultReport) (second : Bool) (s : State) :
    recordMade r second s (s.recordOf r second) := by
  refine ⟨rfl, rfl, rfl, rfl, rfl, fun m hm => ?_, fun hnone => ⟨fun hframe => ?_, ?_, ?_, ?_, ?_⟩,
    fun p hp => ⟨fun hframe => ?_, ?_, ?_, ?_, ?_⟩⟩
  case refine_1 => simp [State.recordOf, hm]
  case refine_2 => simp [State.recordOf, hnone, hframe]
  case refine_7 => simp [State.recordOf, hp, hframe]
  all_goals simp [State.recordOf, poseMarkOf, *]

theorem State.recordFault_recorded (r : FaultReport) (second : Bool) (s : State) :
    recorded r second s (s.recordFault r second) :=
  ⟨⟨_, recordMade_recordOf r second s, rfl⟩, rfl⟩

section
variable {r : FaultReport} {s : State}

theorem State.takeFault_advisory (h : faultClass r.code = .advisory) : s.takeFault r = s.recordFault r false := by
  simp [State.takeFault, h]

theorem State.takeFault_recoverable (h : faultClass r.code = .recoverable) : s.takeFault r = s.recoverable r := by
  simp [State.takeFault, h]

theorem State.takeFault_enters (h : faultClass r.code = .latching) (hheld : s.fhu.held = none) :
    s.takeFault r = s.enterHold r := by
  simp [State.takeFault, h, hheld]

theorem State.takeFault_escalates (h : faultClass r.code = .latching) (hheld : s.fhu.held.isSome = true) :
    s.takeFault r = s.escalate r := by
  simp [State.takeFault, h, Option.isSome_iff_ne_none.1 hheld]

theorem State.recoverable_repeated (hc : r.clearing = false)
    (h : activeKey r ∈ s.fhu.active) : s.recoverable r = s := by
  simp [State.recoverable, hc, h]

theorem State.recoverable_new (hc : r.clearing = false) (h : activeKey r ∉ s.fhu.active) : s.recoverable r =
    State.recordFault r false { s with fhu := { s.fhu with active := s.fhu.active ++ [activeKey r] } } := by
  simp [State.recoverable, hc, h]

theorem State.recordFault_eq (b : Bool) : s.recordFault r b = { s with
    fhu := s.fhu.push (s.recordOf r b)
    portA := s.portA.raised .faultRecorded
    sli := { s.sli with counts := noticeRaised s.sli.counts .faultRecorded } } := rfl

theorem State.enterHold_stored (r : FaultReport) (s : State) :
    s.enterHold r = (State.requestStore .hold true false (State.deliverHold { s with
      fhu := { s.fhu.push (s.recordOf r false) with held := some { code := r.code, detail := r.detail } }
      portA := s.portA.raised .faultRecorded
      sli := { s.sli with counts := noticeRaised s.sli.counts .faultRecorded } })).raiseBoth .holdEntered := by
  unfold State.enterHold
  rw [State.recordFault_eq]

theorem State.hold_stored (f : Fhu) (a : PortA) (l : Sli) (s : State) :
    State.requestStore .hold true false (State.deliverHold { s with fhu := f, portA := a, sli := l }) = { s with
      fhu := { f with unstored := !s.nvc.takes .hold }, portA := a, sli := l
      nvc := s.nvc.requested .hold true false
      inFlight := s.inFlight ++ [.levHoldEntry] ++ [.epcHoldEntry] } := rfl

theorem State.enterHold_eq (r : FaultReport) (s : State) : s.enterHold r = { s with
    fhu := { s.fhu.push (s.recordOf r false) with
      held := some { code := r.code, detail := r.detail }, unstored := !s.nvc.takes .hold }
    nvc := s.nvc.requested .hold true false
    portA := s.portA.raisedAll [.faultRecorded, .holdEntered]
    sli := { s.sli with counts := countsAfter [.faultRecorded, .holdEntered] s.sli.counts }
    inFlight := s.inFlight ++ [.levHoldEntry] ++ [.epcHoldEntry] } := by
  rw [State.enterHold_stored, State.hold_stored]
  rfl

theorem State.escalated_eq : s.escalated r = { s with
    fhu := { s.fhu.push (s.recordOf r true) with escalation := min 255 (s.fhu.escalation + 1) }
    portA := s.portA.raisedAll [.faultRecorded]
    sli := { s.sli with counts := countsAfter [.faultRecorded] s.sli.counts } } := rfl

theorem State.escalate_stored (h : s.fhu.unstored = true) : s.escalate r = { s with
    fhu := { s.fhu.push (s.recordOf r true) with
      escalation := min 255 (s.fhu.escalation + 1), unstored := !s.nvc.takes .hold }
    nvc := s.nvc.requested .hold true false
    portA := s.portA.raisedAll [.faultRecorded]
    sli := { s.sli with counts := countsAfter [.faultRecorded] s.sli.counts } } := by
  rw [State.escalate_eq, if_pos h, State.escalated_eq]
  rfl

theorem State.escalate_settled (h : s.fhu.unstored = false) : s.escalate r = { s with
    fhu := { s.fhu.push (s.recordOf r true) with escalation := min 255 (s.fhu.escalation + 1) }
    portA := s.portA.raisedAll [.faultRecorded]
    sli := { s.sli with counts := countsAfter [.faultRecorded] s.sli.counts } } := by
  rw [State.escalate_eq, if_neg (by simp [h]), State.escalated_eq]

theorem State.takeFault_frame (r : FaultReport) (s : State) : ∃ f a l n q, s.takeFault r = { s with
    fhu := f, portA := a, sli := l, nvc := n, inFlight := q } := by
  cases hclass : faultClass r.code with
  | advisory => exact ⟨_, _, _, _, _, (State.takeFault_advisory hclass).trans (State.recordFault_eq false)⟩
  | recoverable =>
    rw [State.takeFault_recoverable hclass]
    cases hclear : r.clearing with
    | true => exact ⟨_, _, _, _, _, State.recoverable_cleared r s hclear⟩
    | false =>
      by_cases hold : activeKey r ∈ s.fhu.active
      · exact ⟨_, _, _, _, _, State.recoverable_repeated hclear hold⟩
      · exact ⟨_, _, _, _, _, (State.recoverable_new hclear hold).trans (State.recordFault_eq false)⟩
  | latching =>
    by_cases hheld : s.fhu.held = none
    · exact ⟨_, _, _, _, _, (State.takeFault_enters hclass hheld).trans (State.enterHold_eq r s)⟩
    · rw [State.takeFault_escalates hclass (Option.isSome_iff_ne_none.2 hheld)]
      cases hmark : s.fhu.unstored with
      | true => exact ⟨_, _, _, _, _, State.escalate_stored hmark⟩
      | false => exact ⟨_, _, _, _, _, State.escalate_settled hmark⟩

end

theorem recorded_congr {r : FaultReport} {second : Bool} {s t u : State} (h : u.fhu = t.fhu)
    (hr : recorded r second s t) : recorded r second s u := by
  unfold recorded
  rw [h]
  exact hr

/-- Settles O50: a report by its class, its code's place in the active list, and the hold state. -/
theorem faultReportsAreTakenByClass : Obligations.FaultReportsAreTakenByClass := by
  intro r s on
  obtain ⟨u, hu⟩ : ∃ u, (s.taken (.faultReport r)).takeFault r = u := ⟨_, rfl⟩
  obtain ⟨f, a, l, n, q, hframe⟩ := State.takeFault_frame r (s.taken (.faultReport r))
  obtain ⟨write, power, flight, hsettled⟩ := u.settle_exists
  have hflight := u.settle_inFlight
  obtain ⟨t, ht⟩ : ∃ t, u.settle = t := ⟨_, rfl⟩
  rw [ht] at hsettled hflight
  rw [hu] at hframe
  have hfhu : t.fhu = u.fhu := (congrArg State.fhu hsettled :)
  have hportA : t.portA = u.portA := (congrArg State.portA hsettled :)
  have hsli : t.sli = u.sli := (congrArg State.sli hsettled :)
  have hqueue : t.nvc.queue = u.nvc.queue := (congrArg (fun v : State => v.nvc.queue) hsettled :)
  have hnotices : ∀ {cab link}, noticesRaised cab link s u → noticesRaised cab link s t := fun h =>
    noticesRaised_congr h rfl rfl hportA hsli
  have hmem : ∀ {m}, m ∈ u.inFlight → m ∈ t.inFlight := fun h => by
    obtain hq | hq := hflight <;> rw [hq]
    · exact h
    · exact List.mem_append_left _ h
  have hframed : t = { s with fhu := t.fhu, portA := t.portA, sli := t.sli, nvc := t.nvc, inFlight := t.inFlight } := by
    rw [hframe] at hsettled
    rw [hsettled]
    rfl
  have advisory (h : faultClass r.code = .advisory) := hu.symm.trans (State.takeFault_advisory h)
  have recoverable (h : faultClass r.code = .recoverable) := hu.symm.trans (State.takeFault_recoverable h)
  have enters (h : faultClass r.code = .latching) (hheld : s.fhu.held = none) :=
    hu.symm.trans ((State.takeFault_enters (s := s.taken (.faultReport r)) h hheld).trans (State.enterHold_eq r _))
  have escalates (h : faultClass r.code = .latching) (hheld : s.fhu.held.isSome = true) :=
    hu.symm.trans (State.takeFault_escalates (s := s.taken (.faultReport r)) h hheld)
  have cleared (h : faultClass r.code = .recoverable) (hc : r.clearing = true) :=
    (recoverable h).trans (State.recoverable_cleared r _ hc)
  have repeated (h : faultClass r.code = .recoverable) (hc : r.clearing = false) (hold : activeKey r ∈ s.fhu.active) :=
    (recoverable h).trans (State.recoverable_repeated (s := s.taken (.faultReport r)) hc hold)
  have new (h : faultClass r.code = .recoverable) (hc : r.clearing = false) (hnew : activeKey r ∉ s.fhu.active) :=
    (recoverable h).trans (State.recoverable_new (s := s.taken (.faultReport r)) hc hnew)
  refine ⟨t, next_of_on on ((congrArg State.settle hu).trans ht), hframed, activeKey_eq r, fun h => ?advisory,
    fun h hc => ?cleared, fun h hc hold => ?repeated, fun h => ?notices, fun h hheld => ?entryNotices,
    fun h hc hnew => ?new, fun h => ?queue, fun h hheld => ?enters, fun c h hheld => ?escalates⟩
  case advisory =>
    have hrecorded := State.recordFault_recorded r false (s.taken (.faultReport r))
    rw [← advisory h] at hrecorded
    refine ⟨recorded_congr hfhu hrecorded, hfhu ▸ ?_⟩
    rw [advisory h]
    rfl
  case cleared =>
    have hu := cleared h hc
    refine ⟨fun h1 h2 => ?_, fun h1 => ?_, hnotices ?_⟩
    · rw [hfhu, hu]
      exact congrArg (fun l => { s.fhu with active := l }) (List.filter_congr fun x _ =>
        decide_eq_decide.2 (not_congr (mem_clearedKeys_other r x h1 h2)))
    · rw [hfhu, hu]
      exact congrArg (fun l => { s.fhu with active := l }) (List.filter_congr fun x _ =>
        decide_eq_decide.2 ((not_congr (mem_clearedKeys_engine r x h1)).trans not_or))
    · rw [hu]
      exact ⟨rfl, rfl⟩
  case repeated =>
    have hu := repeated h hc hold
    refine ⟨hfhu.trans (by rw [hu]; rfl), hnotices ?_⟩
    rw [hu]
    exact ⟨rfl, rfl⟩
  case notices =>
    refine hnotices ?_
    obtain h | ⟨h, hc, hnew⟩ | ⟨h, hheld⟩ := h
    · rw [advisory h]
      exact State.recordFault_notices r false (s.taken (.faultReport r))
    · rw [new h hc hnew]
      exact ⟨rfl, rfl⟩
    · rw [escalates h hheld]
      cases hmark : s.fhu.unstored with
      | true =>
        rw [State.escalate_stored (s := s.taken (.faultReport r)) hmark]
        exact ⟨rfl, rfl⟩
      | false =>
        rw [State.escalate_settled (s := s.taken (.faultReport r)) hmark]
        exact ⟨rfl, rfl⟩
  case entryNotices =>
    refine hnotices ?_
    rw [enters h hheld]
    exact ⟨rfl, rfl⟩
  case new =>
    have hrecorded := State.recordFault_recorded r false { s.taken (.faultReport r) with
      fhu := { s.fhu with active := s.fhu.active ++ [activeKey r] } }
    have hu := new h hc hnew
    refine ⟨recorded_congr hfhu (hu ▸ hrecorded), hfhu ▸ ?_⟩
    rw [hu]
    rfl
  case queue =>
    rw [hqueue]
    cases hclass : faultClass r.code with
    | advisory => rw [advisory hclass]; rfl
    | latching => exact absurd hclass h
    | recoverable =>
      cases hc : r.clearing with
      | true => rw [cleared hclass hc]; rfl
      | false =>
        by_cases hold : activeKey r ∈ s.fhu.active
        · rw [repeated hclass hc hold]; rfl
        · rw [new hclass hc hold]; rfl
  case enters =>
    have hu := enters h hheld
    have hrecorded := State.recordFault_recorded r false (s.taken (.faultReport r))
    refine ⟨recorded_congr hfhu ?_, hfhu ▸ ?_, hmem ?_, hmem ?_, ?_⟩
    · rw [hu]
      exact hrecorded
    · rw [hu]
      rfl
    · rw [hu]
      simp
    · rw [hu]
      simp
    · rw [hqueue, hu]
      rfl
  case escalates =>
    have hu := escalates h (by rw [hheld]; rfl)
    have hrecorded := State.recordFault_recorded r true (s.taken (.faultReport r))
    have hsame : u.inFlight = (s.taken (.faultReport r)).inFlight := by
      rw [hu]
      cases hmark : s.fhu.unstored with
      | true => rw [State.escalate_stored (s := s.taken (.faultReport r)) hmark]
      | false => rw [State.escalate_settled (s := s.taken (.faultReport r)) hmark]
    have hentries : ∀ m ∈ ([.levHoldEntry, .epcHoldEntry] : List Instr), m ∈ t.inFlight → m ∈ s.inFlight := by
      intro m hm hin
      have hne : m ≠ .supervisorRestart := by
        rintro rfl
        simp at hm
      rw [hsame] at hflight
      obtain hq | hq := hflight <;> rw [hq] at hin
      · exact List.mem_of_mem_erase hin
      · obtain hin | hin := List.mem_append.1 hin
        · exact List.mem_of_mem_erase hin
        · exact absurd (List.mem_singleton.1 hin) hne
    cases hmark : s.fhu.unstored with
    | true =>
      have hu := hu.trans (State.escalate_stored (s := s.taken (.faultReport r)) hmark)
      refine ⟨recorded_congr hfhu ?_, hfhu ▸ ?_, fun _ => ?_, nofun, hentries⟩
      · rw [hu]
        exact hrecorded
      · rw [hu]
        rfl
      · rw [hqueue, hu]
        rfl
    | false =>
      have hu := hu.trans (State.escalate_settled (s := s.taken (.faultReport r)) hmark)
      refine ⟨recorded_congr hfhu ?_, hfhu ▸ ?_, nofun, fun _ => ?_, hentries⟩
      · rw [hu]
        exact hrecorded
      · rw [hu]
        simp [Fhu.push, hmark]
      · rw [hqueue, hu]
        rfl

/-! ### CLEAR_HOLD (R162) -/

theorem State.hold_released (f : Fhu) (s : State) :
    State.requestStore .hold true true ((State.deliver .levHoldClear { s with fhu := f }).deliver .epcHoldClear)
      = { s with fhu := { f with unstored := !s.nvc.takes .hold }, nvc := s.nvc.requested .hold true true
                 inFlight := s.inFlight ++ [.levHoldClear] ++ [.epcHoldClear] } := rfl

theorem State.leaveHold_eq (s : State) : s.leaveHold = { s with
    fhu := { s.fhu with held := none, escalation := 0, unstored := !s.nvc.takes .hold }
    nvc := s.nvc.requested .hold true true
    portA := s.portA.raisedAll [.holdCleared]
    sli := { s.sli with counts := countsAfter [.holdCleared] s.sli.counts }
    inFlight := s.inFlight ++ [.levHoldClear] ++ [.epcHoldClear] } := by
  unfold State.leaveHold
  dsimp only
  rw [State.hold_released]
  rfl

section
variable {s : State}

theorem State.clearHold_leaves (hheld : s.fhu.held.isSome = true) (hnone : s.causes = 0) :
    s.clearHold = s.leaveHold.answerDetail .accepted s.clearDetail := (if_pos hheld).trans (if_pos hnone)

theorem State.clearHold_refused (hheld : s.fhu.held.isSome = true) (hcause : s.causes ≠ 0) :
    s.clearHold = s.answerDetail .refusedState s.causes := (if_pos hheld).trans (if_neg hcause)

theorem State.clearHold_stores (hheld : s.fhu.held = none) (hmark : s.fhu.unstored = true) :
    s.clearHold = (s.requestStore .hold true true).answerDetail .accepted s.clearDetail :=
  (if_neg (by simp [hheld])).trans (if_pos hmark)

theorem State.clearHold_clear (hheld : s.fhu.held = none) (hmark : s.fhu.unstored = false) :
    s.clearHold = s.answerDetail .refusedState 0 := (if_neg (by simp [hheld])).trans (if_neg (by simp [hmark]))

theorem State.causes_lt (s : State) : s.causes < 8 := by
  have hbit : ∀ b, bit b ≤ 1 := by decide
  have h1 := hbit s.poseCause
  have h2 := hbit s.deepCause
  have h4 := hbit s.nvc.builtIn
  unfold State.causes
  omega

end

/-- A request answered with a detail and settled, from the state `u` after its change. -/
theorem State.detailSettled {s u : State} (code : ResultCode) {detail : Nat} (hdetail : detail < 65536)
    (hu : u = { s with fhu := u.fhu, portA := u.portA, sli := u.sli, nvc := u.nvc, inFlight := u.inFlight })
    {l : List NoticeKind} (hsli : u.sli = { s.sli with counts := countsAfter l s.sli.counts }) :
    ∃ t, (u.answerDetail code detail).settle = t
      ∧ t = { s with fhu := t.fhu, portA := t.portA, sli := t.sli, nvc := t.nvc, inFlight := t.inFlight
                     freeCount := t.freeCount }
      ∧ (∀ tag busy bt, s.sli.buffer = .pending tag busy bt →
          ∃ a, t.sli.buffer = .ready a ∧ a.tag = tag ∧ a.busy = busy ∧ a.busyTag = bt ∧ a.result = code
            ∧ a.detail.toNat = detail ∧ a.returned = 0 ∧ a.data = [])
      ∧ t.fhu = u.fhu ∧ t.portA = u.portA ∧ t.nvc.queue = u.nvc.queue
      ∧ t.sli.counts = countsAfter l s.sli.counts ∧ ∀ c ∈ u.inFlight, c ∈ t.inFlight := by
  have hcounts := State.answerLink_counts code none (some (BitVec.ofInt 16 detail)) 0 [] u
  have hbuffer : ∀ tag busy bt, s.sli.buffer = .pending tag busy bt →
      ∃ a, (u.answerDetail code detail).sli.buffer = .ready a ∧ a.tag = tag ∧ a.busy = busy ∧ a.busyTag = bt
        ∧ a.result = code ∧ a.detail.toNat = detail ∧ a.returned = 0 ∧ a.data = [] := fun tag busy bt h => by
    have hpending : u.sli.buffer = .pending tag busy bt := by rw [hsli]; exact h
    rw [State.answerDetail, State.answerLink_pending _ _ _ _ _ _ _ _ _ hpending]
    refine ⟨_, rfl, rfl, rfl, rfl, rfl, ?_, rfl, rfl⟩
    show (BitVec.ofInt 16 (detail : Int)).toNat = detail
    rw [BitVec.ofInt_natCast, BitVec.toNat_ofNat, Nat.mod_eq_of_lt hdetail]
  obtain ⟨link, free, hanswer⟩ : ∃ link free, u.answerDetail code detail = { u with sli := link, freeCount := free } :=
    ⟨_, _, State.answerLink_frame code none _ 0 [] u⟩
  change (u.answerDetail code detail).sli.counts = _ at hcounts
  have hmem := fun c => State.mem_settle c (u.answerDetail code detail)
  rw [hanswer] at hcounts hbuffer hmem
  obtain ⟨write, power, flight, hsettled⟩ := State.settle_exists { u with sli := link, freeCount := free }
  rw [hsettled] at hmem
  refine ⟨_, congrArg State.settle hanswer, ?_⟩
  obtain ⟨t, ht⟩ : ∃ t : State, ({ u with sli := link, freeCount := free } : State).settle = t := ⟨_, rfl⟩
  have hall : t = { s with
      fhu := u.fhu, portA := u.portA, sli := link, freeCount := free
      nvc := { u.nvc with write := write, power := power }, inFlight := flight } :=
    (ht.symm.trans hsettled).trans (congrArg (fun r : State => { r with
      sli := link, freeCount := free, nvc := { u.nvc with write := write, power := power }
      inFlight := flight }) hu)
  rw [ht]
  clear ht hsettled hanswer
  subst hall
  exact ⟨rfl, hbuffer, rfl, rfl, rfl, hcounts.trans (congrArg Sli.counts hsli), hmem⟩

/-- Settles O51: the four outcomes, by the hold state, the causes present and the unstored mark. -/
theorem clearHoldJudgesTheCauses : Obligations.ClearHoldJudgesTheCauses := by
  intro s on pose deep sum stored
  have hsum : s.causes = sum := by
    have hdeep : 2 * bit s.deepCause = deep := by
      show 2 * bit s.deepCause = if s.deepCause = true then 2 else 0
      cases s.deepCause <;> rfl
    have hpose : bit s.poseCause = pose := by
      unfold State.poseCause
      simp only [pose]
      cases s.geu.current with
      | none => rfl
      | some r => cases hv : r.pose.valid <;> simp [bit, hv]
    have hbuilt : 4 * bit s.nvc.builtIn = if s.nvc.builtIn then 4 else 0 := by cases s.nvc.builtIn <;> rfl
    show bit s.poseCause + 2 * bit s.deepCause + 4 * bit s.nvc.builtIn = _
    rw [hdeep, hpose, hbuilt]
  have hsmall : stored < 65536 := by
    simp only [stored]
    split <;> decide
  by_cases hheld : s.fhu.held = none
  · have hclear : ¬s.fhu.held.isSome = true := by simp [hheld]
    cases hmark : s.fhu.unstored with
    | true =>
      obtain ⟨t, ht, hframe, hbuffer, hfhu, hportA, hqueue, hcounts, -⟩ := State.detailSettled
        (s := s.taken .clearHold) (u := (s.taken .clearHold).requestStore .hold true true) .accepted hsmall rfl
        (l := []) rfl
      refine ⟨t, .accepted, stored, next_of_on on ?_, hframe, hbuffer, fun h => absurd h hclear,
        fun h => absurd h hclear, fun _ h => absurd h (by simp), fun _ _ => ⟨rfl, rfl, hfhu, hportA, hcounts, hqueue⟩⟩
      exact (congrArg State.settle (State.clearHold_stores (s := s.taken .clearHold) hheld hmark)).trans ht
    | false =>
      obtain ⟨t, ht, hframe, hbuffer, hfhu, hportA, hqueue, hcounts, -⟩ := State.detailSettled
        (s := s.taken .clearHold) (u := s.taken .clearHold) .refusedState (detail := 0) (by decide) rfl (l := []) rfl
      refine ⟨t, .refusedState, 0, next_of_on on ?_, hframe, hbuffer, fun h => absurd h hclear,
        fun h => absurd h hclear, fun _ _ => ⟨rfl, rfl, hfhu, hportA, hqueue, hcounts⟩, fun _ h => absurd h (by simp)⟩
      exact (congrArg State.settle (State.clearHold_clear (s := s.taken .clearHold) hheld hmark)).trans ht
  · have hsome : s.fhu.held.isSome = true := Option.isSome_iff_ne_none.2 hheld
    by_cases hcause : s.causes = 0
    · obtain ⟨t, ht, hframe, hbuffer, hfhu, hportA, hqueue, hcounts, hmem⟩ := State.detailSettled
        (s := s.taken .clearHold) (u := (s.taken .clearHold).leaveHold) .accepted hsmall
        (by rw [State.leaveHold_eq]) (l := [.holdCleared]) (by rw [State.leaveHold_eq])
      rw [State.leaveHold_eq] at hfhu hportA hqueue hmem
      refine ⟨t, .accepted, stored, next_of_on on ?_, hframe, hbuffer, fun _ h => absurd (hsum.symm.trans hcause) h,
        fun _ _ => ⟨rfl, rfl, (congrArg Fhu.held hfhu :), (congrArg Fhu.escalation hfhu :),
          (congrArg Fhu.ring hfhu :), (congrArg Fhu.unstored hfhu :), hqueue, hportA, hcounts, hmem _
            (by simp), hmem _ (by simp)⟩,
        fun h => absurd h hheld, fun h => absurd h hheld⟩
      exact (congrArg State.settle (State.clearHold_leaves (s := s.taken .clearHold) hsome hcause)).trans ht
    · obtain ⟨t, ht, hframe, hbuffer, hfhu, hportA, hqueue, hcounts, -⟩ := State.detailSettled
        (s := s.taken .clearHold) (u := s.taken .clearHold) .refusedState (detail := s.causes)
        (s.causes_lt.trans (by decide)) rfl (l := []) rfl
      refine ⟨t, .refusedState, s.causes, next_of_on on ?_, hframe, hbuffer,
        fun _ _ => ⟨rfl, hsum, hfhu, hportA, hqueue, hcounts⟩, fun _ h => absurd (hsum.trans h) hcause,
        fun h => absurd h hheld, fun h => absurd h hheld⟩
      exact (congrArg State.settle (State.clearHold_refused (s := s.taken .clearHold) hsome hcause)).trans ht

end Sys2Proof.Machine
end

/-! ## Store requests and write completions (O16) -/

section
namespace Sys2Proof.Machine

open Sys2Proof

/-! ### A request, case by case (R168) -/

section
variable {r : RecordId} {n : Nvc} {head service : Bool}

theorem Nvc.takes_iff : n.takes r = true ↔ r ∈ n.queue.map StoreEntry.record ∨ n.queue.length < 4 := by
  rw [Nvc.takes, Bool.or_eq_true, Nvc.queued_iff, decide_eq_true_eq]

theorem Nvc.writing_iff : n.writing r = true ↔ n.write.map NvWrite.record = some r := by
  unfold Nvc.writing
  cases n.write <;> simp

theorem Nvc.requested_power (h : n.takes r = true) :
    (n.requested r head service).power = if n.power = .readyOff then .shuttingDown else n.power := by
  simp [Nvc.requested, h]

/-- An entry at the head place: behind the write in flight, or first. -/
theorem atHead_eq (w : Option NvWrite) (e : StoreEntry) (l : List StoreEntry) :
    atHead w.isSome e l = if w = none then e :: l else l.take 1 ++ e :: l.drop 1 := by
  cases w <;> cases l <;> rfl

theorem StoreEntry.absorbed_waiting (service : Bool) (e : StoreEntry) :
    e.absorbed false service = { e with service := e.service || service } := by simp [StoreEntry.absorbed]

theorem Nvc.queueAfter_writing (h : n.writing r = true) : n.queueAfter r head service = n.queue.map (fun e =>
    if e.record = r then { e with again := true, service := e.service || service } else e) := by
  have habsorbed : ∀ e : StoreEntry, e.absorbed true service =
    { e with again := true, service := e.service || service } :=
    fun e => by simp [StoreEntry.absorbed]
  rw [Nvc.queueAfter, if_pos h]
  simp only [habsorbed]

/-- In a queue without a record twice, the entry of a record is the one found. -/
theorem find_entry {l : List StoreEntry} (hnodup : (l.map StoreEntry.record).Nodup) {e : StoreEntry} (he : e ∈ l)
    (hr : e.record = r) : l.find? (fun x => decide (x.record = r)) = some e := by
  induction l with
  | nil => simp at he
  | cons x l ih =>
    obtain ⟨hx, hl⟩ := List.nodup_cons.1 hnodup
    obtain rfl | he := List.mem_cons.1 he
    · exact List.find?_cons_of_pos (by simpa using hr)
    · have hne : x.record ≠ r := fun h => hx (List.mem_map.2 ⟨e, he, hr.trans h.symm⟩)
      rw [List.find?_cons_of_neg (by simpa using hne)]
      exact ih hl he

theorem Nvc.queueAfter_waiting (hq : queueOk n) (hw : n.writing r = false) {e : StoreEntry} (he : e ∈ n.queue)
    (hr : e.record = r) : n.queueAfter r head service =
      if head = true then atHead n.write.isSome { e with service := e.service || service }
        (n.queue.filter fun x => x.record ≠ r)
      else n.queue.map (fun x => if x.record = r then { x with service := x.service || service } else x) := by
  unfold Nvc.queueAfter
  rw [if_neg (by simp [hw]), find_entry hq.2 he hr]
  simp only [StoreEntry.absorbed_waiting, decide_not]

theorem Nvc.queueAfter_absent (hw : n.writing r = false) (h : r ∉ n.queue.map StoreEntry.record) :
    n.queueAfter r head service =
      if head = true then atHead n.write.isSome { record := r, again := false, service := service } n.queue
      else n.queue ++ [{ record := r, again := false, service := service }] := by
  have hfind : n.queue.find? (fun e => decide (e.record = r)) = none :=
    List.find?_eq_none.2 fun e he => by
      rw [decide_eq_true_eq]
      rintro rfl
      exact h (List.mem_map_of_mem he)
  unfold Nvc.queueAfter
  rw [if_neg (by simp [hw]), hfind]

theorem writeOk.waits (h : writeOk n) (hw : n.writing r = true) : r ∈ n.queue.map StoreEntry.record :=
  (Nvc.queued_iff r n).1 (h.queued hw)

end

/-! ### What a record restores (R165, R166) -/

@[simp] theorem NvArray.pair_setPair (a : NvArray) (r q : RecordId) (p : NvPair) :
    (a.setPair r p).pair q = if q = r then p else a.pair q := by
  cases r <;> cases q <;> rfl

theorem NvArray.pair_setCopy (a : NvArray) (r : RecordId) (b : Bool) (c : NvCopy) :
    (a.setCopy r b c).pair r = if b then { a.pair r with b := c } else { a.pair r with a := c } := by
  rw [NvArray.setCopy, NvArray.pair_setPair, if_pos rfl]

theorem NvArray.pair_setCopy_other {a : NvArray} {r q : RecordId} (h : q ≠ r) (b : Bool) (c : NvCopy) :
    (a.setCopy r b c).pair q = a.pair q := by
  rw [NvArray.setCopy, NvArray.pair_setPair, if_neg h]

theorem NvPair.newer_cases (r : RecordId) (p : NvPair) :
    (p.newer r = none ∧ p.a.passes r = false ∧ p.b.passes r = false) ∨ ∃ b, p.newer r = some b ∧
      (p.copy b).passes r = true := by
  cases h : p.newer r with
  | some b => exact .inr ⟨b, rfl, NvPair.newer_passes h⟩
  | none =>
    refine .inl ⟨rfl, ?_⟩
    unfold NvPair.newer at h
    cases ha : p.a.passes r <;> cases hb : p.b.passes r <;> simp [ha, hb] at h ⊢

/-- The generation after that of the other copy makes a copy the newer one. -/
theorem NvPair.aNewer_next {p : NvPair} (h : p.a.generation = (p.b.generation + 1) % 65536) : p.aNewer = true := by
  have hd : (p.a.generation + 65536 - p.b.generation % 65536) % 65536 = 1 := by omega
  simp [NvPair.aNewer, hd]

theorem NvPair.aNewer_previous {p : NvPair} (h : p.b.generation = (p.a.generation + 1) % 65536) : p.aNewer = false := by
  have hd : (p.a.generation + 65536 - p.b.generation % 65536) % 65536 = 65535 := by omega
  simp [NvPair.aNewer, hd]

theorem NvPair.restored_newA {r : RecordId} {p : NvPair} (ha : p.a.passes r = true)
    (hb : p.b.passes r = true → p.a.generation = (p.b.generation + 1) % 65536) : p.restored r = p.a.content? := by
  have hnewer : p.newer r = some false := by
    unfold NvPair.newer
    rw [if_pos ha]
    split
    next h => rw [NvPair.aNewer_next (hb h)]; rfl
    next => rfl
  rw [NvPair.restored, hnewer]
  rfl

theorem NvPair.restored_newB {r : RecordId} {p : NvPair} (hb : p.b.passes r = true)
    (ha : p.a.passes r = true → p.b.generation = (p.a.generation + 1) % 65536) : p.restored r = p.b.content? := by
  have hnewer : p.newer r = some true := by
    unfold NvPair.newer
    rw [if_pos hb, if_pos hb]
    split
    next h => rw [NvPair.aNewer_previous (ha h)]; rfl
    next => rfl
  rw [NvPair.restored, hnewer]
  rfl

/-- R165: a write that completes becomes what its record restores. -/
theorem restored_written {a : NvArray} {w : NvWrite} {x : Content} (hchosen : writeChosen a w)
    (hx : w.copy.content? = some x) (hfits : contentFits w.record x = true) :
    ((a.setCopy w.record w.toB w.copy).pair w.record).restored w.record = some x := by
  have hwritten : ∀ g, (w.copy.content?.map fun c => NvCopy.written w.record.number g c
      (checkCode w.record.number g c)) = some w.copy → w.copy.passes w.record = true ∧ w.copy.generation = g := by
    intro g hg
    rw [hx] at hg
    obtain hcopy := Option.some.inj hg
    rw [← hcopy]
    exact ⟨by simp [NvCopy.passes, hfits], rfl⟩
  unfold writeChosen at hchosen
  rw [NvArray.pair_setCopy]
  obtain ⟨hnewer, -, hb⟩ | ⟨b, hnewer, -⟩ := NvPair.newer_cases w.record (a.pair w.record)
  · simp only [hnewer] at hchosen
    obtain ⟨htoB, hg⟩ := hchosen
    obtain ⟨hpasses, -⟩ := hwritten _ hg
    rw [htoB, if_neg Bool.false_ne_true]
    refine (NvPair.restored_newA hpasses fun h => ?_).trans hx
    exact absurd (hb.symm.trans h) Bool.false_ne_true
  · simp only [hnewer] at hchosen
    obtain ⟨htoB, hg⟩ := hchosen
    obtain ⟨hpasses, hgen⟩ := hwritten _ hg
    rw [htoB]
    cases b with
    | true => exact (NvPair.restored_newA (p := { a.pair w.record with a := w.copy }) hpasses fun _ => hgen).trans hx
    | false => exact (NvPair.restored_newB (p := { a.pair w.record with b := w.copy }) hpasses fun _ => hgen).trans hx

/-- A copy that does not pass, beside the newer passing one, leaves what its record restores. -/
theorem NvPair.restored_beside {r : RecordId} {p : NvPair} {b : Bool} {c : NvCopy} (h : p.newer r ≠ some b)
    (hspoiled : c.passes r = false) :
    NvPair.restored r (if b then { p with b := c } else { p with a := c }) = p.restored r := by
  obtain ⟨hnewer, ha, hb⟩ | ⟨d, hnewer, hpasses⟩ := NvPair.newer_cases r p
  · rw [NvPair.restored, NvPair.restored, hnewer]
    cases b <;> simp [NvPair.newer, ha, hb, hspoiled]
  · rw [hnewer] at h
    rw [NvPair.restored, NvPair.restored, hnewer]
    cases b with
    | true =>
      obtain rfl : d = false := by simpa using h
      have ha : p.a.passes r = true := hpasses
      simp [NvPair.newer, ha, hspoiled, NvPair.copy]
    | false =>
      obtain rfl : d = true := by simpa using h
      have hb : p.b.passes r = true := hpasses
      simp [NvPair.newer, hb, hspoiled, NvPair.copy]

/-! ### A write ends (R169) -/

theorem queueDone_eq (e : StoreEntry) (rest : List StoreEntry) : queueDone (e :: rest) =
    (if e.again then [{ e with again := false, service := false }] else []) ++ rest := by
  cases h : e.again <;> simp [queueDone, h]

/-- The STORE_DONE of the head entry. -/
def doneNotices (s : State) : List NoticeKind := if headService s.nvc.queue then [.storeDone] else []

/-- The part as a write in flight leaves it, before the next one begins. -/
theorem State.writeEnded_ok (w : NvWrite) (s : State) : s.writeEnded w true = { s with
    sli := { s.sli with counts := countsAfter (doneNotices s) s.sli.counts }
    nvc := { s.nvc with
      array := s.nvc.array.setCopy w.record w.toB w.copy, write := none, queue := queueDone s.nvc.queue } } := by
  unfold State.writeEnded doneNotices
  cases headService s.nvc.queue <;> rfl

theorem State.writeFailed_eq (r : RecordId) (s : State) : s.writeFailed r = { s with
    env := { s.env with
      unstoredSite := s.env.unstoredSite || r == .zonesSite, unstoredOper := s.env.unstoredOper || r == .zonesOper }
    fhu := { s.fhu with unstored := s.fhu.unstored || r == .hold }
    inFlight := s.inFlight
      ++ [.faultReport { code := .nvWriteFail, clearing := false, detail := r.number, frame := none }] } := by
  have hbeq : ∀ q : RecordId, (r == q) = decide (r = q) := fun _ => rfl
  rw [hbeq, hbeq, hbeq]
  cases r <;> simp [State.writeFailed, State.report, State.deliver]

theorem State.writeEnded_failed (w : NvWrite) (s : State) : s.writeEnded w false = { s.writeFailed w.record with
    sli := { s.sli with counts := countsAfter (doneNotices s) s.sli.counts }
    nvc := { s.nvc with
      array := s.nvc.array.setCopy w.record w.toB .spoiled, write := none, queue := queueDone s.nvc.queue } } := by
  rw [State.writeFailed_eq]
  unfold State.writeEnded doneNotices
  rw [if_neg Bool.false_ne_true, State.writeFailed_eq]
  cases headService s.nvc.queue <;> rfl

/-! ### What follows a completion (R165, R168 to R171, R173) -/

/-- The next write begins, the key-off list is served, and the part settles. -/
def State.continued (u : State) : State := u.beginWrite.requestListed.settle

theorem State.writeComplete_eq {s : State} {w : NvWrite} (h : s.nvc.write = some w) (ok : Bool) :
    s.writeComplete ok = (s.writeEnded w ok).continued := by
  unfold State.writeComplete
  rw [h]
  rfl

section
variable (u : State)

theorem State.continued_changes : changesOnly [.nvc, .env, .fhu, .smu, .inFlight] u u.continued :=
  (((State.beginWrite_changes u).mono (by decide)).trans ((State.requestListed_changes _).mono (by decide))).trans
    ((State.settle_changes _).mono (by decide))

theorem State.continued_frame : u.continued = { u with
    nvc := u.continued.nvc, env := u.continued.env, fhu := u.continued.fhu, smu := u.continued.smu
    inFlight := u.continued.inFlight } := by
  have hstands := fun b => (u.continued_changes).stands b
  have hsupply : u.continued.supply = _ := hstands .supply (by simp)
  have hsettings : u.continued.settings = _ := hstands .settings (by simp)
  have hspu : u.continued.spu = _ := hstands .spu (by simp)
  have hgeu : u.continued.geu = _ := hstands .geu (by simp)
  have hcyt : u.continued.cyt = _ := hstands .cyt (by simp)
  have hggu : u.continued.ggu = _ := hstands .ggu (by simp)
  have hlev : u.continued.lev = _ := hstands .lev (by simp)
  have hepc : u.continued.epc = _ := hstands .epc (by simp)
  have hportA : u.continued.portA = _ := hstands .portA (by simp)
  have hportB : u.continued.portB = _ := hstands .portB (by simp)
  have hsli : u.continued.sli = _ := hstands .sli (by simp)
  have hlines : u.continued.lines = _ := hstands .lines (by simp)
  have hpending : u.continued.pending = _ := hstands .pending (by simp)
  have hfree : u.continued.freeCount = _ := hstands .freeCount (by simp)
  rw [← hsupply, ← hsettings, ← hspu, ← hgeu, ← hcyt, ← hggu, ← hlev, ← hepc, ← hportA, ← hportB, ← hsli, ← hlines,
    ← hpending, ← hfree]

theorem State.continued_kept : u.continued.smu.meters = u.smu.meters ∧ u.continued.smu.items = u.smu.items
    ∧ u.continued.env.entries = u.env.entries ∧ u.continued.fhu.held = u.fhu.held := by
  have hmeters := (u.continued_changes).stands .meters (by decide)
  have hfaults := (u.continued_changes).stands .faults (by decide)
  exact ⟨(congrArg Smu.meters hmeters :), (congrArg Smu.items hmeters :),
    (u.continued_changes).stands .zones (by decide), (congrArg Fhu.held hfaults :)⟩

theorem State.beginWrite_frame : ∃ w, u.beginWrite = { u with nvc := { u.nvc with write := w } } := by
  unfold State.beginWrite
  split
  · split
    · exact ⟨_, rfl⟩
    · exact ⟨_, rfl⟩
  · exact ⟨_, rfl⟩

theorem State.requestListed_frame : ∃ queue power keyList env fhu smu, u.requestListed = { u with
    nvc := { u.nvc with queue := queue, power := power, keyList := keyList }, env := env, fhu := fhu, smu := smu } := by
  unfold State.requestListed
  split
  · exact ⟨_, _, _, _, _, _, rfl⟩
  next r rest hlist =>
    split
    next htakes =>
      unfold State.ownRequest
      rw [if_pos (by exact htakes), State.requestStore_frame, Nvc.requested_frame]
      exact ⟨_, _, _, _, _, _, rfl⟩
    · exact ⟨_, _, _, _, _, _, rfl⟩

theorem State.continued_array : u.continued.nvc.array = u.nvc.array := by
  obtain ⟨w, hbegin⟩ := u.beginWrite_frame
  obtain ⟨queue, power, keyList, env, fhu, smu, hlisted⟩ := u.beginWrite.requestListed_frame
  rw [State.continued, State.settle_array, hlisted, hbegin]

theorem State.mem_continued {c : Instr} (h : c ∈ u.inFlight) : c ∈ u.continued.inFlight := by
  refine State.mem_settle c _ ?_
  obtain ⟨w, hbegin⟩ := u.beginWrite_frame
  obtain ⟨queue, power, keyList, env, fhu, smu, hlisted⟩ := u.beginWrite.requestListed_frame
  rw [hlisted, hbegin]
  exact h

theorem State.continued_unlisted (h : u.nvc.keyList = []) : u.continued = u.beginWrite.settle := by
  obtain ⟨w, hbegin⟩ := u.beginWrite_frame
  unfold State.continued State.requestListed
  rw [show u.beginWrite.nvc.keyList = [] by rw [hbegin]; exact h]

end

theorem restores_of_array {s t : State} (h : t.nvc.array = s.nvc.array)
    (q : RecordId) : restores t q = restores s q := by
  unfold restores
  rw [h]

theorem doneNotices_eq (s : State) :
    doneNotices s = if ∃ e, s.nvc.queue.head? = some e ∧ e.service = true then [.storeDone] else [] := by
  unfold doneNotices
  refine if_congr ?_ rfl rfl
  cases s.nvc.queue <;> simp [headService]

/-! ### The queue, the write and the power state after a completion -/

section
variable (s : State)

theorem State.beginWrite_write (h : s.nvc.write = none) :
    s.beginWrite.nvc.write = none → s.nvc.queue = [] := fun hnone => by
  rw [State.beginWrite_idle s h, Option.map_eq_none_iff] at hnone
  exact List.head?_eq_none_iff.1 hnone

theorem State.settle_nvc : s.settle.nvc = (s.beginWrite.enterReadyOff).nvc := by
  unfold State.settle State.scheduleRestart
  split <;> rfl

theorem State.settle_write : s.settle.nvc.write = s.beginWrite.nvc.write := by
  rw [State.settle_nvc]
  unfold State.enterReadyOff
  split <;> rfl

theorem State.settle_keyList : s.settle.nvc.keyList = s.nvc.keyList := by rw [State.settle_frame]

theorem State.settle_power : s.settle.nvc.power =
    if s.nvc.power = .shuttingDown ∧ s.nvc.queue = [] ∧ s.beginWrite.nvc.write = none
      ∧ s.nvc.keyList = [] then .readyOff
    else s.nvc.power := by
  obtain ⟨w, hbegin⟩ := s.beginWrite_frame
  rw [State.settle_nvc, hbegin]
  unfold State.enterReadyOff
  dsimp only
  split <;> rfl

/-- R173: a pending restart is in flight when nothing is left to store. -/
theorem State.settle_restart (hpending : s.nvc.restartPending = true) (hqueue : s.nvc.queue = [])
    (hwrite : s.beginWrite.nvc.write = none) : (.supervisorRestart : Instr) ∈ s.settle.inFlight := by
  have hdue : s.beginWrite.enterReadyOff.restartDue = true := by
    obtain ⟨w, hbegin⟩ := s.beginWrite_frame
    rw [hbegin] at hwrite ⊢
    obtain rfl : w = none := hwrite
    unfold State.enterReadyOff
    dsimp only
    split <;> simp [State.restartDue, hpending, hqueue]
  unfold State.settle State.scheduleRestart
  rw [hdue]
  by_cases hin : .supervisorRestart ∈ s.beginWrite.enterReadyOff.inFlight
  · rw [if_neg (by simpa using hin)]
    exact hin
  · rw [if_pos (by simpa using hin)]
    exact List.mem_append_right _ (List.mem_singleton.2 rfl)

theorem State.contentOf_congr {s t : State} (himage : t.nvc.image = s.nvc.image)
    (hentries : t.env.entries = s.env.entries)
    (hitems : t.smu.items = s.smu.items) (hmeters : t.smu.meters = s.smu.meters) (hheld : t.fhu.held = s.fhu.held)
    (r : RecordId) : t.contentOf r = s.contentOf r := by
  cases r <;> simp only [State.contentOf, himage, hentries, hitems, hmeters, hheld]

end

/-- A write in flight carries the content its owner holds, as it stands. -/
def writeCurrent (s : State) : Prop := ∀ w, s.nvc.write = some w → w.copy.content? = some (s.contentOf w.record)

theorem writeCurrent.beginWrite {s : State} (h : writeCurrent s) : writeCurrent s.beginWrite := by
  intro w hw
  obtain ⟨v, hbegin⟩ := s.beginWrite_frame
  have hsame : s.beginWrite.contentOf w.record = s.contentOf w.record := by
    rw [hbegin]
    exact State.contentOf_congr (s := s) rfl rfl rfl rfl rfl _
  rw [hsame]
  cases hwrite : s.nvc.write with
  | some x =>
    rw [State.beginWrite_busy s x hwrite] at hw
    exact h w hw
  | none =>
    rw [State.beginWrite_idle s hwrite] at hw
    obtain ⟨e, -, rfl⟩ := Option.map_eq_some_iff.1 hw
    rw [State.writeOf_content, State.writeOf_record]

theorem writeCurrent.requestListed {s : State} (h : writeCurrent s) : writeCurrent s.requestListed := by
  have hchanges := s.requestListed_changes
  have hmeters := hchanges.stands .meters (by decide)
  have hfaults := hchanges.stands .faults (by decide)
  obtain ⟨queue, power, keyList, env, fhu, smu, hlisted⟩ := s.requestListed_frame
  intro w hw
  rw [State.contentOf_congr (s := s) (by rw [hlisted]) (hchanges.stands .zones (by decide))
    (congrArg Smu.items hmeters :) (congrArg Smu.meters hmeters :) (congrArg Fhu.held hfaults :)]
  exact h w (by rw [hlisted] at hw; exact hw)

theorem writeCurrent.settle {s : State} (h : writeCurrent s) : writeCurrent s.settle := by
  intro w hw
  rw [State.settle_write] at hw
  obtain ⟨v, hbegin⟩ := s.beginWrite_frame
  have hcontent := h.beginWrite w hw
  have hsame : s.settle.contentOf w.record = s.beginWrite.contentOf w.record := by
    rw [State.settle_frame, hbegin]
    exact State.contentOf_congr (s := s) rfl rfl rfl rfl rfl _
  rw [hcontent, hsame]

/-- R170: the request for the first listed record, with the write of the head entry in flight. -/
theorem State.requestListed_cases {s : State} (hs : storesOk s)
    (hwrite : s.nvc.write.map NvWrite.record = s.nvc.queue.head?.map StoreEntry.record) {r : RecordId}
      {l : List RecordId}
    (hlist : s.nvc.keyList = r :: l) :
    let t := s.requestListed
    (s.nvc.queue.head?.map StoreEntry.record = some r → t.nvc.keyList = l
        ∧ t.nvc.queue = s.nvc.queue.map (fun x => if x.record = r then { x with again := true } else x))
      ∧ (r ∈ (s.nvc.queue.drop 1).map StoreEntry.record → t.nvc.keyList = l ∧ t.nvc.queue = s.nvc.queue)
      ∧ (r ∉ s.nvc.queue.map StoreEntry.record → s.nvc.queue.length < 4 →
          t.nvc.keyList = l ∧ t.nvc.queue = s.nvc.queue ++ [{ record := r, again := false, service := false }])
      ∧ (r ∉ s.nvc.queue.map StoreEntry.record → s.nvc.queue.length = 4 →
          t.nvc.keyList = s.nvc.keyList ∧ t.nvc.queue = s.nvc.queue) := by
  intro t
  have htaken : s.nvc.takes r = true → t.nvc.keyList = l
    ∧ t.nvc.queue = s.nvc.queueAfter r false false := fun htakes => by
    have ht : t = State.requestStore r false false { s with nvc := { s.nvc with keyList := l } } := by
      simp only [t]
      unfold State.requestListed State.ownRequest
      rw [hlist]
      exact (if_pos htakes).trans (if_pos (by exact htakes))
    have hqueue := Nvc.requested_queue r false false { s.nvc with keyList := l } htakes
    have hnvc : t.nvc = Nvc.requested r false false { s.nvc with keyList := l } := by rw [ht, State.requestStore_frame]
    rw [hnvc]
    exact ⟨by rw [Nvc.requested_frame], hqueue⟩
  refine ⟨fun hhead => ?_, fun hin => ?_, fun hout hroom => ?_, fun hout hfull => ?_⟩
  · have hwriting : s.nvc.writing r = true := Nvc.writing_iff.2 (hwrite.trans hhead)
    obtain ⟨hkeys, hqueue⟩ := htaken (Nvc.takes_iff.2 (.inl (hs.2.waits hwriting)))
    rw [Nvc.queueAfter_writing hwriting] at hqueue
    exact ⟨hkeys, by simpa using hqueue⟩
  · obtain ⟨e, he, hr⟩ := List.mem_map.1 hin
    have hmem := List.mem_of_mem_drop he
    have hwriting : s.nvc.writing r = false := by
      rw [Bool.eq_false_iff, Ne, Nvc.writing_iff, hwrite]
      obtain ⟨-, hnodup⟩ := hs.1
      cases hq : s.nvc.queue with
      | nil => simp
      | cons x rest =>
        rw [hq] at he hnodup
        obtain ⟨hx, -⟩ := List.nodup_cons.1 hnodup
        rintro hxr
        have hxr : x.record = r := by simpa using hxr
        exact hx (List.mem_map.2 ⟨e, he, hr.trans hxr.symm⟩)
    obtain ⟨hkeys, hqueue⟩ := htaken (Nvc.takes_iff.2 (.inl (List.mem_map.2 ⟨e, hmem, hr⟩)))
    rw [Nvc.queueAfter_waiting hs.1 hwriting hmem hr] at hqueue
    exact ⟨hkeys, by simpa using hqueue⟩
  · have hwriting : s.nvc.writing r = false := by
      rw [Bool.eq_false_iff]
      exact fun h => hout (hs.2.waits h)
    obtain ⟨hkeys, hqueue⟩ := htaken (Nvc.takes_iff.2 (.inr hroom))
    rw [Nvc.queueAfter_absent hwriting hout] at hqueue
    exact ⟨hkeys, by simpa using hqueue⟩
  · have ht : t = s := by
      have hno : ¬s.nvc.takes r = true := by
        rw [Nvc.takes_iff]
        exact fun h => h.elim hout (by omega)
      simp only [t]
      unfold State.requestListed
      rw [hlist]
      exact if_neg hno
    rw [ht]
    exact ⟨rfl, rfl⟩

theorem writeChosen.copy_written {a : NvArray} {w : NvWrite} (h : writeChosen a w) :
    ∃ g x, w.copy = .written w.record.number g x (checkCode w.record.number g x) := by
  have hwritten : ∀ g, (w.copy.content?.map fun c => NvCopy.written w.record.number g c
      (checkCode w.record.number g c)) = some w.copy →
      ∃ g x, w.copy = .written w.record.number g x (checkCode w.record.number g x) := fun g hg => by
    obtain ⟨x, -, hx⟩ := Option.map_eq_some_iff.1 hg
    exact ⟨g, x, hx.symm⟩
  unfold writeChosen at h
  obtain ⟨hnewer, -⟩ | ⟨b, hnewer, -⟩ := NvPair.newer_cases w.record (a.pair w.record)
  · simp only [hnewer] at h
    exact hwritten _ h.2
  · simp only [hnewer] at h
    exact hwritten _ h.2

/-- R169: whatever a write that is cut leaves in its copy, the record restores what it did, or the new content. -/
theorem restored_cut {n : Nvc} (hn : writeOk n) {w : NvWrite} (hw : n.write = some w) {c : NvCopy}
    (hc : c = w.copy ∨ c = (n.array.pair w.record).copy w.toB ∨ c = .spoiled) :
    ((n.array.setCopy w.record w.toB c).pair w.record).restored w.record = (n.array.pair w.record).restored w.record
      ∨ ((n.array.setCopy w.record w.toB c).pair w.record).restored w.record = w.copy.content? := by
  obtain ⟨-, hbeside, hchosen⟩ := hn w hw
  have hfails : c.passes w.record = false →
      ((n.array.setCopy w.record w.toB c).pair w.record).restored w.record =
        (n.array.pair w.record).restored w.record :=
    fun h => by rw [NvArray.pair_setCopy, NvPair.restored_beside hbeside h]
  obtain rfl | rfl | rfl := hc
  · obtain ⟨g, x, hcopy⟩ := hchosen.copy_written
    cases hfits : contentFits w.record x with
    | true =>
      have hx : w.copy.content? = some x := by rw [hcopy]; rfl
      exact .inr ((restored_written hchosen hx hfits).trans hx.symm)
    | false => exact .inl (hfails (by simp [hcopy, NvCopy.passes, hfits]))
  · refine .inl (congrArg (NvPair.restored w.record) ?_)
    rw [NvArray.pair_setCopy]
    cases w.toB <;> rfl
  · exact .inl (hfails rfl)

theorem State.cutCopy_cases (w : NvWrite) (s : State) :
    s.cutCopy w = w.copy ∨ s.cutCopy w = (s.nvc.array.pair w.record).copy w.toB ∨ s.cutCopy w = .spoiled := by
  unfold State.cutCopy
  split
  · split
    · exact .inl rfl
    · exact .inr (.inl rfl)
  · exact .inr (.inr rfl)

/-- A completion that fails leaves every record what it restores. -/
theorem restores_spoiled {s : State} (hs : writeOk s.nvc) {w : NvWrite} (hw : s.nvc.write = some w) (q : RecordId) :
    ((s.nvc.array.setCopy w.record w.toB .spoiled).pair q).restored q = restores s q := by
  obtain ⟨-, hbeside, -⟩ := hs w hw
  by_cases hq : q = w.record
  · subst hq
    rw [NvArray.pair_setCopy]
    exact NvPair.restored_beside hbeside rfl
  · rw [NvArray.pair_setCopy_other hq]
    rfl

theorem State.writeEnded_nvc (w : NvWrite) (ok : Bool) (s : State) : (s.writeEnded w ok).nvc = { s.nvc with
    array := s.nvc.array.setCopy w.record w.toB (w.result ok), write := none, queue := queueDone s.nvc.queue } := by
  cases ok with
  | true => rw [State.writeEnded_ok]; rfl
  | false => rw [State.writeEnded_failed]; rfl

/-- What follows a completion: the key-off list served once (R170), the write of the head entry (R165, R168), READY_OFF
(R171) and the pending restart (R173). -/
theorem State.continued_queue {u : State} (hs : storesOk u) (hnone : u.nvc.write = none) :
    let t := u.continued
    (u.nvc.keyList = [] → t.nvc.queue = u.nvc.queue ∧ t.nvc.keyList = [])
      ∧ (∀ r l, u.nvc.keyList = r :: l →
          (u.nvc.queue.head?.map StoreEntry.record = some r → t.nvc.keyList = l
            ∧ t.nvc.queue = u.nvc.queue.map (fun x => if x.record = r then { x with again := true } else x))
          ∧ (r ∈ (u.nvc.queue.drop 1).map StoreEntry.record → t.nvc.keyList = l ∧ t.nvc.queue = u.nvc.queue)
          ∧ (r ∉ u.nvc.queue.map StoreEntry.record → u.nvc.queue.length < 4 →
              t.nvc.keyList = l ∧ t.nvc.queue = u.nvc.queue ++ [{ record := r, again := false, service := false }])
          ∧ (r ∉ u.nvc.queue.map StoreEntry.record → u.nvc.queue.length = 4 →
              t.nvc.keyList = u.nvc.keyList ∧ t.nvc.queue = u.nvc.queue))
      ∧ t.nvc.write.map NvWrite.record = t.nvc.queue.head?.map StoreEntry.record
      ∧ (∀ w, t.nvc.write = some w → writeChosen t.nvc.array w ∧ w.copy.content? = some (t.contentOf w.record))
      ∧ (u.nvc.power ≠ .readyOff → t.nvc.power =
          if u.nvc.power = .shuttingDown ∧ t.nvc.queue = [] ∧ t.nvc.keyList = [] then .readyOff else u.nvc.power)
      ∧ (u.nvc.restartPending = true → t.nvc.queue = [] → (.supervisorRestart : Instr) ∈ t.inFlight) := by
  intro t
  obtain ⟨v, hv⟩ : ∃ v, u.beginWrite = v := ⟨_, rfl⟩
  obtain ⟨x, hbegin⟩ := u.beginWrite_frame
  have hvwrite := u.beginWrite_idle hnone
  have hvstores := State.storesOk_beginWrite hs
  rw [hv] at hbegin hvwrite hvstores
  have hvqueue : v.nvc.queue = u.nvc.queue := by rw [hbegin]
  have hvkeys : v.nvc.keyList = u.nvc.keyList := by rw [hbegin]
  have hvpower : v.nvc.power = u.nvc.power := by rw [hbegin]
  have hvpending : v.nvc.restartPending = u.nvc.restartPending := by rw [hbegin]
  have hvrecord : v.nvc.write.map NvWrite.record = v.nvc.queue.head?.map StoreEntry.record := by
    rw [hvwrite, hvqueue, Option.map_map]
    exact congrArg (Option.map · _) (funext fun e => State.writeOf_record e.record u)
  have hvcurrent : writeCurrent v := hv ▸ writeCurrent.beginWrite fun w hw => absurd (hnone.symm.trans hw) (by simp)
  obtain ⟨y, hy⟩ : ∃ y, v.requestListed = y := ⟨_, rfl⟩
  have hycases := fun r l => State.requestListed_cases hvstores hvrecord (r := r) (l := l)
  have hystores := v.requestListed_changes.stands .stores (by decide) hvstores
  have hycurrent := hvcurrent.requestListed
  have hylist : v.nvc.keyList = [] → y = v := fun h => by
    rw [← hy, State.requestListed, h]
  have hypower : v.nvc.power ≠ .readyOff → y.nvc.power = v.nvc.power := fun h => by
    rw [← hy]
    unfold State.requestListed
    split
    · rfl
    · split
      next htakes =>
        unfold State.ownRequest
        rw [if_pos (by exact htakes), State.requestStore_frame]
        exact (Nvc.requested_power (by exact htakes)).trans (if_neg h)
      · rfl
  have hypending : y.nvc.restartPending = v.nvc.restartPending := by
    obtain ⟨_, _, _, _, _, _, hframe⟩ := v.requestListed_frame
    rw [← hy, hframe]
  rw [hy] at hycases hystores hycurrent
  have ht : t = y.settle := by
    simp only [t]
    rw [State.continued, hv, hy]
  have hqueue : t.nvc.queue = y.nvc.queue := by rw [ht, State.settle_queue]
  have hkeys : t.nvc.keyList = y.nvc.keyList := by rw [ht, State.settle_keyList]
  have hwrite : t.nvc.write = y.beginWrite.nvc.write := by rw [ht, State.settle_write]
  have htstores : storesOk t := ht ▸ State.storesOk_settle hystores
  have htcurrent : writeCurrent t := ht ▸ hycurrent.settle
  have hywrite : y.nvc.queue = [] → y.beginWrite.nvc.write = none := fun h => by
    cases hbegun : y.beginWrite.nvc.write with
    | none => rfl
    | some w =>
      obtain ⟨hhead, -⟩ := htstores.2 w (hwrite.trans hbegun)
      rw [hqueue, h] at hhead
      exact absurd hhead (by simp)
  refine ⟨fun h => ?_, fun r l hlist => ?_, ?_, fun w hw =>
    ⟨(htstores.2 w hw).2.2, htcurrent w hw⟩, fun h => ?_, fun hp hq =>
    ?_⟩
  · rw [hqueue, hkeys, hylist (hvkeys.trans h), hvqueue, hvkeys]
    exact ⟨rfl, h⟩
  · rw [hqueue, hkeys, ← hvqueue, ← hvkeys]
    exact hycases r l (hvkeys.trans hlist)
  · cases hw : t.nvc.write with
    | some w =>
      obtain ⟨hhead, -⟩ := htstores.2 w hw
      exact hhead.symm
    | none =>
      have hempty : t.nvc.queue = [] := by
        cases hyw : y.nvc.write with
        | none => exact hqueue.trans (State.beginWrite_write y hyw (hwrite.symm.trans hw))
        | some z =>
          rw [hwrite, State.beginWrite_busy y z hyw, hyw] at hw
          exact absurd hw (by simp)
      rw [hempty]
      rfl
  · rw [← hvpower] at h ⊢
    rw [hqueue, hkeys, ht, State.settle_power, hypower h]
    refine if_congr ⟨fun ⟨hp, hq, _, hk⟩ => ⟨hp, hq, hk⟩, fun ⟨hp, hq, hk⟩ => ⟨hp, hq, hywrite hq, hk⟩⟩ rfl rfl
  · rw [ht]
    have hempty := hqueue.symm.trans hq
    exact State.settle_restart y ((hypending.trans hvpending).trans hp) hempty (hywrite hempty)

/-- Settles O16: the request case by case; a completion by the copy it leaves and by what follows it; a loss of
supply by
the copy the cut write leaves. -/
theorem writesKeepAStoredRecord : Obligations.WritesKeepAStoredRecord := by
  refine ⟨fun r head service n hq hw => ?request, fun s w x on hw hchosen hx hfits => ?completes,
    fun s on hs => ?fails, fun ok e rest s on hs hpower hqueue hwrite => ?queue, fun s on hs => ?supply⟩
  case request =>
    intro q ahead new stands
    have hwaits : ∀ (e : StoreEntry), e ∈ n.queue → e.record = r → n.takes r = true := fun e he hr =>
      Nvc.takes_iff.2 (.inl (List.mem_map.2 ⟨e, he, hr⟩))
    have hafter : n.takes r = true → q.queue = n.queueAfter r head service := Nvc.requested_queue r head service n
    refine ⟨Nvc.requested_frame r head service n, fun h => Nvc.requested_power
      (Nvc.takes_iff.2 h), fun w hwrite hr => ?_,
      fun e he hr hother => ?_, fun hout hroom => ?_, fun hout hfull => ?_⟩
    · have hwriting : n.writing r = true := Nvc.writing_iff.2 (by rw [hwrite, ← hr]; rfl)
      exact (hafter (Nvc.takes_iff.2 (.inl (hw.waits hwriting)))).trans (Nvc.queueAfter_writing hwriting)
    · have hwriting : n.writing r = false := by
        rw [Bool.eq_false_iff, Ne, Nvc.writing_iff]
        intro h
        obtain ⟨w, hwrite, hwr⟩ := Option.map_eq_some_iff.1 h
        exact hother w hwrite hwr
      have hall := (hafter (hwaits e he hr)).trans (Nvc.queueAfter_waiting hq hwriting he hr)
      refine ⟨fun hhead => ?_, fun hhead => hall.trans (if_neg (by simp [hhead]))⟩
      exact (hall.trans (if_pos hhead)).trans (atHead_eq _ _ _)
    · have hwriting : n.writing r = false := by
        rw [Bool.eq_false_iff]
        exact fun h => hout (hw.waits h)
      rw [hafter (Nvc.takes_iff.2 (.inr hroom)), Nvc.queueAfter_absent hwriting hout, atHead_eq]
    · refine Nvc.requested_refused r head service n ?_
      rw [Bool.eq_false_iff, Ne, Nvc.takes_iff]
      exact fun h => h.elim hout (by omega)
  case completes =>
    obtain ⟨u, hu⟩ : ∃ u, s.writeEnded w true = u := ⟨_, rfl⟩
    have hended := hu.symm.trans (State.writeEnded_ok w s)
    obtain ⟨hmeters, hitems, hentries, hheld⟩ := u.continued_kept
    have harray := u.continued_array
    have hframe := u.continued_frame
    have hexec : exec (.nvWriteComplete true) s = .next u.continued :=
      (onEvent_on _ _ on).trans (congrArg _ ((State.writeComplete_eq hw true).trans (congrArg _ hu)))
    obtain ⟨t, ht⟩ : ∃ t, u.continued = t := ⟨_, rfl⟩
    rw [ht] at hmeters hitems hentries hheld harray hframe hexec
    rw [hended] at hmeters hitems hentries hheld harray
    refine ⟨t, hexec, ?_, fun q hq => ?_, ?_, hmeters, hitems, hentries, hheld, ?_, ?_⟩
    · rw [restores, harray]
      exact restored_written hchosen hx hfits
    · rw [restores, harray, NvArray.pair_setCopy_other hq]
      rfl
    · rw [show t.sli = u.sli from (congrArg State.sli hframe :)]
      rw [hended] at hframe ⊢
      exact hframe
    · rw [show t.portA = u.portA from (congrArg State.portA hframe :), hended]
      rfl
    · rw [show t.sli = u.sli from (congrArg State.sli hframe :), hended]
      exact congrArg (fun l => { s.sli with counts := countsAfter l s.sli.counts }) (doneNotices_eq s)
  case fails =>
    cases hwrite : s.nvc.write with
    | none =>
      refine ⟨s, (onEvent_on _ _ on).trans (congrArg _ ?_), fun _ => rfl, fun _ => rfl, nofun⟩
      unfold State.writeComplete
      rw [hwrite]
    | some w =>
      obtain ⟨u, hu⟩ : ∃ u, s.writeEnded w false = u := ⟨_, rfl⟩
      have hended := hu.symm.trans (State.writeEnded_failed w s)
      rw [State.writeFailed_eq] at hended
      have harray := u.continued_array
      have hframe := u.continued_frame
      have hmem := fun c => u.mem_continued (c := c)
      have hunlisted := u.continued_unlisted
      have hexec : exec (.nvWriteComplete false) s = .next u.continued :=
        (onEvent_on _ _ on).trans (congrArg _ ((State.writeComplete_eq hwrite false).trans (congrArg _ hu)))
      obtain ⟨t, ht⟩ : ∃ t, u.continued = t := ⟨_, rfl⟩
      rw [ht] at harray hframe hmem hexec hunlisted
      refine ⟨t, hexec, fun q => ?_, nofun, fun v hv => ⟨⟨?_, ?_⟩, hmem _ ?_, fun hlist => ?_⟩⟩
      · rw [restores, harray, hended]
        exact restores_spoiled hs.2 hwrite q
      · rw [show t.portA = u.portA from (congrArg State.portA hframe :), hended]
        rfl
      · rw [show t.sli = u.sli from (congrArg State.sli hframe :), hended]
        exact congrArg (fun l => { s.sli with counts := countsAfter l s.sli.counts }) (doneNotices_eq s)
      · obtain rfl := Option.some.inj hv
        rw [hended]
        exact List.mem_append_right _ (List.mem_singleton.2 rfl)
      · obtain rfl := Option.some.inj hv
        obtain ⟨x, hbegin⟩ := u.beginWrite_frame
        rw [hunlisted (by rw [hended]; exact hlist), State.settle_frame, hbegin, hended]
        exact ⟨rfl, rfl, rfl⟩
  case queue =>
    intro left
    obtain ⟨w, hw⟩ := Option.isSome_iff_exists.1 hwrite
    obtain ⟨u, hu⟩ : ∃ u, s.writeEnded w ok = u := ⟨_, rfl⟩
    have hnvc := State.writeEnded_nvc w ok s
    have hstores := (s.writeEnded_changes w ok).stands .stores (by decide) hs
    rw [hu] at hnvc hstores
    rw [hqueue, queueDone_eq] at hnvc
    obtain ⟨t, ht⟩ : ∃ t, u.continued = t := ⟨_, rfl⟩
    have hexec : exec (.nvWriteComplete ok) s = .next t :=
      (onEvent_on _ _ on).trans (congrArg _ ((State.writeComplete_eq hw ok).trans ((congrArg _ hu).trans ht)))
    obtain ⟨hkeys, hlisted, hwrites, hcurrent, hpowered, hrestart⟩ := State.continued_queue hstores (by rw [hnvc])
    rw [ht, hnvc] at hkeys hlisted hpowered hrestart
    rw [ht] at hwrites hcurrent
    have hnotReady : s.nvc.power ≠ .readyOff := fun h => by
      obtain ⟨-, -, hnone, -⟩ := hpower.1.1 h
      exact absurd (hw.symm.trans hnone) (by simp)
    exact ⟨t, hexec, hkeys, hlisted, hwrites, hcurrent, hpowered hnotReady, hrestart⟩
  case supply =>
    refine ⟨s.supplyLost, onEvent_on _ _ on, rfl, rfl, rfl, fun q => ?_⟩
    show ((s.cutArray).pair q).restored q = _ ∨ ∃ w, _ ∧ _ ∧ ((s.cutArray).pair q).restored q = _
    unfold State.cutArray
    cases hwrite : s.nvc.write with
    | none => exact .inl rfl
    | some w =>
      by_cases hq : q = w.record
      · subst hq
        obtain h | h := restored_cut hs.2 hwrite (s.cutCopy_cases w)
        · exact .inl h
        · exact .inr ⟨w, rfl, rfl, h⟩
      · refine .inl ?_
        dsimp only
        rw [NvArray.pair_setCopy_other hq]
        rfl

end Sys2Proof.Machine
end

/-! ## KEY and PWRFAIL (O52) -/

section
namespace Sys2Proof.Machine

open Sys2Proof

/-! ### READY_OFF at every step (R171) -/

/-- What holds of the power state between the changes of a step: READY_OFF only with nothing left to store, and no
key-off list in RUN. -/
def powerHalf (s : State) : Prop :=
  (s.nvc.power = .readyOff → s.nvc.queue = [] ∧ s.nvc.write = none ∧ s.nvc.keyList = [])
    ∧ (s.nvc.power = .run → s.nvc.keyList = [])

theorem powerOk_iff (s : State) : powerOk s ↔ powerHalf s ∧
    (s.nvc.power ≠ .run → s.nvc.queue = [] → s.nvc.write = none → s.nvc.keyList = [] → s.nvc.power = .readyOff) := by
  have hready : s.shutdownReady = true ↔ s.nvc.power = .readyOff := by simp [State.shutdownReady]
  unfold powerOk powerHalf
  constructor
  · rintro ⟨⟨hleft, hright⟩, -, hrun⟩
    exact ⟨⟨fun h => (hleft h).2, hrun⟩, fun h1 h2 h3 h4 => hright ⟨h1, h2, h3, h4⟩⟩
  · rintro ⟨⟨hempty, hrun⟩, hnone⟩
    exact ⟨⟨fun h => ⟨by simp [h], hempty h⟩, fun ⟨h1, h2, h3, h4⟩ => hnone h1 h2 h3 h4⟩, hready, hrun⟩

theorem powerOk.half {s : State} (h : powerOk s) : powerHalf s := ((powerOk_iff s).1 h).1

theorem powerHalf.reads : reads [.nvc] powerHalf := fun s t hst h => by
  have hnvc : t.nvc = s.nvc := hst .nvc (by simp)
  unfold powerHalf
  rw [hnvc]
  exact h

theorem powerOk.reads : reads [.nvc] powerOk := fun s t hst h => by
  have hnvc : t.nvc = s.nvc := hst .nvc (by simp)
  rw [powerOk_iff, powerHalf, hnvc]
  exact (powerOk_iff s).1 h

theorem powerHalf_of_shuttingDown {s : State} (h : s.nvc.power = .shuttingDown) : powerHalf s :=
  ⟨fun hr => absurd (h.symm.trans hr) (by decide), fun hr => absurd (h.symm.trans hr) (by decide)⟩

section
variable {s : State}

theorem powerHalf.requested (h : powerHalf s) {t : State} {r : RecordId} {head service : Bool}
    (ht : t.nvc = s.nvc.requested r head service) : powerHalf t := by
  obtain ⟨hready, hrun⟩ := h
  unfold powerHalf
  rw [ht]
  cases htakes : s.nvc.takes r with
  | false =>
    rw [Nvc.requested_refused r head service s.nvc htakes]
    exact ⟨hready, hrun⟩
  | true =>
    rw [Nvc.requested_power htakes, Nvc.requested_frame]
    split
    · exact ⟨nofun, nofun⟩
    next hnot => exact ⟨fun hr => absurd hr hnot, hrun⟩

theorem powerHalf.requestStore (h : powerHalf s) (r : RecordId) (head service : Bool) :
    powerHalf (s.requestStore r head service) := by
  refine h.requested (r := r) (head := head) (service := service) ?_
  rw [State.requestStore_frame]

/-- R171: settling enters READY_OFF when nothing is left to store. -/
theorem powerHalf.settle (h : powerHalf s) : powerOk s.settle := by
  obtain ⟨hready, hrun⟩ := h
  have hwrite := State.settle_write s
  rw [powerOk_iff, powerHalf, State.settle_power, State.settle_queue, State.settle_keyList, hwrite]
  refine ⟨⟨fun hr => ?_, fun hr => ?_⟩, fun hnot hq hw hk => ?_⟩
  · by_cases hdone : s.nvc.power = .shuttingDown ∧ s.nvc.queue = [] ∧ s.beginWrite.nvc.write = none ∧ s.nvc.keyList = []
    · exact hdone.2
    · rw [if_neg hdone] at hr
      obtain ⟨hq, hw, hk⟩ := hready hr
      refine ⟨hq, ?_, hk⟩
      rw [State.beginWrite_idle s hw, hq]
      rfl
  · split at hr
    · exact absurd hr (by decide)
    · exact hrun hr
  · split
    · rfl
    next hdone =>
      cases hp : s.nvc.power with
      | run => exact absurd ((if_neg hdone).trans hp) hnot
      | readyOff => rfl
      | shuttingDown => exact absurd ⟨hp, hq, hw, hk⟩ hdone

theorem powerHalf.of_nvc {t : State} (h : powerHalf s) (hnvc : t.nvc = s.nvc) : powerHalf t := by
  unfold powerHalf
  rw [hnvc]
  exact h

/-! The operations that request stores. -/

theorem powerHalf.storeIf (h : powerHalf s) (p : Bool) (r : RecordId) : powerHalf (s.storeIf p r) := by
  unfold State.storeIf
  split
  · exact h.requestStore r false false
  · exact h

theorem powerHalf.applyPending (h : powerHalf s) : powerHalf s.applyPending := by
  have hnotices : powerHalf (s.env.entries.foldl (fun s e => s.applyNotices e) s) :=
    foldl_keeps powerHalf _ (fun u e hu => powerHalf.reads.keeps (u.applyNotices_changes e) (by simp) hu) _ _ h
  unfold State.applyPending
  refine powerHalf.storeIf (powerHalf.storeIf (hnotices.of_nvc ?_) _ _) _ _
  rfl

theorem powerHalf.takeFault (h : powerHalf s) (r : FaultReport) : powerHalf (s.takeFault r) := by
  unfold State.takeFault
  split
  · exact powerHalf.reads.keeps (s.recordFault_changes r false) (by simp) h
  · exact powerHalf.reads.keeps (s.recoverable_changes r) (by simp) h
  · split
    · exact h.requested (by rw [State.enterHold_eq])
    · cases hmark : s.fhu.unstored with
      | true => exact h.requested (by rw [State.escalate_stored hmark])
      | false => exact h.of_nvc (by rw [State.escalate_settled hmark])

theorem powerHalf.answerLink (h : powerHalf s) (r : ResultCode) (a : Option Byte) (d : Option (BitVec 16)) (k : Byte)
    (l : List Byte) : powerHalf (s.answerLink r a d k l) :=
  h.of_nvc (by rw [State.answerLink_frame])

theorem powerHalf.clearHold (h : powerHalf s) : powerHalf s.clearHold := by
  unfold State.clearHold
  split
  · split
    · have hleft : powerHalf s.leaveHold := h.requested (by rw [State.leaveHold_eq])
      exact hleft.answerLink _ _ _ _ _
    · exact h.answerLink _ _ _ _ _
  · split
    · exact (h.requestStore .hold true true).answerLink _ _ _ _ _
    · exact h.answerLink _ _ _ _ _

theorem powerHalf.storeAnd (h : powerHalf s) (result : ResultCode) (r : RecordId) (service : Bool) {f : State → State}
    (hf : ∀ u : State, (f u).nvc = u.nvc) : powerHalf (s.storeAnd result r service f) := by
  unfold State.storeAnd
  split
  · exact (h.requestStore r false service).of_nvc (hf _)
  · exact h

theorem State.setMeter_nvc (k v : Nat) (s : State) : (s.setMeter k v).nvc = s.nvc := by rw [State.setMeter_frame]

theorem State.resetItem_nvc (n : Nat) (s : State) : (s.resetItem n).nvc = s.nvc := by rw [State.resetItem_eq]

theorem State.defineItem_nvc (n : Nat) (d : ItemDef) (s : State) : (s.defineItem n d).nvc = s.nvc := by
  unfold State.defineItem State.replaceItem
  dsimp only
  rw [State.itemsChanged_frame]

theorem powerHalf.itemWritten (h : powerHalf s) (n : Nat) (l : List Byte) : powerHalf (s.itemWritten n l) := by
  unfold State.itemWritten
  split
  · exact h.storeAnd _ _ _ (State.defineItem_nvc n _)
  · exact h

theorem powerHalf.oneSecond (h : powerHalf s) : powerOk s.oneSecond := by
  have haccrued : (s.accrueAll s.secondsAccruals).nvc = s.nvc :=
    foldl_keeps (fun u : State => u.nvc = s.nvc) _
      (fun u a hu => ((u.accrue_changes _ _ _).stands .nvc (by decide)).trans hu) _ _ rfl
  rw [State.oneSecond_eq]
  refine powerHalf.settle ?_
  unfold State.requestSnapshot
  split
  · refine powerHalf.requestStore (h.of_nvc ?_) .meters false false
    exact haccrued
  · exact h.of_nvc haccrued

theorem powerHalf.entryWritten (h : powerHalf s) (t : Table) (i : Nat) (b : List Byte) :
    powerHalf (s.entryWritten t i b) := by
  cases t with
  | items => exact h.itemWritten i b
  | zones => exact h.of_nvc rfl
  | config =>
    unfold State.entryWritten
    dsimp only
    split
    · exact h.of_nvc rfl
    · exact h
  | ident | meters | faults | targets | status => exact h

theorem powerHalf.envRecord (h : powerHalf s) (r : PoseRecord) : powerOk (s.envRecord r) := by
  have hformed : ∀ u : State, powerHalf u → powerHalf (u.formSet r.pose.frame) := fun _ hu => hu
  exact (hformed _ h.applyPending).settle

theorem powerHalf.cabDone (h : powerHalf s) (place n : Nat) : powerOk (s.cabDone place n) := by
  have hanswered : ∀ (u : State) code, powerHalf u → powerHalf (u.answerCab place code) := fun _ _ hu => hu
  exact (hanswered _ _ (h.storeAnd _ .items false (State.resetItem_nvc n))).settle

theorem powerHalf.serviceDone (h : powerHalf s) (n : Nat) : powerOk (s.serviceDone n) :=
  ((h.storeAnd _ .items true (State.resetItem_nvc n)).answerLink _ none none 0 []).settle

theorem powerHalf.preset (h : powerHalf s) (k v : Nat) : powerOk (s.preset k v) :=
  ((h.storeAnd _ .meters true (State.setMeter_nvc k _)).answerLink _ none none 0 []).settle

theorem powerHalf.commit (h : powerHalf s) : powerHalf s.commit := by
  unfold State.commit
  split
  · exact h.answerLink _ _ _ _ _
  · have himage : powerHalf { s with nvc := { s.nvc with image := some s.sli.config } } := h
    exact (himage.requestStore .config false true).answerLink _ _ _ _ _

/-! The store controller's own operations. -/

theorem powerHalf.writeEnded (h : powerHalf s) (w : NvWrite) (ok : Bool) : powerHalf (s.writeEnded w ok) := by
  obtain ⟨hready, hrun⟩ := h
  unfold powerHalf
  rw [State.writeEnded_nvc]
  refine ⟨fun hp => ?_, hrun⟩
  obtain ⟨hq, -, hk⟩ := hready hp
  exact ⟨by rw [hq]; rfl, rfl, hk⟩

theorem powerHalf.beginWrite (h : powerHalf s) : powerHalf s.beginWrite := by
  obtain ⟨hready, hrun⟩ := h
  obtain ⟨w, hbegin⟩ := s.beginWrite_frame
  refine ⟨fun hp => ?_, fun hp => ?_⟩
  · obtain ⟨hq, hw, hk⟩ := hready (by rw [hbegin] at hp; exact hp)
    refine ⟨by rw [hbegin]; exact hq, ?_, by rw [hbegin]; exact hk⟩
    rw [State.beginWrite_idle s hw, hq]
    rfl
  · rw [hbegin] at hp ⊢
    exact hrun hp

/-- A record is requested from the key-off list only in SHUTTING_DOWN. -/
theorem powerHalf.requestListed (h : powerHalf s) : powerHalf s.requestListed := by
  obtain ⟨hready, hrun⟩ := id h
  unfold State.requestListed
  split
  · exact h
  next r rest hlist =>
    split
    next htakes =>
      have hdown : s.nvc.power = .shuttingDown := by
        cases hp : s.nvc.power with
        | shuttingDown => rfl
        | readyOff =>
          obtain ⟨-, -, hk⟩ := hready hp
          exact absurd (hlist.symm.trans hk) (by simp)
        | run => exact absurd (hlist.symm.trans (hrun hp)) (by simp)
      unfold State.ownRequest
      rw [if_pos (by exact htakes)]
      exact powerHalf.requestStore (s := { s with nvc := { s.nvc with keyList := rest } })
        (powerHalf_of_shuttingDown hdown) r false false
    · exact h

theorem powerOk.writeComplete (h : powerOk s) (ok : Bool) : powerOk (s.writeComplete ok) := by
  cases hw : s.nvc.write with
  | none =>
    unfold State.writeComplete
    rw [hw]
    exact h
  | some w =>
    rw [State.writeComplete_eq hw]
    exact (h.half.writeEnded w ok).beginWrite.requestListed.settle

theorem State.requestKeyOff_power (r : RecordId) (h : s.nvc.power = .shuttingDown) :
    (s.requestKeyOff r).nvc.power = .shuttingDown := by
  unfold State.requestKeyOff
  split
  next htakes =>
    unfold State.ownRequest
    rw [if_pos htakes, State.requestStore_frame]
    exact (Nvc.requested_power htakes).trans ((if_neg (by simp [h])).trans h)
  · exact h

theorem powerOk.keyOffTaken (h : powerOk s) : powerOk s.keyOffTaken := by
  unfold State.keyOffTaken
  split
  · refine powerHalf.settle (powerHalf_of_shuttingDown ?_)
    refine foldl_keeps (fun u : State => u.nvc.power = .shuttingDown) _
      (fun u r hu => u.requestKeyOff_power r hu) _ _ ?_
    rw [State.epcEvent_frame]
  · exact h

theorem powerOk.keyOnTaken (h : powerOk s) : powerOk s.keyOnTaken := by
  unfold State.keyOnTaken
  split
  · exact h
  · rw [State.epcEvent_frame, powerOk_iff]
    exact ⟨⟨nofun, fun _ => rfl⟩, fun hrun => absurd rfl hrun⟩

theorem powerHalf.ownRequest (h : powerHalf s) (r : RecordId) (head : Bool) : powerHalf (s.ownRequest r head) := by
  unfold State.ownRequest
  split
  · exact h.requestStore r head false
  · exact h

theorem powerHalf.restartPending (h : powerHalf s) :
    powerHalf { s with nvc := { s.nvc with restartPending := true } } := h

/-! The start (R171). -/

theorem powerOk_blocksStarted (u : State) (meters : List Nat) : powerOk (u.blocksStarted meters) :=
  (powerOk_iff _).2 ⟨⟨nofun, fun _ => rfl⟩, fun hrun => absurd rfl hrun⟩

theorem powerOk.started (u : State) (meters : List Nat) : powerOk (u.started meters) := by
  have hannounced : powerHalf (u.blocksStarted meters).handSummary.announceHold :=
    powerHalf.reads.keeps (State.announceHold_changes _) (by simp) (powerOk_blocksStarted u meters).half
  have hfailed := foldl_keeps powerHalf State.restoreBad (fun v r hv => hv.takeFault _) (failedRecords u.nvc.array) _
    hannounced
  have hconfig : ∀ v : State, powerHalf v → powerHalf (v.configInvalid (configFault u.nvc.array)) := fun v hv => by
    unfold State.configInvalid
    split
    · exact hv.takeFault _
    · exact hv
  have hkey : ∀ v : State, powerOk v → powerOk v.keyAtStart := fun v hv => by
    unfold State.keyAtStart
    split
    · exact hv
    · exact hv.keyOffTaken
  exact hkey _ (hconfig _ hfailed).settle

theorem powerOk.exec (hs : powerOk s) {c : Instr} {t : State} (h : Machine.exec c s = .next t) : powerOk t := by
  have hreads := powerOk.reads
  by_cases hc : isStart c
  · exact exec_start_keeps (M := fun _ => True) hreads (by simp) (fun u m _ => powerOk.started u m)
      (hreads.supplyLost (by simp) (by simp) fun u => powerOk_blocksStarted u _) (fun _ => trivial) hs trivial hc h
  · cases c with
    | powerOn | supplyLoss | supervisorRestart => exact absurd (by simp [isStart]) hc
    | envPoseRecord r =>
      exact onDelivery_keeps hreads (by simp) hs (fun _ hu => hu.half.envRecord r) h
    | smuOneSecondStep => exact onEvent_keeps hs (fun _ hu => hu.half.oneSecond) h
    | itemDone n =>
      exact onDelivery_keeps hreads (by simp) hs (fun _ hu => hu.half.serviceDone n) h
    | meterPreset k v =>
      exact onDelivery_keeps hreads (by simp) hs (fun _ hu => hu.half.preset k v) h
    | cabItemDone k n =>
      exact onDelivery_keeps hreads (by simp) hs (fun _ hu => hu.half.cabDone k n) h
    | writeEntries n data =>
      exact onDelivery_keeps hreads (by simp) hs (fun u hu => (State.writeTable_keeps powerHalf.reads (by simp)
        (by simp) (fun v i b hv => hv.entryWritten _ i b) n data u hu.half).settle) h
    | faultReport r => exact onDelivery_keeps hreads (by simp) hs (fun _ hu => (hu.half.takeFault r).settle) h
    | clearHold => exact onDelivery_keeps hreads (by simp) hs (fun _ hu => hu.half.clearHold.settle) h
    | nvWriteComplete ok => exact onEvent_keeps hs (fun _ hu => hu.writeComplete ok) h
    | keyOff =>
      exact onLine_keeps (l := fun l => { l with key := false }) hreads (by simp) hs (fun _ hu => hu.keyOffTaken) h
    | keyOn =>
      exact onLine_keeps (l := fun l => { l with key := true }) hreads (by simp) hs (fun _ hu => hu.keyOnTaken) h
    | pwrfailAssert =>
      exact onLine_keeps (l := fun l => { l with pwrfail := true }) hreads (by simp) hs
        (fun _ hu => (hu.half.ownRequest .meters true).settle) h
    | commitConfig => exact onDelivery_keeps hreads (by simp) hs (fun _ hu => hu.half.commit.settle) h
    | restart =>
      exact onDelivery_keeps hreads (by simp) hs
        (fun _ hu => (hu.half.restartPending.answerLink .accepted none none 0 []).settle) h
    | _ => exact hreads.keeps_exec h hs (by simp [footprint])

end

end Sys2Proof.Machine
end

/-! ## KEY-off and its list, PWRFAIL (O52) -/

section
namespace Sys2Proof.Machine

open Sys2Proof

/-! ### What a store request does to the marks of the owners -/

theorem State.requestStore_taken {r : RecordId} {s : State} (h : s.nvc.takes r = true) (head service : Bool) :
    s.requestStore r head service = { s with
      nvc := s.nvc.requested r head service
      env := { s.env with
        unstoredSite := s.env.unstoredSite && !decide (r = .zonesSite)
        unstoredOper := s.env.unstoredOper && !decide (r = .zonesOper) }
      fhu := { s.fhu with unstored := s.fhu.unstored && !decide (r = .hold) }
      smu := if r = .meters then { s.smu with snapDue := false, snapCount := 0 } else s.smu } := by
  cases r <;> simp [State.requestStore, State.ownerTold, h]

/-! ### The key-off list served in turn (R170) -/

section
variable (n : Nvc) (P : List RecordId)

/-- The records of `P` that have no entry in the queue. -/
def Nvc.absentOf : List RecordId := P.filter fun r => decide (r ∉ n.queue.map StoreEntry.record)

/-- The queue after the records of `P` are requested in turn: the again mark of the write in flight, and the first of
the
absent ones on the free places. -/
def Nvc.keyQueue : List StoreEntry :=
  n.queue.map (fun e => if e.record ∈ P
    ∧ n.write.map NvWrite.record = some e.record then { e with again := true } else e)
    ++ ((n.absentOf P).take (4 - n.queue.length)).map fun r => { record := r, again := false, service := false }

/-- The records of `P` that find the queue full. -/
def Nvc.keyLeft : List RecordId := (n.absentOf P).drop (4 - n.queue.length)

/-- The queue took the request for the record. -/
def Nvc.keyTaken (r : RecordId) : Bool := decide (r ∈ P) && !decide (r ∈ n.keyLeft P)

end

/-- The part after the records of `P` are requested in turn. -/
def State.keyServed (v : State) (P : List RecordId) : State := { v with
  nvc := { v.nvc with queue := v.nvc.keyQueue P, keyList := v.nvc.keyLeft P }
  env := { v.env with
    unstoredSite := v.env.unstoredSite && !v.nvc.keyTaken P .zonesSite
    unstoredOper := v.env.unstoredOper && !v.nvc.keyTaken P .zonesOper }
  fhu := { v.fhu with unstored := v.fhu.unstored && !v.nvc.keyTaken P .hold }
  smu := if v.nvc.keyTaken P .meters then { v.smu with snapDue := false, snapCount := 0 } else v.smu }

section
variable {n : Nvc} {P : List RecordId} {r : RecordId}

theorem Nvc.absentOf_waits (h : r ∈ n.queue.map StoreEntry.record) : n.absentOf (P ++ [r]) = n.absentOf P := by
  rw [Nvc.absentOf, List.filter_append, List.filter_cons_of_neg (by simpa using h), List.filter_nil, List.append_nil]
  rfl

theorem Nvc.absentOf_absent (h : r ∉ n.queue.map StoreEntry.record) : n.absentOf (P ++ [r]) = n.absentOf P ++ [r] := by
  rw [Nvc.absentOf, List.filter_append, List.filter_cons_of_pos (by simpa using h), List.filter_nil]
  rfl

theorem Nvc.mem_absentOf {x : RecordId} (h : x ∈ n.absentOf P) : x ∈ P := List.mem_of_mem_filter h

/-- The records of the queue do not change, but for those that join it. -/
theorem Nvc.keyQueue_records : (n.keyQueue P).map StoreEntry.record =
    n.queue.map StoreEntry.record ++ (n.absentOf P).take (4 - n.queue.length) := by
  unfold Nvc.keyQueue
  rw [List.map_append, List.map_map, List.map_map]
  congr 1
  · refine List.map_congr_left fun e _ => ?_
    show (if _ then _ else _ : StoreEntry).record = e.record
    split <;> rfl
  · exact List.map_id _

theorem Nvc.keyQueue_length : (n.keyQueue P).length =
    n.queue.length + min (4 - n.queue.length) (n.absentOf P).length := by
  simp [Nvc.keyQueue]

theorem Nvc.not_mem_keyQueue (hP : r ∉ P) (h : r ∉ n.queue.map StoreEntry.record) :
    r ∉ (n.keyQueue P).map StoreEntry.record := by
  rw [Nvc.keyQueue_records, List.mem_append]
  exact fun hin => hin.elim h fun htake => hP (Nvc.mem_absentOf (List.mem_of_mem_take htake))

theorem Nvc.keyTaken_other {x : RecordId} (hx : x ≠ r) (hleft : x ∈ n.keyLeft (P ++ [r]) ↔ x ∈ n.keyLeft P) :
    n.keyTaken (P ++ [r]) x = n.keyTaken P x := by
  simp [Nvc.keyTaken, hx, hleft]

/-- A record that is taken counts from then on. -/
theorem Nvc.keyTaken_taken (hP : r ∉ P) (hleft : n.keyLeft (P ++ [r]) = n.keyLeft P) (x : RecordId) :
    n.keyTaken (P ++ [r]) x = (n.keyTaken P x || decide (r = x)) := by
  have hr : r ∉ n.keyLeft P := fun h => hP (Nvc.mem_absentOf (List.mem_of_mem_drop h))
  by_cases hx : x = r
  · subst hx
    simp [Nvc.keyTaken, hleft, hr]
  · rw [Nvc.keyTaken_other hx (by rw [hleft])]
    simp [Ne.symm hx]

theorem Nvc.keyTaken_refused (hP : r ∉ P) (hleft : n.keyLeft (P ++ [r]) = n.keyLeft P ++ [r]) (x : RecordId) :
    n.keyTaken (P ++ [r]) x = n.keyTaken P x := by
  by_cases hx : x = r
  · subst hx
    simp [Nvc.keyTaken, hleft, hP]
  · exact Nvc.keyTaken_other hx (by simp [hleft, hx])

end

/-! The queue with one record more. -/

section
variable {n : Nvc} {P : List RecordId} {r : RecordId}

theorem Nvc.keyQueue_writing (hP : r ∉ P) (hwaits : r ∈ n.queue.map StoreEntry.record)
    (hw : n.write.map NvWrite.record = some r) : n.keyQueue (P ++ [r]) = (n.keyQueue P).map (fun e =>
      if e.record = r then { e with again := true, service := e.service || false } else e) := by
  unfold Nvc.keyQueue
  rw [Nvc.absentOf_waits hwaits, List.map_append, List.map_map, hw]
  congr 1
  · refine List.map_congr_left fun e _ => ?_
    by_cases he : e.record = r
    · subst he
      simp [hP]
    · have hne : ¬r = e.record := fun h => he h.symm
      simp [he, hne]
  · refine ((List.map_congr_left fun x hx => ?_).trans (List.map_id _)).symm
    obtain ⟨q, hq, rfl⟩ := List.mem_map.1 hx
    refine if_neg ?_
    rintro rfl
    exact hP (Nvc.mem_absentOf (List.mem_of_mem_take hq))

theorem Nvc.keyQueue_marks (hw : n.write.map NvWrite.record ≠ some r) :
    n.queue.map (fun e => if e.record ∈ P ++ [r] ∧ n.write.map NvWrite.record = some e.record then
        { e with again := true } else e)
      = n.queue.map (fun e => if e.record ∈ P ∧ n.write.map NvWrite.record = some e.record then
        { e with again := true } else e) := by
  refine List.map_congr_left fun e _ => ?_
  by_cases he : e.record = r
  · subst he
    rw [if_neg fun h => hw h.2, if_neg fun h => hw h.2]
  · simp [he]

theorem Nvc.keyQueue_waiting (hwaits : r ∈ n.queue.map StoreEntry.record)
    (hw : n.write.map NvWrite.record ≠ some r) : n.keyQueue (P ++ [r]) = n.keyQueue P := by
  unfold Nvc.keyQueue
  rw [Nvc.absentOf_waits hwaits, Nvc.keyQueue_marks hw]

theorem Nvc.keyQueue_joins (habsent : r ∉ n.queue.map StoreEntry.record) (hw : n.write.map NvWrite.record ≠ some r)
    (hroom : (n.absentOf P).length < 4 - n.queue.length) : n.keyQueue (P ++ [r]) =
      n.keyQueue P ++ [{ record := r, again := false, service := false }] := by
  unfold Nvc.keyQueue
  rw [Nvc.absentOf_absent habsent, Nvc.keyQueue_marks hw, List.take_of_length_le (by simpa using hroom),
    List.take_of_length_le hroom.le, List.map_append, List.append_assoc]
  rfl

theorem Nvc.keyQueue_full (habsent : r ∉ n.queue.map StoreEntry.record) (hw : n.write.map NvWrite.record ≠ some r)
    (hfull : 4 - n.queue.length ≤ (n.absentOf P).length) : n.keyQueue (P ++ [r]) = n.keyQueue P := by
  unfold Nvc.keyQueue
  rw [Nvc.absentOf_absent habsent, Nvc.keyQueue_marks hw, List.take_append_of_le_length hfull]

theorem Nvc.keyLeft_waits (hwaits : r ∈ n.queue.map StoreEntry.record) : n.keyLeft (P ++ [r]) = n.keyLeft P := by
  unfold Nvc.keyLeft
  rw [Nvc.absentOf_waits hwaits]

theorem Nvc.keyLeft_joins (habsent : r ∉ n.queue.map StoreEntry.record)
    (hroom : (n.absentOf P).length < 4 - n.queue.length) : n.keyLeft (P ++ [r]) = n.keyLeft P := by
  unfold Nvc.keyLeft
  rw [Nvc.absentOf_absent habsent, List.drop_of_length_le (by simpa using hroom), List.drop_of_length_le hroom.le]

theorem Nvc.keyLeft_full (habsent : r ∉ n.queue.map StoreEntry.record)
    (hfull : 4 - n.queue.length ≤ (n.absentOf P).length) : n.keyLeft (P ++ [r]) = n.keyLeft P ++ [r] := by
  unfold Nvc.keyLeft
  rw [Nvc.absentOf_absent habsent, List.drop_append_of_le_length hfull]

end

section
variable {v : State} {P : List RecordId} {r : RecordId}

theorem State.keyServed_takes (htakes : (v.keyServed P).nvc.takes r = true) (hpower : v.nvc.power ≠ .readyOff)
    (hP : r ∉ P) (hqueue : (v.keyServed P).nvc.queueAfter r false false = v.nvc.keyQueue (P ++ [r]))
    (hleft : v.nvc.keyLeft (P ++ [r]) = v.nvc.keyLeft P) :
    (v.keyServed P).requestKeyOff r = v.keyServed (P ++ [r]) := by
  have hnvc : (v.keyServed P).nvc.requested r false false = { v.nvc with
      queue := v.nvc.keyQueue (P ++ [r]), keyList := v.nvc.keyLeft (P ++ [r]) } := by
    have hsame : (if (v.keyServed P).nvc.power = .readyOff then .shuttingDown else (v.keyServed P).nvc.power)
        = v.nvc.power := if_neg hpower
    rw [Nvc.requested_frame, Nvc.requested_queue r false false _ htakes, Nvc.requested_power htakes, hqueue, hleft,
      hsame]
    rfl
  have hsmu : (if r = .meters then { (v.keyServed P).smu with snapDue := false, snapCount := 0 } else
    (v.keyServed P).smu)
      = if v.nvc.keyTaken (P ++ [r]) .meters then { v.smu with snapDue := false, snapCount := 0 } else v.smu := by
    rw [Nvc.keyTaken_taken hP hleft]
    unfold State.keyServed
    by_cases hr : r = .meters
    · have hyes : (v.nvc.keyTaken P .meters || decide (r = .meters)) = true := by simp [hr]
      rw [if_pos hr, if_pos hyes]
      dsimp only
      split <;> rfl
    · rw [if_neg hr]
      simp [hr]
  unfold State.requestKeyOff State.ownRequest
  rw [if_pos htakes, if_pos htakes, State.requestStore_taken htakes, hnvc, hsmu]
  have hmark := Nvc.keyTaken_taken hP hleft
  simp only [State.keyServed, hmark, Bool.not_or, Bool.and_assoc]

theorem State.keyServed_refuses (htakes : (v.keyServed P).nvc.takes r = false) (hP : r ∉ P)
    (hqueue : v.nvc.keyQueue (P ++ [r]) = v.nvc.keyQueue P)
    (hleft : v.nvc.keyLeft (P ++ [r]) = v.nvc.keyLeft P ++ [r]) :
    (v.keyServed P).requestKeyOff r = v.keyServed (P ++ [r]) := by
  unfold State.requestKeyOff
  rw [if_neg (by simp [htakes])]
  unfold State.keyServed
  rw [hqueue, hleft, Nvc.keyTaken_refused hP hleft, Nvc.keyTaken_refused hP hleft, Nvc.keyTaken_refused hP hleft,
    Nvc.keyTaken_refused hP hleft]

/-- The next record of the list is requested (R170): absorbed, joined at the tail, or left. -/
theorem State.keyServed_step (hs : storesOk v) (hserved : storesOk (v.keyServed P)) (hpower : v.nvc.power ≠ .readyOff)
    (hP : r ∉ P) : (v.keyServed P).requestKeyOff r = v.keyServed (P ++ [r]) := by
  have hlen := Nvc.keyQueue_length (n := v.nvc) (P := P)
  obtain ⟨hroom, -⟩ := hs.1
  by_cases hwaits : r ∈ v.nvc.queue.map StoreEntry.record
  · have hin : r ∈ (v.keyServed P).nvc.queue.map StoreEntry.record := by
      show r ∈ (v.nvc.keyQueue P).map StoreEntry.record
      rw [Nvc.keyQueue_records]
      exact List.mem_append_left _ hwaits
    refine State.keyServed_takes (Nvc.takes_iff.2 (.inl hin)) hpower hP ?_ (Nvc.keyLeft_waits hwaits)
    cases hwriting : v.nvc.writing r with
    | true =>
      rw [Nvc.queueAfter_writing (by exact hwriting)]
      exact (Nvc.keyQueue_writing hP hwaits (Nvc.writing_iff.1 hwriting)).symm
    | false =>
      have hnot : v.nvc.write.map NvWrite.record ≠ some r := fun h =>
        absurd (Nvc.writing_iff.2 h) (by simp [hwriting])
      obtain ⟨e, he, hr⟩ := List.mem_map.1 hin
      rw [Nvc.queueAfter_waiting hserved.1 (by exact hwriting) he hr, if_neg Bool.false_ne_true,
        Nvc.keyQueue_waiting hwaits hnot]
      exact (List.map_congr_left fun x _ => by simp).trans (List.map_id (v.nvc.keyQueue P))
  · have habsent : r ∉ (v.keyServed P).nvc.queue.map StoreEntry.record := Nvc.not_mem_keyQueue hP hwaits
    have hwriting : v.nvc.writing r = false := Bool.eq_false_iff.2 fun h => hwaits (hs.2.waits h)
    have hnot : v.nvc.write.map NvWrite.record ≠ some r := fun h => absurd (Nvc.writing_iff.2 h) (by simp [hwriting])
    by_cases hfree : (v.nvc.absentOf P).length < 4 - v.nvc.queue.length
    · refine State.keyServed_takes (Nvc.takes_iff.2 (.inr ?_)) hpower hP ?_ (Nvc.keyLeft_joins hwaits hfree)
      · show (v.nvc.keyQueue P).length < 4
        omega
      · rw [Nvc.queueAfter_absent (by exact hwriting) habsent, if_neg Bool.false_ne_true]
        exact (Nvc.keyQueue_joins hwaits hnot hfree).symm
    · refine State.keyServed_refuses ?_ hP (Nvc.keyQueue_full hwaits hnot (by omega))
        (Nvc.keyLeft_full hwaits (by omega))
      rw [Bool.eq_false_iff, Ne, Nvc.takes_iff]
      rintro (hin | hlt)
      · exact habsent hin
      · have hlt : (v.nvc.keyQueue P).length < 4 := hlt
        omega

theorem State.keyServed_nil (v : State) (hkeys : v.nvc.keyList = []) : v.keyServed [] = v := by
  have hqueue : v.nvc.keyQueue [] = v.nvc.queue := by simp [Nvc.keyQueue, Nvc.absentOf]
  have hleft : v.nvc.keyLeft [] = v.nvc.keyList := by simp [Nvc.keyLeft, Nvc.absentOf, hkeys]
  unfold State.keyServed
  rw [hqueue, hleft]
  simp [Nvc.keyTaken]

/-- R170: the whole list, in its order. -/
theorem State.keyServed_foldl (hs : storesOk v) (hkeys : v.nvc.keyList = []) (hpower : v.nvc.power ≠ .readyOff)
    (l : List RecordId) : l.Nodup → l.foldl State.requestKeyOff v = v.keyServed l := by
  induction l using List.reverseRecOn with
  | nil => exact fun _ => (v.keyServed_nil hkeys).symm
  | append_singleton P r ih =>
    intro hnodup
    obtain ⟨hPnodup, -, hdis⟩ := List.nodup_append.1 hnodup
    have hP : r ∉ P := fun h => hdis r h r (List.mem_singleton.2 rfl) rfl
    have hserved : storesOk (P.foldl State.requestKeyOff v) :=
      foldl_keeps storesOk _ (fun u q hu => (u.requestKeyOff_changes q).stands .stores (by decide) hu) P v hs
    rw [ih hPnodup] at hserved
    rw [List.foldl_append, ih hPnodup]
    exact State.keyServed_step hs hserved hpower hP

end

/-! ### The EPC at KEY-off (R130) -/

theorem Epc.onKeyOff_reform (c : EpcCfg) (p : Epc) : p.onKeyOff.reform c = { p with
    keyOff := true, plan := .none, lead := none, starting := none, swap := false, startTimer := 0, cooldown := 0
    lowCount := 0, dwell := 0, idle := false, allowance := 0
    e1 := { p.e1 with run := false, cmdSpeed := 0, hasRun := false }
    e2 := { p.e2 with run := false, cmdSpeed := 0, hasRun := false } } := by
  have hstop : ∀ e, p.onKeyOff.runFor e = false := fun e => Epc.runFor_stopped _ e (.inl rfl)
  have hcommand : ∀ e, p.onKeyOff.command c e = { p.eng e with run := false, cmdSpeed := 0, hasRun := false } := fun
    e => by
    rw [Epc.command_eq, hstop]
    cases e <;> rfl
  have hallow : (p.onKeyOff.reform c).allowance = 0 := by
    have hnone : ∀ e, (p.onKeyOff.recommand c).contribution c e = 0 := fun e => by
      have hrun : ((p.onKeyOff.recommand c).eng e).run = false := by
        cases e
        · exact (Epc.command_run c p.onKeyOff .e1).trans (hstop .e1)
        · exact (Epc.command_run c p.onKeyOff .e2).trans (hstop .e2)
      simp [Epc.contribution, hrun]
    show (p.onKeyOff.recommand c).allowanceOf c = 0
    rw [Epc.allowanceOf, hnone, hnone]
    simp
  rw [Epc.reform_eq, hcommand, hcommand, hallow]
  rfl

theorem keyOffList_nodup (v : Env) : (keyOffList v).Nodup := by
  unfold keyOffList
  cases v.unstoredSite <;> cases v.unstoredOper <;> decide

/-! ### PWRFAIL (R172) -/

section
variable {n : Nvc} {r : RecordId}

theorem Nvc.queued_head (hq : queueOk n) (hw : writeOk n) : (n.requested r true false).queued r = n.takes r := by
  rw [Nvc.queued_requested hq hw, decide_eq_true rfl, Bool.true_and, Nvc.takes]
  cases n.queued r <;> simp

/-- R168: a head request puts the entry behind the write in flight, or first. -/
theorem Nvc.requested_head (hq : queueOk n) (hnot : n.write.map NvWrite.record ≠ some r)
    (htakes : r ∈ n.queue.map StoreEntry.record ∨ n.queue.length < 4) : ∃ e : StoreEntry, e.record = r
      ∧ (r ∈ n.queue.map StoreEntry.record → e ∈ n.queue)
      ∧ (r ∉ n.queue.map StoreEntry.record → e = { record := r, again := false, service := false })
      ∧ ∃ others, others = n.queue.filter (fun x => x.record ≠ r)
        ∧ (n.write = none → (n.requested r true false).queue = e :: others)
        ∧ (n.write ≠ none → (n.requested r true false).queue = others.take 1 ++ e :: others.drop 1) := by
  have hwriting : n.writing r = false := Bool.eq_false_iff.2 fun h => hnot (Nvc.writing_iff.1 h)
  have hafter := Nvc.requested_queue r true false n (Nvc.takes_iff.2 htakes)
  have hplaced : ∀ e : StoreEntry, (n.requested r true false).queue =
      atHead n.write.isSome e (n.queue.filter fun x => x.record ≠ r) → ∃ others,
      others = n.queue.filter (fun x => x.record ≠ r)
        ∧ (n.write = none → (n.requested r true false).queue = e :: others)
        ∧ (n.write ≠ none → (n.requested r true false).queue = others.take 1 ++ e :: others.drop 1) := fun e h => by
    rw [atHead_eq] at h
    exact ⟨_, rfl, fun hnone => h.trans (if_pos hnone), fun hsome => h.trans (if_neg hsome)⟩
  by_cases hwaits : r ∈ n.queue.map StoreEntry.record
  · obtain ⟨e, he, hr⟩ := List.mem_map.1 hwaits
    refine ⟨e, hr, fun _ => he, fun h => absurd hwaits h, hplaced e ?_⟩
    rw [hafter, Nvc.queueAfter_waiting hq hwriting he hr, if_pos rfl, Bool.or_false]
  · refine ⟨_, rfl, fun h => absurd h hwaits, fun _ => rfl, hplaced _ ?_⟩
    have hall : n.queue.filter (fun x => decide (x.record ≠ r)) = n.queue := List.filter_eq_self.2 fun x hx => by
      rw [decide_eq_true_eq]
      rintro rfl
      exact hwaits (List.mem_map_of_mem hx)
    rw [hafter, Nvc.queueAfter_absent hwriting hwaits, if_pos rfl, hall]

end

theorem State.ownRequest_meters (head : Bool) (s : State) : s.ownRequest .meters head = { s with
    nvc := s.nvc.requested .meters head false
    smu := if s.nvc.takes .meters then { s.smu with snapDue := false, snapCount := 0 } else s.smu } := by
  unfold State.ownRequest
  split
  next h => rw [State.requestStore_meters, if_pos h]
  next h => rw [Nvc.requested_refused .meters head false s.nvc (by simpa using h)]

/-! ### KEY-off in RUN (R130, R170) -/

/-- The part at KEY-off before the list is served: the EPC has taken it. -/
def State.keyedOff (s : State) : State :=
  State.epcEvent Epc.onKeyOff { s with nvc := { s.nvc with power := .shuttingDown, keyList := [] } }

/-- The PLAN_CHANGED of KEY-off. -/
def State.keyOffNotices (s : State) : List NoticeKind :=
  planNotices s.epc (s.epc.onKeyOff.reform s.settings.epc)

theorem State.keyedOff_eq (s : State) : s.keyedOff = { s with
    nvc := { s.nvc with power := .shuttingDown, keyList := [] }
    epc := s.epc.onKeyOff.reform s.settings.epc
    portA := s.portA.raisedAll s.keyOffNotices
    sli := { s.sli with counts := countsAfter s.keyOffNotices s.sli.counts } } := by
  obtain ⟨b, hb⟩ : ∃ b : State, { s with nvc := { s.nvc with power := .shuttingDown, keyList := [] } } = b := ⟨_, rfl⟩
  have hframe := State.epcEvent_frame Epc.onKeyOff b
  obtain ⟨hportA, hsli⟩ := State.epcEvent_planNotices Epc.onKeyOff b.inFlight b rfl
  change (State.epcEvent Epc.onKeyOff b).portA = _ at hportA
  change (State.epcEvent Epc.onKeyOff b).sli = _ at hsli
  have hepc : (State.epcEvent Epc.onKeyOff { b with inFlight := b.inFlight }).epc
    = b.epc.onKeyOff.reform b.settings.epc := State.epcEvent_epc Epc.onKeyOff b
  rw [hepc] at hportA hsli
  rw [hportA, hsli] at hframe
  rw [State.keyedOff, hb, hframe, ← hb]
  rfl

section
variable {s : State}

theorem State.keyOffTaken_served (hs : storesOk s) (hrun : s.nvc.power = .run) :
    s.keyOffTaken = (s.keyedOff.keyServed (keyOffList s.env)).settle := by
  have hstores : storesOk s.keyedOff := by
    rw [State.keyedOff_eq]
    exact hs
  have hkeys : s.keyedOff.nvc.keyList = [] := by rw [State.keyedOff_eq]
  have hpower : s.keyedOff.nvc.power ≠ .readyOff := by
    rw [State.keyedOff_eq]
    exact nofun
  refine (if_pos hrun).trans (congrArg State.settle ?_)
  exact State.keyServed_foldl hstores hkeys hpower _ (keyOffList_nodup s.env)

theorem mem_keyOffList (v : Env) (r : RecordId) : r ∈ keyOffList v ↔ r = .meters ∨ r = .items
    ∨ (r = .zonesSite ∧ v.unstoredSite = true) ∨ (r = .zonesOper ∧ v.unstoredOper = true) := by
  unfold keyOffList
  cases v.unstoredSite <;> cases v.unstoredOper <;> simp

theorem Nvc.mem_of_keyLeft {n : Nvc} {P : List RecordId} {r : RecordId} (h : r ∈ n.keyLeft P) : r ∈ P :=
  Nvc.mem_absentOf (List.mem_of_mem_drop h)

/-- A listed record has an entry in the queue, or is left on the list. -/
theorem Nvc.keyQueue_or_left (n : Nvc) {P : List RecordId} {r : RecordId} (h : r ∈ P) :
    r ∈ (n.keyQueue P).map StoreEntry.record ∨ r ∈ n.keyLeft P := by
  rw [Nvc.keyQueue_records, List.mem_append]
  by_cases hwaits : r ∈ n.queue.map StoreEntry.record
  · exact .inl (.inl hwaits)
  · have habsent : r ∈ n.absentOf P := List.mem_filter.2 ⟨h, by simpa using hwaits⟩
    rw [← List.take_append_drop (4 - n.queue.length) (n.absentOf P), List.mem_append] at habsent
    exact habsent.imp .inr id

/-- METERS is listed, so something is left to store. -/
theorem State.keyOffTaken_power (hs : storesOk s) (hrun : s.nvc.power = .run) :
    s.keyOffTaken.nvc.power = .shuttingDown := by
  have hkept : (s.keyedOff.keyServed (keyOffList s.env)).nvc.power = .shuttingDown := by
    rw [State.keyedOff_eq]
    rfl
  rw [State.keyOffTaken_served hs hrun, State.settle_power, hkept, if_neg]
  rintro ⟨-, hqueue, -, hlist⟩
  have hqueue : s.keyedOff.nvc.keyQueue (keyOffList s.env) = [] := hqueue
  have hlist : s.keyedOff.nvc.keyLeft (keyOffList s.env) = [] := hlist
  have hmeters := s.keyedOff.nvc.keyQueue_or_left ((mem_keyOffList s.env .meters).2 (.inl rfl))
  rw [hqueue, hlist] at hmeters
  simp at hmeters

/-- The unstored mark of a zone record after KEY-off: that it is left on the list. -/
theorem keyOff_mark {n : Nvc} {v : Env} {r : RecordId} {mark : Bool} (hmem : r ∈ keyOffList v ↔ mark = true) :
    (mark && !n.keyTaken (keyOffList v) r) = decide (r ∈ n.keyLeft (keyOffList v)) := by
  cases mark with
  | true =>
    have hin : r ∈ keyOffList v := hmem.2 rfl
    simp [Nvc.keyTaken, hin]
  | false =>
    have hout : r ∉ n.keyLeft (keyOffList v) := fun h => Bool.false_ne_true (hmem.1 (Nvc.mem_of_keyLeft h))
    simp [hout]

theorem State.keyServed_listed (v : State) (e : Env) (hsite : e.unstoredSite = v.env.unstoredSite)
    (hoper : e.unstoredOper = v.env.unstoredOper) : v.keyServed (keyOffList e) = { v with
      nvc := { v.nvc with queue := v.nvc.keyQueue (keyOffList e), keyList := v.nvc.keyLeft (keyOffList e) }
      env := { v.env with
        unstoredSite := decide (.zonesSite ∈ v.nvc.keyLeft (keyOffList e))
        unstoredOper := decide (.zonesOper ∈ v.nvc.keyLeft (keyOffList e)) }
      smu := if .meters ∈ v.nvc.keyLeft (keyOffList e) then v.smu
        else { v.smu with snapDue := false, snapCount := 0 } } := by
  have hhold : v.nvc.keyTaken (keyOffList e) .hold = false := by
    have hout : RecordId.hold ∉ keyOffList e := by simp [mem_keyOffList]
    simp [Nvc.keyTaken, hout]
  have hmeters : v.nvc.keyTaken (keyOffList e) .meters = !decide (.meters ∈ v.nvc.keyLeft (keyOffList e)) := by
    have hin : RecordId.meters ∈ keyOffList e := by simp [mem_keyOffList]
    simp [Nvc.keyTaken, hin]
  have hs := keyOff_mark (n := v.nvc) (v := e) (r := .zonesSite) (mark := v.env.unstoredSite)
    (by simp [mem_keyOffList, hsite])
  have ho := keyOff_mark (n := v.nvc) (v := e) (r := .zonesOper) (mark := v.env.unstoredOper)
    (by simp [mem_keyOffList, hoper])
  unfold State.keyServed
  rw [hs, ho, hhold, hmeters]
  simp

end

/-- Settles O52: the power state through every command; KEY-off by its list served in turn; PWRFAIL by its head
request. -/
theorem keyAndPwrfailEvents : Obligations.KeyAndPwrfailEvents := by
  refine ⟨fun s t hs h => step_keeps powerOk.reads (by simp)
    (fun _ _ _ hu hc => hu.exec hc) s t hs h, fun s on hs => ?_⟩
  intro waits inWrite
  refine ⟨?keyOff, ?keyOn, ?pwrfail, onEvent_on _ _ on⟩
  case keyOff =>
    by_cases hrun : s.nvc.power = .run
    · obtain ⟨b, hb⟩ : ∃ b : State, { s with lines := { s.lines with key := false } } = b := ⟨_, rfl⟩
      have htaken : b.keyOffTaken = _ := State.keyOffTaken_served (s := b) (by rw [← hb]; exact hs)
        (by rw [← hb]; exact hrun)
      rw [State.keyServed_listed b.keyedOff b.env (by rw [State.keyedOff_eq]) (by rw [State.keyedOff_eq]),
        State.keyedOff_eq, State.keyOffNotices, Epc.onKeyOff_reform, ← hb] at htaken
      have hpower := State.keyOffTaken_power (s := b) (by rw [← hb]; exact hs) (by rw [← hb]; exact hrun)
      rw [← hb] at hpower
      obtain ⟨w, hw⟩ : ∃ w, State.keyOffTaken { s with lines := { s.lines with key := false } } = w := ⟨_, rfl⟩
      rw [hw] at htaken hpower
      obtain ⟨write, power, flight, hsettled⟩ := State.settle_exists _
      have hall := htaken.trans hsettled
      obtain rfl : power = .shuttingDown := (congrArg (fun u : State => u.nvc.power) hall).symm.trans hpower
      refine ⟨w, next_of_on on hw, ?_⟩
      clear htaken hsettled hpower hw
      subst hall
      refine ⟨rfl, fun _ => ⟨rfl, rfl, rfl, ?_, ?_, ⟨rfl, rfl⟩, rfl, keyOffList s.env, s.nvc.absentOf
        (keyOffList s.env), rfl,
        ?_, rfl, rfl, rfl, rfl⟩, fun h => absurd hrun h⟩
      · show (if _ then _ else _ : Smu).meters = _
        split <;> rfl
      · show (if _ then _ else _ : Smu).items = _
        split <;> rfl
      · rfl
    · exact ⟨{ s with lines := { s.lines with key := false } }, next_of_on on
        (if_neg hrun), rfl, fun h => absurd h hrun,
        fun _ => rfl⟩
  case keyOn =>
    by_cases hrun : s.nvc.power = .run
    · refine ⟨{ s with lines := { s.lines with key := true } }, next_of_on on (if_pos hrun), rfl,
        hrun, fun h => absurd hrun h, fun _ => rfl⟩
    · refine ⟨{ s with
        lines := { s.lines with key := true }, nvc := { s.nvc with power := .run, keyList := [] }
        epc := Epc.reform s.settings.epc { s.epc with keyOff := false, runSeen := false } }, ?_, rfl, rfl, fun _ => rfl,
          fun h => absurd h hrun⟩
      refine next_of_on on ((if_neg hrun).trans ?_)
      exact State.epcEvent_plain Epc.onKeyOn _ rfl rfl rfl
  case pwrfail =>
    obtain ⟨write, power, flight, hsettled⟩ := State.settle_exists { s with
      lines := { s.lines with pwrfail := true }, nvc := s.nvc.requested .meters true false
      smu := if s.nvc.takes .meters then { s.smu with snapDue := false, snapCount := 0 } else s.smu }
    refine ⟨_, next_of_on on ((congrArg State.settle
      (State.ownRequest_meters true _)).trans hsettled), rfl, Nvc.queued_head hs.1 hs.2, rfl, rfl, rfl, fun hin => ?_,
      fun hnot hin => Nvc.requested_head hs.1 hnot hin, fun hnot hfull => ?_⟩
    · have hwriting : s.nvc.writing .meters = true := Nvc.writing_iff.2 hin
      refine (Nvc.requested_queue .meters true false s.nvc (Nvc.takes_iff.2 (.inl (hs.2.waits hwriting)))).trans ?_
      rw [Nvc.queueAfter_writing hwriting]
      simp only [Bool.or_false]
    · have hno : s.nvc.takes .meters = false := by
        rw [Bool.eq_false_iff, Ne, Nvc.takes_iff]
        exact fun h => h.elim hnot (by omega)
      show (s.nvc.requested .meters true false).queue = _
      rw [Nvc.requested_refused .meters true false s.nvc hno]

end Sys2Proof.Machine
end

/-! ## Node ages and the messages of the machine bus (O53, O54) -/

section
namespace Sys2Proof.Machine

open Sys2Proof

/-! ### Deliveries made under a condition -/

/-- The state with a list put in flight. -/
def State.send (l : List Instr) (s : State) : State := { s with inFlight := s.inFlight ++ l }

theorem State.deliver_both (a b : Instr) (s : State) : (s.deliver a).deliver b = s.send [a, b] := by
  simp only [State.send, State.deliver, List.append_assoc, List.cons_append, List.nil_append]

theorem State.deliver_thrice (a b c : Instr) (s : State) :
    ((s.deliver a).deliver b).deliver c = s.send [a, b, c] := by
  simp only [State.send, State.deliver, List.append_assoc, List.cons_append, List.nil_append]

/-- What `f` puts in flight comes exactly when it is applied. -/
theorem State.applyIf_send {f : State → State} {l : List Instr} (hf : ∀ s : State, f s = s.send l) (b : Bool)
    (s : State) : s.applyIf b f = s.send (if b then l else []) := by
  cases b with
  | true => exact hf s
  | false => exact congrArg (fun q => { s with inFlight := q }) (List.append_nil _).symm

theorem State.reportClear_send (code : FaultCode) (detail : Int) (frame : Option FrameNo) (s : State) :
    s.reportClear code detail frame
      = s.send [.faultReport { code := code, clearing := true, detail := detail, frame := frame }] := rfl

theorem State.deliverIf_send (b : Bool) (c : Instr) (s : State) : s.deliverIf b c = s.send (if b then [c] else []) :=
  State.applyIf_send (f := State.deliver c) (fun _ => rfl) b s

/-! ### Ages (R176) -/

theorem limit_le_satAdd {k n : Nat} (hk : k < 255) : k + 1 ≤ satAdd 255 n 1 ↔ k ≤ n := by
  unfold satAdd
  omega

theorem Node.step_eq {k : Nat} (hk : k < 255) (n : Node) :
    n.step (k + 1) = { age := min 255 (n.age + 1), state := if k ≤ n.age then .stale else n.state } := by
  simp only [Node.step, limit_le_satAdd hk]
  rfl

theorem Node.goesStale_iff {k : Nat} (hk : k < 255) (n : Node) :
    n.goesStale (k + 1) = true ↔ k ≤ n.age ∧ n.state ≠ .stale := by
  simp only [Node.goesStale, Bool.and_eq_true, bne_iff_ne, decide_eq_true_eq, limit_le_satAdd hk]
  exact and_comm

theorem State.pcuStale_eq (s : State) :
    s.pcuStale = s.send [.cytPcuStaleness, .epcPcuStaleness, .smuPcuStaleness,
      .faultReport { code := .pcuStale, clearing := false, detail := 3, frame := none }] := by
  simp only [State.pcuStale, State.report, State.send, State.deliver, List.append_assoc, List.cons_append,
    List.nil_append]

theorem State.govStale_eq (e : Engine) (s : State) :
    s.govStale e = s.send [.governorStaleness e,
      .faultReport { code := govStaleCode e, clearing := false, detail := engineNode e, frame := none }] :=
  State.deliver_both ..

/-- The cab one step older; as it goes STALE its event and its fault are sent and the assembly is emptied. -/
theorem State.stepA_eq (s : State) :
    s.stepA = { s with
      portA := { s.portA with
        cab := s.portA.cab.step 100
        assembly := if s.portA.cab.goesStale 100 then none else s.portA.assembly }
      inFlight := s.inFlight ++ if s.portA.cab.goesStale 100 then
        [.envCabStaleness, .faultReport { code := .cabStale, clearing := false, detail := 2, frame := none }]
        else [] } := by
  unfold State.stepA State.applyIf
  cases s.portA.cab.goesStale 100 with
  | true =>
    simp only [if_true, State.cabStale, State.report, State.deliver, List.append_assoc, List.cons_append,
      List.nil_append]
  | false => simp only [Bool.false_eq_true, if_false, List.append_nil]

/-- The three nodes of port B one step older, each that goes STALE with its events and its fault. -/
theorem State.stepB_eq (s : State) :
    s.stepB = { s with
      portB := { s.portB with
        pcu := s.portB.pcu.step 10, gov1 := s.portB.gov1.step 30, gov2 := s.portB.gov2.step 30 }
      inFlight := s.inFlight
        ++ (if s.portB.pcu.goesStale 10 then
            [.cytPcuStaleness, .epcPcuStaleness, .smuPcuStaleness,
              .faultReport { code := .pcuStale, clearing := false, detail := 3, frame := none }] else [])
        ++ (if s.portB.gov1.goesStale 30 then
            [.governorStaleness .e1,
              .faultReport { code := .gov1Stale, clearing := false, detail := 4, frame := none }] else [])
        ++ (if s.portB.gov2.goesStale 30 then
            [.governorStaleness .e2,
              .faultReport { code := .gov2Stale, clearing := false, detail := 5, frame := none }] else []) } := by
  simp only [State.stepB, State.applyIf_send State.pcuStale_eq, State.applyIf_send (State.govStale_eq _)]
  rfl

/-- Settles O53: each step is written out once, with the sending of a node that goes stale. -/
theorem nodesGoStaleAtTheirLimits : Obligations.NodesGoStaleAtTheirLimits := by
  refine ⟨fun s on => ⟨_, onEvent_on _ _ on, ?_⟩, fun s on => ⟨_, onEvent_on _ _ on, ?_⟩⟩
  · simp only [State.stepA_eq, Node.step_eq (show 99 < 255 by decide), Node.goesStale_iff (show 99 < 255 by decide),
      and_self]
  · simp only [State.stepB_eq, Node.step_eq (show 9 < 255 by decide), Node.goesStale_iff (show 9 < 255 by decide),
      Node.step_eq (show 29 < 255 by decide), Node.goesStale_iff (show 29 < 255 by decide), and_self]

/-! ### Machine bus messages (R174, R177, R187) -/

theorem takenIn_pumpStatus (n : Nat) : takenIn (arrival .b .pumpStatus pcuNode n) = true ↔ n = 8 := by
  rw [takenIn_iff]
  constructor
  · rintro ⟨-, ⟨h, -⟩ | ⟨-, -, hn⟩⟩
    · cases h
    · exact hn
  · exact fun hn => ⟨rfl, .inr ⟨rfl, .inl rfl, hn⟩⟩

theorem takenIn_engineStatus (e : Engine) (n : Nat) :
    takenIn (arrival .b .engineStatus (engineNode e) n) = true ↔ n = 8 := by
  rw [takenIn_iff]
  constructor
  · rintro ⟨-, ⟨h, -⟩ | ⟨-, -, hn⟩⟩
    · cases h
    · exact hn
  · intro hn
    cases e with
    | e1 => exact ⟨rfl, .inr ⟨rfl, .inr (.inl rfl), hn⟩⟩
    | e2 => exact ⟨rfl, .inr ⟨rfl, .inr (.inr rfl), hn⟩⟩

/-- A frame of port B that finds the port off its bus, or has another length than the table's, is ignored. -/
theorem State.takeFrame_dropped {rx : RxFrame} {n : Nat} (f : State → State) {s : State} (hp : rx.port = .b)
    (ht : takenIn rx = true → n = 8) (h : s.portB.on = false ∨ n ≠ 8) : s.takeFrame rx f = s := by
  rcases h with off | hn
  · refine State.takeFrame_off _ _ _ ?_
    rw [hp]
    exact off
  · exact State.takeFrame_ignored _ _ _ (Bool.eq_false_iff.mpr fun h => hn (ht h))

theorem State.hearPcu_eq (s : State) :
    s.hearPcu = { s with
      portB := { s.portB with pcu := { age := 0, state := .fresh } }
      inFlight := s.inFlight
        ++ (if s.portB.pcu.state != .fresh then [.cytPcuFreshness, .epcPcuFreshness, .smuPcuFreshness] else [])
        ++ (if s.portB.pcu.state == .stale then
          [.faultReport { code := .pcuStale, clearing := true, detail := 3, frame := none }] else []) } := by
  simp only [State.hearPcu, State.applyIf_send (State.deliver_thrice _ _ _),
    State.applyIf_send (State.reportClear_send _ _ _)]
  rfl

/-- The node record of a governor replaced. -/
def PortB.setGov (e : Engine) (n : Node) (p : PortB) : PortB :=
  if e = .e1 then { p with gov1 := n } else { p with gov2 := n }

theorem State.hearGov_eq (e : Engine) (s : State) :
    s.hearGov e = { s with
      portB := s.portB.setGov e { age := 0, state := .fresh }
      inFlight := s.inFlight
        ++ (if (s.portB.gov e).state != .fresh then [.governorFreshness e] else [])
        ++ (if (s.portB.gov e).state == .stale then
          [.faultReport { code := govStaleCode e, clearing := true, detail := engineNode e, frame := none }]
          else []) } := by
  simp only [State.hearGov, State.deliverIf_send, State.applyIf_send (State.reportClear_send _ _ _)]
  cases e <;> rfl

theorem orderedField_pair (o : ByteOrder) (l : List Byte) (pos : Nat) (a b : Byte) (h : bytesAt l pos 2 = [a, b]) :
    orderedField o l pos 2 = if o = .lowFirst then a.toNat + 256 * b.toNat else b.toNat + 256 * a.toNat := by
  unfold orderedField
  rewrite [h]
  cases o <;> simp [ordered, ofLe]

/-- What a node that has been silent sends as it is heard again: its freshness events, and the clearing of its fault. -/
def heardAgain (n : Node) (fresh : List Instr) (code : FaultCode) (detail : Int) : List Instr :=
  (if n.state = .fresh then [] else fresh)
    ++ if n.state = .stale then [.faultReport { code := code, clearing := true, detail := detail, frame := none }]
      else []

theorem heardAgain_eq (n : Node) (fresh : List Instr) (code : FaultCode) (detail : Int) (q : List Instr) :
    q ++ (if n.state != .fresh then fresh else [])
      ++ (if n.state == .stale then
        [.faultReport { code := code, clearing := true, detail := detail, frame := none }] else [])
      = q ++ heardAgain n fresh code detail := by
  rw [List.append_assoc]
  cases hs : n.state <;> simp [heardAgain, hs]

theorem State.pumpArrived_eq (data : List Byte) (s : State) :
    s.pumpArrived data = { s with
      portB := { s.portB with pcu := { age := 0, state := .fresh } }
      inFlight := s.inFlight
        ++ heardAgain s.portB.pcu [.cytPcuFreshness, .epcPcuFreshness, .smuPcuFreshness] .pcuStale 3
        ++ [.epcPumpStatus (orderedField s.settings.ports.pcuOrder data 0 2) ((data.getD 2 0).getLsbD 0),
          .cytPumpStatus ((data.getD 2 0).getLsbD 1), .smuPumpStatus ((data.getD 2 0).getLsbD 1)] } := by
  refine (State.deliver_thrice ..).trans ?_
  rewrite [State.hearPcu_eq, heardAgain_eq]
  rfl

theorem State.engineArrived_eq (e : Engine) (data : List Byte) (s : State) :
    s.engineArrived e data = { s with
      portB := s.portB.setGov e { age := 0, state := .fresh }
      inFlight := s.inFlight
        ++ heardAgain (s.portB.gov e) [.governorFreshness e] (govStaleCode e) (engineNode e)
        ++ [.epcEngineStatus e (data.getD 0 0) (min 100 (data.getD 1 0).toNat)
          (orderedField (s.settings.ports.govOrder e) data 2 2)
          (orderedField (s.settings.ports.govOrder e) data 4 2)] } := by
  unfold State.engineArrived
  rewrite [State.hearGov_eq, heardAgain_eq]
  rfl

/-- Settles O54: the table of R174 decides what is taken in, and an arrival is its hearing followed by its
deliveries. -/
theorem machineBusMessagesAreDelivered : Obligations.MachineBusMessagesAreDelivered := by
  refine ⟨fun rx s on h => ?ignored, fun g data s on h => ?dropped, ?pump, ?engine⟩
  case ignored =>
    refine next_of_on on (State.takeFrame_ignored _ _ _ ?_)
    exact Bool.eq_false_iff.mpr fun ht => h ((takenIn_iff rx).mp ht)
  case dropped =>
    exact ⟨next_of_on on (State.takeFrame_dropped _ rfl (takenIn_pumpStatus _).mp h),
      next_of_on on (State.takeFrame_dropped _ rfl (takenIn_engineStatus g _).mp h)⟩
  case pump =>
    intro b0 b1 b2 b3 b4 b5 b6 b7 s on bus
    have taken := fun f => State.takeFrame_taken (arrival .b .pumpStatus pcuNode 8) f s bus
      ((takenIn_pumpStatus 8).mpr rfl)
    exact ⟨_, _, next_of_on on ((taken _).trans (State.pumpArrived_eq ..)), rfl, rfl,
      orderedField_pair _ _ 0 b0 b1 rfl, _, rfl, rfl⟩
  case engine =>
    intro g b0 b1 b2 b3 b4 b5 b6 b7 s on bus
    have taken := fun f => State.takeFrame_taken (arrival .b .engineStatus (engineNode g) 8) f s bus
      ((takenIn_engineStatus g 8).mpr rfl)
    refine ⟨_, _, next_of_on on ((taken _).trans (State.engineArrived_eq ..)), rfl, rfl, rfl,
      heardAgain (s.portB.gov g) [.governorFreshness g] (govStaleCode g) (engineNode g), ?_, ?_⟩
    · cases g <;> rfl
    · have pair := orderedField_pair (s.settings.ports.govOrder g) [b0, b1, b2, b3, b4, b5, b6, b7]
      simp only [pair 2 b2 b3 rfl, pair 4 b4 b5 rfl, beq_iff_eq]
      rfl

end Sys2Proof.Machine
end

/-! ## Cab requests (O55) -/

section
namespace Sys2Proof.Machine

open Sys2Proof

/-- A request taken in: the cab FRESH with age 0, its freshness event where it was not. -/
def State.cabHeard (s : State) : State :=
  { s with
    portA := { s.portA with cab := { age := 0, state := .fresh } }
    inFlight := s.inFlight ++ if s.portA.cab.state = .fresh then [] else [.envCabFreshness] }

theorem State.hearCab_eq (s : State) : s.hearCab = s.cabHeard := by
  unfold State.hearCab
  rewrite [State.deliverIf_send]
  unfold State.send State.cabHeard
  cases hs : s.portA.cab.state <;> rfl

theorem State.cabArrived_off {s : State} (bus : s.portA.on = false) (f : CabFrame) : s.cabArrived f = s :=
  State.takeFrame_off _ _ _ bus

theorem State.cabArrived_on {s : State} (bus : s.portA.on = true) (f : CabFrame) :
    s.cabArrived f = s.cabHeard.handleRequest f := by
  rw [← State.hearCab_eq]
  exact State.takeFrame_taken _ _ _ bus ((takenIn_iff _).mpr ⟨rfl, .inl ⟨rfl, rfl, rfl⟩⟩)

/-! ### The kinds of a request -/

theorem State.handleRequest_presence (s : State) (n part : Byte) (ops : List Int) :
    s.handleRequest { number := n, kind := 0, part := part, ops := ops } = s := rfl

theorem State.handleRequest_part {f : CabFrame} (h : f.kind = 9 ∨ f.kind = 12) (s : State) :
    s.handleRequest f = s.takePart f := by
  have nonzero : ¬f.kind = 0 := by rintro h0; rw [h0] at h; revert h; decide
  have two : twoPart f.kind = true := by simpa [twoPart] using h
  simp only [State.handleRequest, if_neg nonzero, if_pos two]

theorem State.handleRequest_whole {f : CabFrame} (h0 : f.kind ≠ 0) (h9 : f.kind ≠ 9) (h12 : f.kind ≠ 12) (s : State) :
    s.handleRequest f = (s.setAssembly none).takeRequest f.number f.kind f.ops [] := by
  have two : ¬twoPart f.kind = true := by
    simp only [twoPart, Bool.or_eq_true, beq_iff_eq, not_or]
    exact ⟨h9, h12⟩
  simp only [State.handleRequest, if_neg h0, if_neg two]

theorem State.takeRequest_full {s : State} (h : 4 ≤ s.portA.results.length) (n kind : Byte) (p0 p1 : List Int) :
    s.takeRequest n kind p0 p1 = s := if_pos h

/-- The state with a place reserved for the result of a request. -/
def State.reserved (n kind : Byte) (s : State) : State := { s with portA := s.portA.reserve n kind }

theorem State.takeRequest_free {s : State} (h : s.portA.results.length < 4) (n kind : Byte) (p0 p1 : List Int) :
    s.takeRequest n kind p0 p1
      = (s.reserved n kind).route (routed kind.toNat s.portA.tickets p0 p1) s.portA.tickets :=
  if_neg (Nat.not_le.mpr h)

theorem State.takeRequest_sent {s : State} (h : s.portA.results.length < 4) {n kind : Byte} {p0 p1 : List Int}
    {c : Instr} (hc : routed kind.toNat s.portA.tickets p0 p1 = some c) :
    s.takeRequest n kind p0 p1 = (s.reserved n kind).deliver c := by
  rw [State.takeRequest_free h, hc]
  rfl

theorem State.takeRequest_refused {s : State} (h : s.portA.results.length < 4) {n kind : Byte} {p0 p1 : List Int}
    (hc : routed kind.toNat s.portA.tickets p0 p1 = none) :
    s.takeRequest n kind p0 p1 = (s.reserved n kind).answerCab s.portA.tickets .refusedRange := by
  rw [State.takeRequest_free h, hc]
  rfl

theorem routed_unknown {kind : Nat} (h : 15 < kind) (k : Nat) (p0 p1 : List Int) : routed kind k p0 p1 = none := by
  obtain ⟨m, rfl⟩ := Nat.exists_eq_add_of_lt h
  rw [show 15 + m + 1 = m + 16 by omega]
  rfl

/-! ### The parts of a two-part request -/

theorem State.takePart_first (n kind : Byte) (ops : List Int) (s : State) :
    s.takePart { number := n, kind := kind, part := 0, ops := ops }
      = s.setAssembly (some { number := n, kind := kind, ops := ops }) := rfl

theorem State.takePart_other {f : CabFrame} (h0 : f.part ≠ 0) (h1 : f.part ≠ 1) (s : State) : s.takePart f = s := by
  simp only [State.takePart, if_neg h0, if_neg h1]

theorem State.takePart_unmatched {n kind : Byte} {s : State}
    (h : ∀ a, s.portA.assembly = some a → a.kind ≠ kind ∨ a.number ≠ n) (ops : List Int) :
    s.takePart { number := n, kind := kind, part := 1, ops := ops } = s := by
  have hp : ¬(1 : Byte) = 0 := by decide
  simp only [State.takePart, if_neg hp, if_true]
  cases ha : s.portA.assembly with
  | none => rfl
  | some a =>
    refine if_neg fun ⟨hk, hn⟩ => ?_
    exact (h a ha).elim (fun g => g hk) fun g => g hn

theorem State.takePart_second {n kind : Byte} {first : List Int} {s : State}
    (h : s.portA.assembly = some { number := n, kind := kind, ops := first }) (ops : List Int) :
    s.takePart { number := n, kind := kind, part := 1, ops := ops }
      = (s.setAssembly none).takeRequest n kind first ops := by
  have hp : ¬(1 : Byte) = 0 := by decide
  simp only [State.takePart, if_neg hp, if_true, h, and_self]

/-! ### The obligation -/

theorem exec_cab_off {s : State} (on : s.supply = true) (bus : s.portA.on = false) (f : CabFrame) :
    onEvent (State.cabArrived f) s = .next s :=
  next_of_on on (State.cabArrived_off bus f)

theorem exec_cab {s t : State} (on : s.supply = true) (bus : s.portA.on = true) {f : CabFrame}
    (h : s.cabHeard.handleRequest f = t) : onEvent (State.cabArrived f) s = .next t :=
  next_of_on on ((State.cabArrived_on bus f).trans h)

/-- A whole request with a place free that is routed goes to its owner. -/
theorem exec_cab_sent {s : State} (on : s.supply = true) (bus : s.portA.on = true) {n kind part : Byte}
    {ops : List Int} {c : Instr} (free : s.portA.results.length < 4)
    (whole : (kind != 0 && kind != 9 && kind != 12) = true) (hc : routed kind.toNat s.portA.tickets ops [] = some c) :
    exec (.cabRequest { number := n, kind := kind, part := part, ops := ops }) s
      = .next (((s.cabHeard.setAssembly none).reserved n kind).deliver c) := by
  simp only [Bool.and_eq_true, bne_iff_ne] at whole
  obtain ⟨⟨h0, h9⟩, h12⟩ := whole
  exact exec_cab on bus ((State.handleRequest_whole h0 h9 h12 _).trans
    (State.takeRequest_sent (s := s.cabHeard.setAssembly none) free hc))

/-- A switch request whose operand is neither 0 nor 1 is refused by the port. -/
theorem exec_cab_refused {s : State} (on : s.supply = true) (bus : s.portA.on = true) {n kind part : Byte}
    {ops : List Int} (free : s.portA.results.length < 4)
    (whole : (kind != 0 && kind != 9 && kind != 12) = true) (hc : routed kind.toNat s.portA.tickets ops [] = none) :
    exec (.cabRequest { number := n, kind := kind, part := part, ops := ops }) s
      = .next (((s.cabHeard.setAssembly none).reserved n kind).answerCab s.portA.tickets .refusedRange) := by
  simp only [Bool.and_eq_true, bne_iff_ne] at whole
  obtain ⟨⟨h0, h9⟩, h12⟩ := whole
  exact exec_cab on bus ((State.handleRequest_whole h0 h9 h12 _).trans
    (State.takeRequest_refused (s := s.cabHeard.setAssembly none) free hc))

theorem isBit_iff (v : Int) : isBit v = true ↔ v = 0 ∨ v = 1 := by
  rw [isBit, within_iff]
  omega

/-- A switch request goes to its owner with the switch its operand gives, or nowhere. -/
theorem routed_switch {kind : Nat} {owner : Nat → Bool → Instr}
    (h : (kind = 2 ∧ owner = .autoSingle) ∨ (kind = 3 ∧ owner = .autoIdle)) (k : Nat) (ops : List Int) :
    routed kind k ops [] = if isBit (opAt ops 0) then some (owner k (opAt ops 0 == 1)) else none := by
  rcases h with ⟨rfl, rfl⟩ | ⟨rfl, rfl⟩ <;> rfl

/-- Settles O55: an arrival is the hearing of the cab and the handling of its kind. -/
theorem cabRequestsAreHandledByKind : Obligations.CabRequestsAreHandledByKind := by
  refine ⟨fun n kind part ops s on bus c hc => ?off, fun n kind part ops s on bus => ?_⟩
  case off =>
    simp only [List.mem_cons, List.not_mem_nil, or_false] at hc
    rcases hc with rfl | rfl | rfl | rfl | rfl <;> exact exec_cab_off on bus _
  intro k op heard bare reserved sent
  have parted : ∀ {c : Instr} {f : CabFrame} {t : State}, exec c s = onEvent (State.cabArrived f) s →
      (f.kind = 9 ∨ f.kind = 12) → s.cabHeard.takePart f = t → exec c s = .next t :=
    fun hc hk ht => hc.trans (exec_cab on bus ((State.handleRequest_part hk _).trans ht))
  refine ⟨exec_cab on bus rfl, exec_cab on bus rfl, fun hk => ⟨fun c hc => ?first, fun h0 h1 => ?other,
    fun c hc => ⟨fun hm => ?unmatched, fun first hm => ?second⟩⟩, fun hk c hc => ?unknown,
    fun full h1 h9 h12 => ?full, fun free => ⟨fun x hx => ?plain, fun x hx => ?switch⟩⟩
  case first =>
    simp only [List.mem_cons, List.not_mem_nil, or_false] at hc
    rcases hc with rfl | rfl <;> exact parted rfl hk rfl
  case other => exact parted rfl hk (State.takePart_other h0 h1 _)
  case unmatched =>
    simp only [List.mem_cons, List.not_mem_nil, or_false] at hc
    rcases hc with rfl | rfl <;> exact parted rfl hk (State.takePart_unmatched (s := s.cabHeard) hm _)
  case second =>
    have second := fun ops => State.takePart_second (s := s.cabHeard) hm ops
    have hc : exec c s = onEvent (State.cabArrived { number := n, kind := kind, part := 1, ops := ops }) s := by
      simp only [List.mem_cons, List.not_mem_nil, or_false] at hc
      rcases hc with rfl | rfl <;> rfl
    refine ⟨fun full => ?_, fun free h9 => ?_, fun free h12 => ?_⟩
    · exact parted hc hk ((second ops).trans (State.takeRequest_full (s := bare) full ..))
    · subst h9
      exact parted hc hk ((second ops).trans (State.takeRequest_sent (s := bare) free rfl))
    · subst h12
      exact parted hc hk ((second ops).trans (State.takeRequest_sent (s := bare) free rfl))
  case unknown =>
    have h0 : kind ≠ 0 := by rintro rfl; revert hk; decide
    have h9 : kind ≠ 9 := by rintro rfl; revert hk; decide
    have h12 : kind ≠ 12 := by rintro rfl; revert hk; decide
    simp only [List.mem_cons, List.not_mem_nil, or_false] at hc
    rcases hc with rfl | rfl <;>
      exact ⟨fun full => exec_cab on bus ((State.handleRequest_whole h0 h9 h12 _).trans
          (State.takeRequest_full (s := bare) full ..)),
        fun free => exec_cab on bus ((State.handleRequest_whole h0 h9 h12 _).trans
          (State.takeRequest_refused (s := bare) free (routed_unknown hk ..)))⟩
  case full =>
    have h0 : kind ≠ 0 := by rintro rfl; revert h1; decide
    exact exec_cab on bus ((State.handleRequest_whole h0 h9 h12 _).trans (State.takeRequest_full (s := bare) full ..))
  case plain =>
    simp only [List.mem_cons, List.not_mem_nil, or_false] at hx
    rcases hx with rfl | rfl | rfl | rfl | rfl | rfl | rfl | rfl | rfl | rfl | rfl <;>
      exact exec_cab_sent on bus free rfl rfl
  case switch =>
    have switched : ∀ {y : Byte} {owner : Nat → Bool → Instr},
        ((y.toNat = 2 ∧ owner = .autoSingle) ∨ (y.toNat = 3 ∧ owner = .autoIdle)) →
        (y != 0 && y != 9 && y != 12) = true →
        let c : Instr := .cabRequest { number := n, kind := y, part := part, ops := ops }
        (op 0 = 0 → exec c s = .next (sent y (owner k false)))
          ∧ (op 0 = 1 → exec c s = .next (sent y (owner k true)))
          ∧ (op 0 ≠ 0 → op 0 ≠ 1 → exec c s = .next (State.answerCab k .refusedRange (reserved y))) := by
      intro y owner hy whole c
      have via := routed_switch hy k ops
      refine ⟨fun h => exec_cab_sent on bus free whole (via.trans ?_),
        fun h => exec_cab_sent on bus free whole (via.trans ?_),
        fun g0 g1 => exec_cab_refused on bus free whole (via.trans (if_neg ?_))⟩
      · rw [show opAt ops 0 = 0 from h]
        rfl
      · rw [show opAt ops 0 = 1 from h]
        rfl
      · exact fun hb => ((isBit_iff _).mp hb).elim g0 g1
    simp only [List.mem_cons, List.not_mem_nil, or_false] at hx
    rcases hx with rfl | rfl
    · exact switched (.inl ⟨rfl, rfl⟩) rfl
    · exact switched (.inr ⟨rfl, rfl⟩) rfl

end Sys2Proof.Machine
end

/-! ## Transmission, bus-off, rejoin and STATUS (O56) -/

section
namespace Sys2Proof.Machine

open Sys2Proof

/-! ### The choice of a port and its NOTICE place -/

theorem PortA.choose_stands {p : PortA} (h : p.on = false ∨ p.offering.isSome = true) : p.choose = p := by
  unfold PortA.choose
  refine if_neg ?_
  rcases h with h | h
  · simp [h]
  · simp [Option.isNone_eq_false_iff.mpr h]

theorem PortB.choose_stands {p : PortB} (h : p.on = false ∨ p.offering.isSome = true) : p.choose = p := by
  unfold PortB.choose
  refine if_neg ?_
  rcases h with h | h
  · simp [h]
  · simp [Option.isNone_eq_false_iff.mpr h]

theorem PortA.fillNotice_stands {p : PortA} {n : NoticeMsg} (h : p.notice = some n) : p.fillNotice = p := by
  simp [PortA.fillNotice, h]

theorem noticeChosen.congr {p q : PortA} (h : noticeChosen p) (hn : q.notice = p.notice) (hc : q.counts = p.counts) :
    noticeChosen q := by
  unfold noticeChosen
  rw [hn, hc]
  exact h

theorem Place.hand_eq {α : Type} (c : Prop) [Decidable c] (m : α) (p : Place α) :
    p.hand (decide c) m = if c then { p with replacement := some m } else { waiting := some m, replacement := none } := by
  unfold Place.hand
  exact if_congr decide_eq_true_iff rfl rfl

/-- What handing a message of one kind changes: its place, and the offer where there was none. -/
theorem PortA.handGuidance_eq (m : GuidanceMsg) (p : PortA) :
    p.handGuidance m = PortA.choose { p with
      guidance := if p.offering = some .guidance then { p.guidance with replacement := some m }
        else { waiting := some m, replacement := none } } :=
  congrArg (fun g => PortA.choose { p with guidance := g }) (Place.hand_eq ..)

theorem PortA.handStatus_eq (m : StatusMsg) (p : PortA) :
    p.handStatus m = PortA.choose { p with
      status := if p.offering = some .status then { p.status with replacement := some m }
        else { waiting := some m, replacement := none } } :=
  congrArg (fun g => PortA.choose { p with status := g }) (Place.hand_eq ..)

theorem PortB.handAllotment_eq (f : CanFrame) (p : PortB) :
    p.handAllotment f = PortB.choose { p with
      allotment := if p.offering = some .allotment then { p.allotment with replacement := some f }
        else { waiting := some f, replacement := none } } :=
  congrArg (fun g => PortB.choose { p with allotment := g }) (Place.hand_eq ..)

theorem PortB.handDemand_e1 (f : CanFrame) (p : PortB) :
    p.handDemand .e1 f = PortB.choose { p with
      demand1 := if p.offering = some .demand1 then { p.demand1 with replacement := some f }
        else { waiting := some f, replacement := none } } :=
  congrArg (fun g => PortB.choose { p with demand1 := g }) (Place.hand_eq ..)

theorem PortB.handDemand_e2 (f : CanFrame) (p : PortB) :
    p.handDemand .e2 f = PortB.choose { p with
      demand2 := if p.offering = some .demand2 then { p.demand2 with replacement := some f }
        else { waiting := some f, replacement := none } } :=
  congrArg (fun g => PortB.choose { p with demand2 := g }) (Place.hand_eq ..)

/-- The choice of port A: all but the offer stands, the offer too off the bus or while a message is offered. -/
theorem PortA.choose_spec (p : PortA) :
    ∃ o, p.choose = { p with offering := o } ∧ (p.on = false ∨ p.offering.isSome = true → o = p.offering)
      ∧ (p.on = true → p.offering = none → offersLowestA { p with offering := o }) := by
  refine ⟨_, PortA.choose_eq p, fun h => by rw [PortA.choose_stands h], fun on free => ?_⟩
  rw [← PortA.choose_eq]
  exact PortA.choose_lowest p on free

theorem PortB.choose_spec (p : PortB) :
    ∃ o, p.choose = { p with offering := o } ∧ (p.on = false ∨ p.offering.isSome = true → o = p.offering)
      ∧ (p.on = true → p.offering = none → offersLowestB { p with offering := o }) := by
  refine ⟨_, PortB.choose_eq p, fun h => by rw [PortB.choose_stands h], fun on free => ?_⟩
  rw [← PortB.choose_eq]
  exact PortB.choose_lowest p on free

/-- A NOTICE place filled and the choice made: only these two change. -/
theorem PortA.filled_eq (p : PortA) :
    p.fillNotice.choose = { p with notice := p.fillNotice.notice, offering := p.fillNotice.choose.offering } := by
  refine (PortA.choose_eq _).trans ?_
  exact congrArg (fun q : PortA => { q with offering := p.fillNotice.choose.offering }) (PortA.fillNotice_eq p)

theorem PortA.filled_lowest {p : PortA} (on : p.on = true) (free : p.offering = none) :
    offersLowestA p.fillNotice.choose := by
  refine PortA.choose_lowest _ ?_ ?_
  · rw [PortA.fillNotice_eq]
    exact on
  · rw [PortA.fillNotice_eq]
    exact free

theorem PortA.filled_chosen {p : PortA} (on : p.on = true) (empty : p.notice = none) :
    noticeChosen p.fillNotice.choose :=
  (PortA.fillNotice_chosen p on empty).congr (by rw [PortA.choose_eq]) (by rw [PortA.choose_eq])

/-! ### A place after its transmission -/

theorem PortA.placeEnded_eq (o : OfferA) (ok : Bool) (p : PortA) :
    p.placeEnded o ok = { p with
      guidance := if o = .guidance then placeAfter ok p.guidance else p.guidance
      status := if o = .status then placeAfter ok p.status else p.status
      results := if o = .result ∧ ok = true then p.results.drop 1 else p.results
      notice := (p.placeEnded o ok).notice
      counts := (p.placeEnded o ok).counts } := by
  cases o with
  | guidance => simp [PortA.placeEnded, Place.ended_eq]
  | status => simp [PortA.placeEnded, Place.ended_eq]
  | result => cases ok <;> simp [PortA.placeEnded]
  | notice =>
    simp only [PortA.placeEnded, PortA.noticeEnded, reduceCtorEq, if_false, false_and]
    split <;> rfl

/-- A NOTICE that ends well leaves its place, and one from its kind's count. -/
theorem PortA.placeEnded_taken {p : PortA} {n : NoticeMsg} (h : p.notice = some n) :
    p.placeEnded .notice true = { p with notice := none, counts := noticeTaken p.counts n.kind } := by
  simp only [PortA.placeEnded, PortA.noticeEnded, h]

/-- Any other ending leaves the NOTICE place and the counts. -/
theorem PortA.placeEnded_kept {o : OfferA} {ok : Bool} {p : PortA} (h : o ≠ .notice ∨ ok = false ∨ p.notice = none) :
    (p.placeEnded o ok).notice = p.notice ∧ (p.placeEnded o ok).counts = p.counts := by
  cases o with
  | guidance => exact ⟨rfl, rfl⟩
  | status => exact ⟨rfl, rfl⟩
  | result => cases ok <;> exact ⟨rfl, rfl⟩
  | notice =>
    rcases h with h | rfl | h
    · exact absurd rfl h
    · simp only [PortA.placeEnded, PortA.noticeEnded]
      split <;> simp_all
    · simp only [PortA.placeEnded, PortA.noticeEnded, h, and_self]

theorem PortA.placeEnded_empty {o : OfferA} {ok : Bool} {p : PortA} (h : p.notice = none ∨ o = .notice ∧ ok = true) :
    (p.placeEnded o ok).notice = none := by
  rcases h with h | ⟨rfl, rfl⟩
  · rw [(PortA.placeEnded_kept (.inr (.inr h))).1, h]
  · cases hn : p.notice with
    | none => rw [(PortA.placeEnded_kept (.inr (.inr hn))).1, hn]
    | some n => rw [PortA.placeEnded_taken hn]

/-- Port A after an ending that leaves it on its bus, before it fills its NOTICE place and chooses. -/
def PortA.afterEnd (o : OfferA) (ok : Bool) (p : PortA) : PortA :=
  { p.placeEnded o ok with offering := none, errors := errorsAfter ok (p.placeEnded o ok).errors }

theorem goesBusOff_iff (ok : Bool) (n : Nat) : goesBusOff ok n = true ↔ ok = false ∧ 247 < n := by
  unfold goesBusOff
  cases ok <;> simp [Nat.lt_iff_add_one_le]

theorem State.endA_on {o : OfferA} {ok : Bool} {s : State} (ho : s.portA.offering = some o)
    (h : ok = true ∨ s.portA.errors ≤ 247) :
    s.endA ok = { s with portA := (s.portA.afterEnd o ok).fillNotice.choose } := by
  have stays : ¬goesBusOff ok s.portA.errors = true := by
    rw [goesBusOff_iff]
    rintro ⟨rfl, past⟩
    rcases h with h | h
    · cases h
    · omega
  simp only [State.endA, ho, if_neg stays]
  rfl

theorem State.endA_busOff {o : OfferA} {s : State} (ho : s.portA.offering = some o) (h : 247 < s.portA.errors) :
    s.endA false = State.report .busAOff 0 none { s with portA := s.portA.busOff } := by
  simp only [State.endA, ho, if_pos ((goesBusOff_iff _ _).mpr ⟨rfl, h⟩)]

theorem PortB.placeEnded_eq (o : OfferB) (ok : Bool) (p : PortB) :
    p.placeEnded o ok = { p with
      allotment := if o = .allotment then placeAfter ok p.allotment else p.allotment
      demand1 := if o = .demand1 then placeAfter ok p.demand1 else p.demand1
      demand2 := if o = .demand2 then placeAfter ok p.demand2 else p.demand2 } := by
  cases o <;> simp [PortB.placeEnded, Place.ended_eq]

theorem State.endB_on {o : OfferB} {ok : Bool} {s : State} (ho : s.portB.offering = some o)
    (h : ok = true ∨ s.portB.errors ≤ 247) :
    s.endB ok = { s with
      portB := PortB.choose { s.portB.placeEnded o ok with
        offering := none, errors := errorsAfter ok (s.portB.placeEnded o ok).errors } } := by
  have stays : ¬goesBusOff ok s.portB.errors = true := by
    rw [goesBusOff_iff]
    rintro ⟨rfl, past⟩
    rcases h with h | h
    · cases h
    · omega
  simp only [State.endB, ho, if_neg stays]

theorem State.endB_busOff {o : OfferB} {s : State} (ho : s.portB.offering = some o) (h : 247 < s.portB.errors) :
    s.endB false = State.report .busBOff 0 none { s with portB := s.portB.busOff } := by
  simp only [State.endB, ho, if_pos ((goesBusOff_iff _ _).mpr ⟨rfl, h⟩)]

theorem State.rejoinA_off {s : State} (h : s.portA.on = false) :
    s.rejoinA = State.reportClear .busAOff 0 none
      { s with portA := ({ s.portA with on := true, errors := 0 } : PortA).fillNotice.choose } :=
  if_neg (Bool.eq_false_iff.mp h)

theorem State.rejoinB_off {s : State} (h : s.portB.on = false) :
    s.rejoinB = State.reportClear .busBOff 0 none
      { s with portB := ({ s.portB with on := true, errors := 0 } : PortB).choose } :=
  if_neg (Bool.eq_false_iff.mp h)

/-! ### STATUS (R186) -/

theorem Item.wantsAttention_in {st : ItemState} (h : st ≠ .ok) (i : Item) :
    (i.wantsAttention && i.state == some st) = (i.state == some st && !i.acked) := by
  unfold Item.wantsAttention
  cases i.state with
  | none => rfl
  | some x =>
    cases st with
    | ok => exact absurd rfl h
    | dueSoon | due | overdue => cases x <;> cases i.acked <;> rfl

theorem Item.wantsAttention_eq (i : Item) :
    i.wantsAttention = (i.state == some .dueSoon && !i.acked || i.state == some .due && !i.acked
      || i.state == some .overdue && !i.acked) := by
  unfold Item.wantsAttention
  cases i.state with
  | none => rfl
  | some x => cases x <;> cases i.acked <;> rfl

theorem firstIn_eq {st : ItemState} (h : st ≠ .ok) (items : List Item) :
    firstIn st items = items.find? fun i => i.state == some st && !i.acked :=
  congrArg (fun f => items.find? f) (funext fun i => Item.wantsAttention_in h i)

theorem attentionLabel_eq (items : List Item) :
    attentionLabel items = ((firstIn .overdue items).or ((firstIn .due items).or (firstIn .dueSoon items))).map
      fun i => i.defn.label := by
  unfold attentionLabel
  cases firstIn .overdue items <;> cases firstIn .due items <;> cases firstIn .dueSoon items <;> rfl

/-! ### The bytes of port B's frames (R187) -/

theorem mul_bit (k : Nat) (b : Bool) : k * bit b = if b then k else 0 := by
  cases b <;> simp [bit]

theorem noticeRaised_other (l : List Nat) {j k : NoticeKind} (h : j ≠ k) :
    noticeCount (noticeRaised l k) j = noticeCount l j := by
  have hj := j.number_pos
  have hk := k.number_pos
  have hne : k.number - 1 ≠ j.number - 1 := fun e => h (NoticeKind.number_inj j k (by omega))
  simp [noticeCount, noticeRaised, List.getD, List.getElem?_set_ne hne]

/-- Settles O56: each port operation is an explicit change of places followed by the choice. -/
theorem portsTransmitAndFormStatus : Obligations.PortsTransmitAndFormStatus := by
  refine ⟨by decide, fun o a d => ?bytes, fun m p => ?guidance, fun f p => ?allotment, fun e f p => ?demand,
    fun k p hc => ?raised, fun o ok s on bus ho h => ?endA, fun o s on ho h => ?offA,
    fun s on bus ho hn => ?rejoinA, fun o ok s on bus ho h => ?endB, fun o s on ho h => ?offB,
    fun s on bus ho => ?rejoinB, fun s on => ?status⟩
  case bytes =>
    intro two plan
    have htwo : ∀ v, two v = ordered o (leBytes 2 v) := fun v => by cases o <;> rfl
    have hplan : plan = d.plan.code := by cases h : d.plan <;> simp only [plan, h, Plan.code]
    have hbit : ∀ b, bit b = if b then 1 else 0 := fun _ => rfl
    refine ⟨?_, ?_⟩
    · rw [allotmentFrame, mul_bit, hbit, htwo, htwo]
      rfl
    · rw [engineDemandFrame, mul_bit, mul_bit, hbit, htwo, hplan]
      cases d.engine <;> rfl
  case guidance =>
    obtain ⟨o, frame, stands, lowest⟩ := PortA.choose_spec { p with
      guidance := if p.offering = some .guidance then { p.guidance with replacement := some m }
        else { waiting := some m, replacement := none } }
    exact ⟨_, (PortA.handGuidance_eq m p).trans frame, rfl, rfl, stands, lowest⟩
  case allotment =>
    obtain ⟨o, frame, stands, lowest⟩ := PortB.choose_spec { p with
      allotment := if p.offering = some .allotment then { p.allotment with replacement := some f }
        else { waiting := some f, replacement := none } }
    exact ⟨_, (PortB.handAllotment_eq f p).trans frame, rfl, rfl, stands, lowest⟩
  case demand =>
    cases e with
    | e1 =>
      obtain ⟨o, frame, stands, lowest⟩ := PortB.choose_spec { p with
        demand1 := if p.offering = some .demand1 then { p.demand1 with replacement := some f }
          else { waiting := some f, replacement := none } }
      exact ⟨_, (PortB.handDemand_e1 f p).trans frame, rfl, fun _ => ⟨rfl, rfl⟩, nofun, stands, lowest⟩
    | e2 =>
      obtain ⟨o, frame, stands, lowest⟩ := PortB.choose_spec { p with
        demand2 := if p.offering = some .demand2 then { p.demand2 with replacement := some f }
          else { waiting := some f, replacement := none } }
      exact ⟨_, (PortB.handDemand_e2 f p).trans frame, rfl, nofun, fun _ => ⟨rfl, rfl⟩, stands, lowest⟩
  case raised =>
    obtain ⟨waits, offers, off⟩ := PortA.raised_keeps k p
    have counts := PortA.raised_counts k p
    refine ⟨_, rfl, ?_, counts, ?_, fun j hj => ?_, off, waits, PortA.raised_chosen k p, offers,
      PortA.raised_lowest k p⟩
    · rw [counts]
      exact PortA.raised_eq k p
    · rw [counts]
      exact noticeRaised_count p.counts k hc.1
    · rw [counts]
      exact noticeRaised_other p.counts hj
  case endA =>
    obtain ⟨q, hq⟩ : ∃ q, s.portA.afterEnd o ok = q := ⟨_, rfl⟩
    have after : q = { s.portA with
        offering := none, errors := errorsAfter ok s.portA.errors
        guidance := if o = .guidance then placeAfter ok s.portA.guidance else s.portA.guidance
        status := if o = .status then placeAfter ok s.portA.status else s.portA.status
        results := if o = .result ∧ ok = true then s.portA.results.drop 1 else s.portA.results
        notice := (s.portA.placeEnded o ok).notice
        counts := (s.portA.placeEnded o ok).counts } :=
      hq.symm.trans (congrArg (fun p : PortA => { p with offering := none, errors := errorsAfter ok p.errors })
        (PortA.placeEnded_eq o ok s.portA))
    have hcounts : q.counts = (s.portA.placeEnded o ok).counts := by rw [after]
    have hnotice : q.notice = (s.portA.placeEnded o ok).notice := by rw [after]
    have hon : q.on = true := by rw [after]; exact bus
    have free : q.offering = none := by rw [after]
    refine ⟨q.fillNotice.choose, next_of_on on ((State.endA_on ho h).trans (by rw [hq])), ?_⟩
    have lowest := PortA.filled_lowest hon free
    have chosen := PortA.filled_chosen hon
    have stands := fun n => PortA.fillNotice_stands (p := q) (n := n)
    rw [PortA.filled_eq q] at lowest chosen ⊢
    refine ⟨hon, by rw [after], by rw [after], by rw [after], by rw [after]; rfl, by rw [after], by rw [after],
      by rw [after], fun n hn he hok => ?_, fun hk => ?_, fun n hn hk => ?_, fun hk => ?_, lowest⟩
    · subst he hok
      exact hcounts.trans (congrArg PortA.counts (PortA.placeEnded_taken hn))
    · exact hcounts.trans (PortA.placeEnded_kept hk).2
    · have kept : q.notice = some n := by
        rw [hnotice, (PortA.placeEnded_kept (hk.elim .inl fun e => .inr (.inl e))).1, hn]
      exact (congrArg PortA.notice (stands n kept)).trans kept
    · exact chosen (hnotice.trans (PortA.placeEnded_empty hk))
  case offA => exact next_of_on on (State.endA_busOff ho h)
  case rejoinA =>
    obtain ⟨q, hq⟩ : ∃ q : PortA, q = { s.portA with on := true, errors := 0 } := ⟨_, rfl⟩
    have hon : q.on = true := by rw [hq]
    have free : q.offering = none := by rw [hq]; exact ho
    have empty : q.notice = none := by rw [hq]; exact hn
    refine ⟨q.fillNotice.choose, next_of_on on ((State.rejoinA_off bus).trans (by rw [hq]; rfl)), ?_,
      PortA.filled_chosen hon empty, PortA.filled_lowest hon free⟩
    have frame := PortA.filled_eq q
    have same : q.fillNotice.notice = q.fillNotice.choose.notice := (congrArg PortA.notice frame :).symm
    rw [same] at frame
    refine frame.trans ?_
    rw [hq]
  case endB =>
    obtain ⟨q, hq⟩ : ∃ q : PortB, q = { s.portB with
        offering := none, errors := errorsAfter ok s.portB.errors
        allotment := if o = .allotment then placeAfter ok s.portB.allotment else s.portB.allotment
        demand1 := if o = .demand1 then placeAfter ok s.portB.demand1 else s.portB.demand1
        demand2 := if o = .demand2 then placeAfter ok s.portB.demand2 else s.portB.demand2 } := ⟨_, rfl⟩
    have ended : ({ s.portB.placeEnded o ok with
        offering := none, errors := errorsAfter ok (s.portB.placeEnded o ok).errors } : PortB) = q :=
      (congrArg (fun p : PortB => { p with offering := none, errors := errorsAfter ok p.errors })
        (PortB.placeEnded_eq o ok s.portB)).trans hq.symm
    have hon : q.on = true := by rw [hq]; exact bus
    have free : q.offering = none := by rw [hq]
    obtain ⟨o', frame, -, lowest⟩ := PortB.choose_spec q
    refine ⟨{ q with offering := o' }, next_of_on on ((State.endB_on ho h).trans (by rw [ended, frame])), hon, ?_⟩
    exact ⟨by rw [hq], by rw [hq], by rw [hq], by rw [hq]; rfl, by rw [hq], by rw [hq], by rw [hq], lowest hon free⟩
  case offB => exact next_of_on on (State.endB_busOff ho h)
  case rejoinB =>
    obtain ⟨o, frame, -, lowest⟩ := PortB.choose_spec { s.portB with on := true, errors := 0 }
    exact ⟨_, next_of_on on ((State.rejoinB_off bus).trans (by rw [frame]; rfl)), rfl, lowest rfl ho⟩
  case status =>
    intro count asks
    obtain ⟨o, frame, stands, lowest⟩ := PortA.choose_spec { s.portA with
      status := if s.portA.offering = some .status then { s.portA.status with replacement := some s.statusMsg }
        else { waiting := some s.statusMsg, replacement := none } }
    refine ⟨_, s.statusMsg, next_of_on on (congrArg (fun q => { s with portA := q })
      ((PortA.handStatus_eq s.statusMsg s.portA).trans frame)), rfl, rfl, stands, lowest, rfl, rfl, rfl, rfl, rfl, rfl,
      rfl, rfl, rfl, rfl, rfl, rfl, rfl, ?_, ?_, rfl⟩
    · exact congrArg (fun f => s.smu.items.countP f) (funext Item.wantsAttention_eq)
    · refine (attentionLabel_eq _).trans ?_
      rw [firstIn_eq (by decide), firstIn_eq (by decide), firstIn_eq (by decide)]

end Sys2Proof.Machine
end

/-! ## Request blocks, answer reads and RESTART (O57, O58) -/

section
namespace Sys2Proof.Machine

open Sys2Proof

/-! ### The run of a block (R189, R190, R193) -/

theorem natAt_one (a : Byte) (l : List Byte) : natAt (a :: l) 0 1 = a.toNat := by
  simp [natAt, bytesAt, ofLe]

theorem natAt_two (a b : Byte) (l : List Byte) : natAt (a :: b :: l) 0 2 = a.toNat + 256 * b.toNat := by
  simp [natAt, bytesAt, ofLe]

theorem natAt_succ (a : Byte) (l : List Byte) (pos k : Nat) : natAt (a :: l) (pos + 1) k = natAt l pos k := rfl

theorem natAt_four (a b c d : Byte) (l : List Byte) :
    natAt (a :: b :: c :: d :: l) 0 4 = a.toNat + 256 * b.toNat + 65536 * c.toNat + 16777216 * d.toNat := by
  simp only [natAt, bytesAt, List.drop_zero, List.take_succ_cons, List.take_zero, ofLe]
  omega

/-- The run of a block, from its tag, its operation byte and its operands. -/
theorem requestRun_eq (m : Bool) (tag op : Byte) (x : List Byte) :
    requestRun m (tag :: op :: x) =
      if 62 < x.length then .unknownOperation
      else if 10 < op.toNat then .unknownOperation
      else if maintainerOp op.toNat && !m then .levelRefusal
      else if !operandsFit op.toNat x.length then .unknownOperation
      else operationRun op.toNat x := by
  have hop : natAt (tag :: op :: x) 1 1 = op.toNat := natAt_one op x
  have hlen : 64 < (tag :: op :: x).length ↔ 62 < x.length := by
    simp only [List.length_cons]
    omega
  unfold requestRun
  rw [hop]
  exact if_congr hlen rfl rfl

theorem maintainerOp_iff (op : Nat) : maintainerOp op = true ↔ 2 ≤ op ∧ op ≤ 9 := by
  simp [maintainerOp]

theorem requestRun_unknown {op : Byte} {x : List Byte} (h : 62 < x.length ∨ 10 < op.toNat) (m : Bool) (tag : Byte) :
    requestRun m (tag :: op :: x) = .unknownOperation := by
  rw [requestRun_eq]
  by_cases hx : 62 < x.length
  · exact if_pos hx
  · rw [if_neg hx, if_pos (h.resolve_left hx)]

theorem requestRun_level {op : Byte} {x : List Byte} (hx : x.length ≤ 62) (h2 : 2 ≤ op.toNat) (h9 : op.toNat ≤ 9)
    (tag : Byte) : requestRun false (tag :: op :: x) = .levelRefusal := by
  have hm : (maintainerOp op.toNat && !false) = true := by
    rw [Bool.and_eq_true]
    exact ⟨(maintainerOp_iff _).mpr ⟨h2, h9⟩, rfl⟩
  rw [requestRun_eq, if_neg (by omega), if_neg (by omega), if_pos hm]

/-- A block that passes length, code and level is judged by its operands alone. -/
theorem requestRun_passed {m : Bool} {op : Byte} {x : List Byte} (hx : x.length ≤ 62) (hop : op.toNat ≤ 10)
    (hl : op.toNat < 2 ∨ op.toNat = 10 ∨ m = true) (tag : Byte) :
    requestRun m (tag :: op :: x) =
      if operandsFit op.toNat x.length then operationRun op.toNat x else .unknownOperation := by
  have hm : ¬(maintainerOp op.toNat && !m) = true := by
    rw [Bool.and_eq_true, maintainerOp_iff]
    rintro ⟨⟨h2, h9⟩, hn⟩
    rcases hl with h | h | rfl
    · omega
    · omega
    · cases hn
  rw [requestRun_eq, if_neg (by omega), if_neg (by omega), if_neg hm]
  cases operandsFit op.toNat x.length <;> rfl

theorem operandless {x : List Byte} {c : Instr} :
    (if (x.length == 0) = true then c else .unknownOperation) = if x = [] then c else .unknownOperation := by
  cases x <;> simp

/-- What an operation whose operands must number `n` begins for any other number of them. -/
theorem misfit {n : Nat} {x : List Byte} {c : Instr} (h : x.length ≠ n) :
    (if (x.length == n) = true then c else .unknownOperation) = .unknownOperation :=
  if_neg (by simpa using h)

/-! ### Blocks and reads (R189) -/

theorem State.blockArrived_empty {s : State} {c : Bool} (h : s.sli.buffer = .empty c) (tag op : Byte) (x : List Byte) :
    s.blockArrived (tag :: op :: x) = State.deliver (requestRun s.lines.maint (tag :: op :: x))
      { s with sli := { s.sli with
        buffer := .pending tag false 0
        request := some { block := tag :: op :: x, maintainer := s.lines.maint } } } := by
  have long : ¬(tag :: op :: x).length < 2 := by simp only [List.length_cons]; omega
  simp only [State.blockArrived, if_neg long, h]
  rfl

theorem State.blockArrived_busy {s : State} (h : ∀ c, s.sli.buffer ≠ .empty c) (tag op : Byte) (x : List Byte) :
    s.blockArrived (tag :: op :: x) = { s with sli := { s.sli with buffer := s.sli.buffer.refuse tag } } := by
  have long : ¬(tag :: op :: x).length < 2 := by simp only [List.length_cons]; omega
  simp only [State.blockArrived, if_neg long]
  cases hb : s.sli.buffer with
  | empty c => exact absurd hb (h c)
  | pending t b k => rfl
  | ready a => rfl

/-- The first five bytes of an answer as it is clocked out. -/
theorem Answer.bytes_head (a : Answer) : a.bytes[0]? = some a.tag ∧ a.bytes[1]? = some (BitVec.ofNat 8 a.result.number)
    ∧ a.bytes[3]? = some (BitVec.ofNat 8 (bit a.busy)) ∧ a.bytes[4]? = some a.busyTag :=
  ⟨rfl, rfl, rfl, rfl⟩

theorem byte_bit (b : Bool) : BitVec.ofNat 8 (bit b) = if b then 1 else 0 := by
  cases b <;> rfl

theorem byte_mod (n : Nat) : BitVec.ofNat 8 (n % 256) = BitVec.ofNat 8 n :=
  BitVec.eq_of_toNat_eq (by simp)

/-- The block of a read with no answer to give. -/
theorem State.answerRead_open {s : State} {tag busyTag : Byte} {result : ResultCode} {busy : Bool}
    (h : ∀ a, s.sli.buffer ≠ .ready a) (hread : s.readBlock = s.openAnswer tag result busy busyTag) :
    ∃ n l, s.answerRead = { s with freeCount := n, sli := { s.sli with lastRead := some l } }
      ∧ l.length = 8 ∧ l[0]? = some tag ∧ l[1]? = some (BitVec.ofNat 8 result.number)
      ∧ l[3]? = some (if busy then 1 else 0) ∧ l[4]? = some busyTag := by
  obtain ⟨h0, h1, h3, h4⟩ := (s.openAnswer tag result busy busyTag).bytes_head
  refine ⟨_, _, State.answerRead_other s h, ?_⟩
  rw [hread]
  exact ⟨Answer.bytes_length _, h0, h1, h3.trans (congrArg some (byte_bit busy)), h4⟩

theorem State.answerRead_given {s : State} {a : Answer} (h : s.sli.buffer = .ready a) :
    s.answerRead = { s with
      sli := { s.sli with
        buffer := .empty false, lastTag := a.tag
        lastRead := some ([a.tag, BitVec.ofNat 8 a.result.number, a.residue, if a.busy then 1 else 0, a.busyTag,
          BitVec.ofNat 8 (a.detail.toNat % 256), BitVec.ofNat 8 (a.detail.toNat / 256), a.returned] ++ a.data) } } := by
  rw [State.answerRead_ready s a h, byte_mod, ← byte_bit]
  rfl

theorem State.readBlock_empty {s : State} {c : Bool} (h : s.sli.buffer = .empty c) :
    ∃ busy busyTag, s.readBlock = s.openAnswer s.sli.lastTag .noRequest busy busyTag
      ∧ (c = true → busy = false ∧ busyTag = 0) := by
  cases c with
  | true => exact ⟨false, 0, by simp only [State.readBlock, h], fun _ => ⟨rfl, rfl⟩⟩
  | false => exact ⟨_, _, by simp only [State.readBlock, h]; rfl, nofun⟩

/-- Settles O57: the run of a block is `requestRun`, cut by its checks; a read gives the block of its buffer. -/
theorem requestBlocksAndAnswerReads : Obligations.RequestBlocksAndAnswerReads := by
  refine ⟨fun b s on h => next_of_on on (if_pos h), fun tag op x c s on hb => ?block,
    fun tag op x s c on hc => ?busy, fun a s on hb => ?given, fun tag bt busy s on hb => ?pending,
    fun c s on hb => ?empty⟩
  case block =>
    refine ⟨requestRun s.lines.maint (tag :: op :: x), next_of_on on (State.blockArrived_empty hb tag op x),
      fun h => requestRun_unknown h _ _, fun hx h2 h9 hm => ?_, fun hx hl => ?_⟩
    · rw [hm]
      exact requestRun_level hx h2 h9 tag
    · have passed := fun h => requestRun_passed (op := op) hx h hl tag
      refine ⟨?_, ?_, ?_, ?_, ?_, ?_, ?_, ?_, ?_, ?_, ?_⟩ <;> rintro rfl <;> rw [passed (by decide)]
      · refine ⟨?_, misfit⟩
        rintro a b c rfl
        exact (if_pos rfl).trans (congrArg₂ Instr.selectTable (natAt_one ..) (natAt_two ..))
      · refine ⟨?_, misfit⟩
        rintro a rfl
        exact (if_pos rfl).trans (congrArg Instr.readEntries (natAt_one ..))
      · refine ⟨?_, ?_⟩
        · rintro a d rfl
          exact (if_pos rfl).trans (congrArg (Instr.writeEntries · d) (natAt_one ..))
        · rintro rfl
          rfl
      · refine ⟨?_, misfit⟩
        rintro a rfl
        exact (if_pos rfl).trans (congrArg Instr.itemDone (natAt_one ..))
      · refine ⟨?_, misfit⟩
        rintro k a b c d rfl
        exact (if_pos rfl).trans (congrArg₂ Instr.meterPreset (natAt_one ..) (natAt_four ..))
      · refine ⟨?_, misfit⟩
        rintro i a b rfl
        exact (if_pos rfl).trans (congrArg₂ Instr.suspendZone (natAt_one ..) (natAt_two ..))
      · exact operandless
      · refine ⟨?_, misfit⟩
        rintro a rfl
        exact (if_pos rfl).trans (congrArg Instr.clearFailed (natAt_one ..))
      · exact operandless
      · exact operandless
      · exact operandless
  case busy =>
    have arrived : exec c s = onEvent (State.blockArrived (tag :: op :: x)) s := by rcases hc with rfl | rfl <;> rfl
    have refused : ∀ (b : AnswerBuffer), s.sli.buffer = b → (∀ c, b ≠ .empty c) →
        exec c s = .next { s with sli := { s.sli with buffer := b.refuse tag } } := by
      intro b hb hne
      subst hb
      exact arrived.trans (next_of_on on (State.blockArrived_busy hne tag op x))
    exact ⟨fun a ha => refused _ ha nofun, fun held busy bt hp => refused _ hp nofun⟩
  case given =>
    refine next_of_on on ((State.answerRead_given hb).trans ?_)
    cases a.result <;> rfl
  case pending =>
    obtain ⟨n, l, hread, rest⟩ := State.answerRead_open (s := s) (by rw [hb]; exact nofun)
      (show s.readBlock = s.openAnswer tag .notReady busy bt by simp only [State.readBlock, hb])
    exact ⟨n, l, next_of_on on hread, rest⟩
  case empty =>
    obtain ⟨busy, bt, hblock, hclear⟩ := State.readBlock_empty hb
    obtain ⟨n, l, hread, hlen, h0, h1, h3, h4⟩ := State.answerRead_open (s := s) (by rw [hb]; exact nofun) hblock
    refine ⟨n, l, next_of_on on hread, hlen, h0, h1, fun hc => ?_⟩
    obtain ⟨rfl, rfl⟩ := hclear hc
    exact ⟨h3, h4⟩

/-! ### RESTART (R173, R193) -/

/-- Settles O58. -/
theorem levelRefusalsAndRestart : Obligations.LevelRefusalsAndRestart := by
  refine fun s on => ⟨fun h => next_of_on on rfl, next_of_on on rfl, next_of_on on rfl, ?_⟩
  obtain ⟨u, hu⟩ : ∃ u : State, u = State.answerPlain .accepted
      { s.taken .restart with nvc := { s.nvc with restartPending := true } } := ⟨_, rfl⟩
  have frame : u = { s.taken .restart with
      nvc := { s.nvc with restartPending := true }, sli := u.sli, freeCount := u.freeCount } :=
    hu.trans ((State.answerLink_frame ..).trans (by rw [hu]; rfl))
  have hnvc : u.nvc = { s.nvc with restartPending := true } := (congrArg State.nvc frame :)
  obtain ⟨t, ht⟩ : ∃ t, u.settle = t := ⟨_, rfl⟩
  have hall : t = { s with
      sli := u.sli, nvc := t.nvc, inFlight := t.inFlight, freeCount := u.freeCount } := by
    have settled : t = { u with nvc := t.nvc, inFlight := t.inFlight } := by
      obtain ⟨write, power, flight, h⟩ := u.settle_exists
      rw [ht] at h
      rw [(congrArg State.nvc h :), (congrArg State.inFlight h :)]
      exact h
    exact settled.trans (congrArg (fun v : State => { v with nvc := t.nvc, inFlight := t.inFlight }) frame)
  have hsli : t.sli = u.sli := (congrArg State.sli hall :)
  have hfree : t.freeCount = u.freeCount := (congrArg State.freeCount hall :)
  refine ⟨t, next_of_on on (by rw [← ht, hu]; rfl), ?_, ?_, ?_, fun hq hw => ?_, fun tag busy bt hb => ?_⟩
  · rw [← ht, State.settle_frame, hnvc]
  · rw [← ht, State.settle_queue, hnvc]
  · rw [hsli, hfree]
    exact hall
  · have queue : u.nvc.queue = [] := (congrArg Nvc.queue hnvc).trans hq
    rw [← ht]
    refine State.settle_restart u (by rw [hnvc]) queue ?_
    have write : u.nvc.write = none := (congrArg Nvc.write hnvc).trans hw
    rw [State.beginWrite_idle u write, queue]
    rfl
  · obtain ⟨a, hready, htag, -, -, hres⟩ := State.answerPlain_pending (r := .accepted)
      (s := { s.taken .restart with nvc := { s.nvc with restartPending := true } }) hb
    exact ⟨a, by rw [hsli, hu, hready], htag, hres⟩

end Sys2Proof.Machine
end

/-! ## COMMIT_CONFIG and TAKE_NOTICE (O60) -/

section
namespace Sys2Proof.Machine

open Sys2Proof

/-- Settling changes the store controller and what is in flight alone. -/
theorem State.settle_within (u : State) :
    u.settle = { u with nvc := u.settle.nvc, inFlight := u.settle.inFlight } := by
  obtain ⟨write, power, flight, h⟩ := u.settle_exists
  rw [(congrArg State.nvc h :), (congrArg State.inFlight h :)]
  exact h

theorem State.settle_sli (u : State) : u.settle.sli = u.sli := (congrArg State.sli u.settle_within :)

theorem State.settle_freeCount (u : State) : u.settle.freeCount = u.freeCount :=
  (congrArg State.freeCount u.settle_within :)

theorem State.settle_image (u : State) : u.settle.nvc.image = u.nvc.image := by rw [State.settle_frame]

/-- An answer to the request that is pending: its tag and what the run gives, in the buffer. -/
theorem State.answerLink_ready {s : State} {tag bt : Byte} {busy : Bool} (h : s.sli.buffer = .pending tag busy bt)
    (r : ResultCode) (res : Option Byte) (d : Option (BitVec 16)) (k : Byte) (data : List Byte) :
    ∃ a, s.answerLink r res d k data = { s with
        freeCount := s.freeCount + 1, sli := { s.sli with request := none, buffer := .ready a } }
      ∧ a.tag = tag ∧ a.result = r ∧ (∀ x, res = some x → a.residue = x) ∧ (∀ x, d = some x → a.detail = x)
      ∧ a.returned = k ∧ a.data = data := by
  refine ⟨_, State.answerLink_pending r res d k data s tag bt busy h, rfl, rfl, ?_, ?_, rfl, rfl⟩
  · rintro x rfl
    rfl
  · rintro x rfl
    rfl

theorem firstFailingField_lt {l : List Int} {k : Nat} (h : firstFailingField l = some k) : k < 65536 := by
  have hk := List.mem_of_find?_eq_some h
  simp only [List.mem_map, List.mem_range] at hk
  omega

theorem Nvc.not_queued {r : RecordId} {n : Nvc} (h : n.takes r = false) : n.queued r = false := by
  unfold Nvc.takes at h
  exact (Bool.or_eq_false_iff.mp h).1

/-- A request that is taken has its entry, and one that is refused leaves a queue without one. -/
theorem Nvc.requested_queued_eq {n : Nvc} (h : writeOk n) (r : RecordId) (head service : Bool) :
    (n.requested r head service).queued r = n.takes r := by
  cases ht : n.takes r with
  | true => exact Nvc.requested_queued r head service n ht h.queued
  | false => rw [Nvc.requested_refused r head service n ht, Nvc.not_queued ht]

theorem Nvc.requested_image (r : RecordId) (head service : Bool) (n : Nvc) :
    (n.requested r head service).image = n.image := by
  rw [Nvc.requested_frame]

theorem State.commit_refused {s : State} {k : Nat} (h : firstFailingField s.sli.config = some k) :
    s.commit = s.answerDetail .refusedRange k := by
  simp only [State.commit, h]

theorem State.commit_passed {s : State} (h : firstFailingField s.sli.config = none) :
    s.commit = State.answerPlain (storedResult .config s)
      { s with nvc := { s.nvc with image := some s.sli.config }.requested .config false true } := by
  simp only [State.commit, h]
  rfl

theorem State.takeNotice_top {s : State} {k : NoticeKind} (h : topNotice s.sli.counts = some k) :
    s.takeNotice = State.answerLink .accepted (some (BitVec.ofNat 8 (noticeCount s.sli.counts k)))
      (some (BitVec.ofNat 16 k.number)) 0 [] { s with sli := { s.sli with counts := noticeTaken s.sli.counts k } } := by
  simp only [State.takeNotice, h]

theorem State.takeNotice_none {s : State} (h : s.attention = false) :
    s.takeNotice = s.answerLink .accepted (some 0) (some 0) 0 [] := by
  have top : topNotice s.sli.counts = none := by
    refine List.find?_eq_none.mpr fun k _ => ?_
    have zero := List.any_eq_false.mp h
    simp only [decide_eq_true_eq, Nat.not_lt, Nat.le_zero] at zero ⊢
    unfold noticeCount
    cases hk : s.sli.counts[k.number - 1]? with
    | none => simp [List.getD, hk]
    | some n => simpa [List.getD, hk] using zero n (List.mem_of_getElem? hk)
  simp only [State.takeNotice, top]

/-- Settles O60. -/
theorem commitAndTakeNotice : Obligations.CommitAndTakeNotice := by
  refine fun s tag bt busy on stores hb => ⟨fun k hk => ?refused, fun hnone => ?passed, fun k hk hc => ?top,
    fun hn hc => ?none⟩
  case refused =>
    obtain ⟨a, hanswer, -, hresult, -, hdetail, -⟩ := State.answerLink_ready (s := s.taken .commitConfig) hb
      .refusedRange none (some (BitVec.ofInt 16 k)) 0 []
    obtain ⟨u, hu⟩ : ∃ u, (s.taken .commitConfig).commit = u := ⟨_, rfl⟩
    have hall := hu.symm.trans ((State.commit_refused (s := s.taken .commitConfig) hk).trans hanswer)
    refine ⟨u.settle, a, next_of_on on (congrArg State.settle hu), ?_, hresult, ?_, ?_, ?_⟩
    · rw [State.settle_sli, hall]
    · rw [hdetail _ rfl, BitVec.ofInt_natCast, BitVec.toNat_ofNat]
      exact Nat.mod_eq_of_lt (firstFailingField_lt hk)
    · rw [State.settle_image, hall]
      rfl
    · rw [State.settle_queue, hall]
      rfl
  case passed =>
    obtain ⟨n, hn⟩ : ∃ n, { s.nvc with image := some s.sli.config }.requested .config false true = n := ⟨_, rfl⟩
    obtain ⟨a, hanswer, -, hresult, -⟩ := State.answerLink_ready (s := { s.taken .commitConfig with nvc := n }) hb
      (storedResult .config s) none none 0 []
    obtain ⟨u, hu⟩ : ∃ u, (s.taken .commitConfig).commit = u := ⟨_, rfl⟩
    have hall := hu.symm.trans ((State.commit_passed (s := s.taken .commitConfig) hnone).trans
      ((congrArg (fun n => State.answerPlain (storedResult .config s) { s.taken .commitConfig with nvc := n }) hn).trans
        hanswer))
    obtain ⟨t, ht⟩ : ∃ t, u.settle = t := ⟨_, rfl⟩
    have queue : t.nvc.queue = n.queue := by
      rw [← ht, State.settle_queue, hall]
    have writes : writeOk { s.nvc with image := some s.sli.config } := stores.2
    refine ⟨t, a, next_of_on on ((congrArg State.settle hu).trans ht), ?_, ?_, ?_, hresult, ?_, fun htakes => ?_⟩
    · rw [← ht, State.settle_sli, hall]
    · rw [← ht, State.settle_image, hall]
      exact (congrArg Nvc.image hn.symm).trans (Nvc.requested_image ..)
    · have within := ht ▸ u.settle_within
      have hsli : t.sli = u.sli := (congrArg State.sli within :)
      have hfree : t.freeCount = u.freeCount := (congrArg State.freeCount within :)
      rw [hsli, hfree]
      refine within.trans ?_
      rw [hall]
      rfl
    · rw [Nvc.queued_congr queue, ← hn]
      exact Nvc.requested_queued_eq writes .config false true
    · rw [queue, ← hn]
      exact Nvc.requested_service false htakes writes.queued
  case top =>
    obtain ⟨pos, top⟩ := topNotice_some _ _ hk
    have le := noticeCount_le s.sli.counts k hc.2
    have number := k.number_le
    obtain ⟨a, hanswer, -, hresult, hres, hdetail, -⟩ := State.answerLink_ready
      (s := { s.taken .takeNotice with sli := { s.sli with counts := noticeTaken s.sli.counts k } }) hb
      .accepted (some (BitVec.ofNat 8 (noticeCount s.sli.counts k))) (some (BitVec.ofNat 16 k.number)) 0 []
    refine ⟨_, a, next_of_on on ((State.takeNotice_top (s := s.taken .takeNotice) hk).trans hanswer), rfl, hresult, ?_,
      ?_, rfl, ?_, fun j hj => ⟨noticeTaken_other s.sli.counts j k hj, top j⟩⟩
    · rw [hdetail _ rfl]
      exact Nat.mod_eq_of_lt (by omega)
    · rw [hres _ rfl]
      exact Nat.mod_eq_of_lt (by omega)
    · have taken := noticeTaken_count s.sli.counts k hc.1
      refine (congrArg (· + 1) taken).trans ?_
      omega
  case none =>
    obtain ⟨a, hanswer, -, hresult, hres, hdetail, -⟩ := State.answerLink_ready (s := s.taken .takeNotice) hb
      .accepted (some 0) (some 0) 0 []
    exact ⟨_, a, next_of_on on ((State.takeNotice_none (s := s.taken .takeNotice) hn).trans hanswer), rfl, hresult,
      hdetail _ rfl, hres _ rfl, rfl⟩

end Sys2Proof.Machine
end

/-! ## The sensor ring (O17, O18) -/

section
namespace Sys2Proof.Machine

open Sys2Proof

/-! ### The frame timer and the transfers before the last (R1, R2, R5) -/

theorem State.frameTimer_idle {s : State} (h : s.spu.poll = none) :
    s.frameTimer = { s with
      spu := { s.spu with poll := some s.settings.spu.usedSlots, periods := 1, replies := [] } } := by
  simp only [State.frameTimer, h]
  rfl

theorem State.frameTimer_polling {s : State} {l : List Nat} (h : s.spu.poll = some l) :
    s.frameTimer = { s with
      spu := { s.spu with periods := min 255 (s.spu.periods + 1), overrun := true }
      inFlight := s.inFlight ++ if s.spu.overrun then []
        else [.faultReport
          { code := .frameOverrun, clearing := false, detail := 0, frame := some (s.spu.counter + 1) }] } := by
  have skipped : s.frameTimer = if s.spu.overrun then { s with spu := s.spu.skipStart }
      else ({ s with spu := s.spu.skipStart } : State).report .frameOverrun 0 (some (s.spu.counter + 1)) := by
    simp only [State.frameTimer, h]
  refine skipped.trans ?_
  cases s.spu.overrun with
  | true => exact congrArg (fun q => { s with spu := s.spu.skipStart, inFlight := q }) (List.append_nil _).symm
  | false => rfl

theorem State.transferDone_one {s : State} {k : Nat} {rest : List Nat} {c : SlotCfg} (h : s.spu.poll = some (k :: rest))
    (hc : s.settings.spu.slots[k]? = some c) (bits : List Bool) :
    s.transferDone bits =
      let t := { s with spu := { s.spu with poll := some rest, replies := s.spu.replies ++ [(k, c.assemble bits)] } }
      if rest.isEmpty then t.closePoll else t := by
  simp only [State.transferDone, h, hc]

/-- Settles O17. -/
theorem pollsStartAndKeepTheirReplies : Obligations.PollsStartAndKeepTheirReplies :=
  ⟨fun _ on h => next_of_on on (State.frameTimer_idle h),
    fun _ _ on h => next_of_on on (State.frameTimer_polling h),
    fun _ _ _ _ _ bits on h hc => next_of_on on (State.transferDone_one h hc bits)⟩

/-! ### What a close reports (R10, R15, R16) -/

theorem State.reportFlag_send (code : FaultCode) (detail : Nat) (frame : FrameNo) (before after : Bool) (s : State) :
    s.reportFlag code detail frame before after = s.send (flagReports code detail frame before after) := by
  cases before <;> cases after <;> simp [State.reportFlag, flagReports, State.send, State.report, State.reportClear,
    State.deliver]

/-- The reports of one slot whose flags went from `x.1.1` to `x.1.2`, under its number `x.2`. -/
def slotReports (frame : FrameNo) (x : (SlotRun × SlotRun) × Nat) : List Instr :=
  flagReports .sensorMissing x.2 frame x.1.1.missing x.1.2.missing
    ++ flagReports .sensorRange x.2 frame x.1.1.range x.1.2.range

theorem State.reportSlots_send (frame : FrameNo) (before after : List SlotRun) (s : State) :
    s.reportSlots frame before after = s.send ((List.zip before after).zipIdx.flatMap (slotReports frame)) := by
  refine foldl_delivers (fun s x => ?_) _ s
  unfold State.reportSlot
  rewrite [State.reportFlag_send, State.reportFlag_send]
  simp only [State.send, slotReports, List.append_assoc]

theorem State.closePoll_eq (s : State) :
    s.closePoll = { s with
      spu := s.spu.closed s.settings.spu
      inFlight := s.inFlight
        ++ (List.zip s.spu.slots (s.spu.closed s.settings.spu).slots).zipIdx.flatMap
            (slotReports (s.spu.closed s.settings.spu).counter)
        ++ flagReports .sensorDisagree ((s.settings.spu.slotOfRole .boomCheck).getD 0)
            (s.spu.closed s.settings.spu).counter s.spu.disagree (s.spu.closed s.settings.spu).disagree
        ++ [.geuPoseFrame (poseFrameOf s.settings.spu (s.spu.closed s.settings.spu).slots
            (s.spu.closed s.settings.spu).counter s.spu.periods)] } := by
  simp only [State.closePoll, State.reportDisagree]
  rewrite [State.reportSlots_send, State.reportFlag_send]
  rfl

/-! ### The slots after a close (R5, R8, R9) -/

theorem Spu.closedSlots_get {c : SpuCfg} {p : Spu} {i : Nat} {ci : SlotCfg} {r : SlotRun} (hc : c.slots[i]? = some ci)
    (hr : p.slots[i]? = some r) :
    (p.closedSlots c)[i]? = some (if ci.role = .unused then r else r.closed c.holdFrames ci (p.reply ci i)) := by
  have hzip : (List.zip c.slots p.slots)[i]? = some (ci, r) := List.getElem?_zip_eq_some.mpr ⟨hc, hr⟩
  simp only [Spu.closedSlots, List.getElem?_map, List.getElem?_zipIdx, hzip, Option.map_some, Nat.zero_add]

theorem Spu.reply_found {c : SlotCfg} {p : Spu} {i : Nat} {w : BitVec 32}
    (h : p.replies.find? (fun x => x.1 == i) = some (i, w)) : p.reply c i = w := by
  simp only [Spu.reply, h]

/-! ### The readings of the pose frame (R10 to R14) -/

theorem slotReading_of {c : SpuCfg} {slots : List SlotRun} {r : Role} {i : Nat} {run : SlotRun}
    (hi : c.slotOfRole r = some i) (hrun : slots[i]? = some run) :
    slotReading c slots r = some { value := run.held, state := run.state } := by
  simp only [slotReading, hi, hrun, Option.map_some]

theorem slotReading_none {c : SpuCfg} {r : Role} (h : c.slotOfRole r = none) (slots : List SlotRun) :
    slotReading c slots r = none := by
  simp only [slotReading, h]

theorem boomCheck_none {c : SpuCfg} (h : c.slotOfRole .boomCheck = none) (slots : List SlotRun) :
    boomCheck c slots = none := by
  unfold boomCheck
  rw [slotReading_none h]
  cases slotReading c slots .boom <;> rfl

theorem boomCheck_fresh {c : SpuCfg} {slots : List SlotRun} {b x : SlotRun}
    (hb : slotReading c slots .boom = some { value := b.held, state := b.state })
    (hx : slotReading c slots .boomCheck = some { value := x.held, state := x.state }) (fb : b.state = .fresh)
    (fx : x.state = .fresh) :
    boomCheck c slots = some (decide ((b.held - x.held).toInt.natAbs ≤ c.checkTol)) := by
  simp only [boomCheck, hb, hx, fb, fx, and_self, if_true]

theorem boomCheck_stale {c : SpuCfg} {slots : List SlotRun} {b x : SlotRun}
    (hb : slotReading c slots .boom = some { value := b.held, state := b.state })
    (hx : slotReading c slots .boomCheck = some { value := x.held, state := x.state })
    (h : b.state ≠ .fresh ∨ x.state ≠ .fresh) : boomCheck c slots = none := by
  have stale : ¬(b.state = .fresh ∧ x.state = .fresh) := fun ⟨fb, fx⟩ => h.elim (· fb) (· fx)
  simp only [boomCheck, hb, hx, if_neg stale]

theorem slotUsable_iff (x : SlotState) : slotUsable x = true ↔ x = .fresh ∨ x = .held := by
  simp [slotUsable]

theorem poseFrameOf_valid (c : SpuCfg) (slots : List SlotRun) (frame : FrameNo) (periods : Nat) :
    let p := poseFrameOf c slots frame periods
    p.valid = true ↔ (∀ r ∈ [p.slew, p.boom, p.arm, p.bucket, p.pitch], r.state = .fresh ∨ r.state = .held)
      ∧ p.disagree = false := by
  intro p
  have hvalid : p.valid = (!([p.slew, p.boom, p.arm, p.bucket, p.pitch].any fun r => !slotUsable r.state)
      && !p.disagree) := rfl
  rw [hvalid, Bool.and_eq_true, Bool.not_eq_true', Bool.not_eq_true', List.any_eq_false]
  simp only [Bool.not_eq_true', Bool.not_eq_false, slotUsable_iff]

/-- Settles O18: the close is written out once; each clause reads one of its fields. -/
theorem lastTransferDeliversThePoseFrame : Obligations.LastTransferDeliversThePoseFrame := by
  intro s k c bits on hpoll hc
  obtain ⟨u, hu⟩ : ∃ u : State, u = { s with
      spu := { s.spu with poll := some [], replies := s.spu.replies ++ [(k, c.assemble bits)] } } := ⟨_, rfl⟩
  obtain ⟨slots, hslots⟩ : ∃ l, u.spu.closedSlots s.settings.spu = l := ⟨_, rfl⟩
  obtain ⟨p, hp⟩ : ∃ p, p = poseFrameOf s.settings.spu slots (s.spu.counter + 1) s.spu.periods := ⟨_, rfl⟩
  have hclosed : u.closePoll = { s with
      spu := { s.spu with
        poll := none, replies := [], slots := slots
        disagree := disagreeAfter s.spu.disagree (boomCheck s.settings.spu slots)
        overrun := if s.spu.periods = 1 then false else s.spu.overrun
        counter := s.spu.counter + 1 }
      inFlight := s.inFlight
        ++ (List.zip s.spu.slots slots).zipIdx.flatMap (slotReports (s.spu.counter + 1))
        ++ flagReports .sensorDisagree ((s.settings.spu.slotOfRole .boomCheck).getD 0) (s.spu.counter + 1)
            s.spu.disagree (disagreeAfter s.spu.disagree (boomCheck s.settings.spu slots))
        ++ [.geuPoseFrame p] } := by
    rw [State.closePoll_eq, hp, ← hslots, hu]
    rfl
  have hdisagree : p.disagree = (boomCheck s.settings.spu slots == some false) := by rw [hp]; rfl
  have hcheck : p.check = slotReading s.settings.spu slots .boomCheck := by rw [hp]; rfl
  refine ⟨_, p, next_of_on on ((State.transferDone_one hpoll hc bits).trans
      ((congrArg State.closePoll hu.symm).trans hclosed)), rfl, rfl, rfl, rfl, rfl, fun i ci r hi hr => ?slots,
    fun i j b x hi hj hb hx => ?boom, fun hnone => ?nocheck, rfl, by rw [hp]; rfl, by rw [hp]; rfl, by rw [hp]; rfl,
    by rw [hp]; rfl, ?readings, by rw [hp]; exact poseFrameOf_valid ..⟩
  case slots =>
    have got := Spu.closedSlots_get (p := u.spu) hi (by rw [hu]; exact hr)
    rw [hslots] at got
    refine ⟨fun hunused => got.trans (by rw [if_pos hunused]), fun hused w hw => got.trans ?_⟩
    rw [if_neg hused, Spu.reply_found (by rw [hu]; exact hw)]
  case boom =>
    have hread := slotReading_of hi hb
    have hother := slotReading_of hj hx
    refine ⟨fun fb fx => ?_, hcheck.trans hother, fun h => ?_⟩
    · have fresh := boomCheck_fresh hread hother fb fx
      have same : (boomCheck s.settings.spu slots == some false)
          = decide (s.settings.spu.checkTol < (b.held - x.held).toInt.natAbs) := by
        by_cases hle : (b.held - x.held).toInt.natAbs ≤ s.settings.spu.checkTol
        · rw [fresh, decide_eq_true hle, decide_eq_false (Nat.not_lt.mpr hle)]
          rfl
        · rw [fresh, decide_eq_false hle, decide_eq_true (Nat.not_le.mp hle)]
          rfl
      refine ⟨hdisagree.trans same, (?_ : disagreeAfter _ _ = _).trans hdisagree.symm⟩
      rw [fresh]
      cases decide ((b.held - x.held).toInt.natAbs ≤ s.settings.spu.checkTol) <;> rfl
    · have stale := boomCheck_stale hread hother h
      exact ⟨hdisagree.trans (by rw [stale]; rfl), congrArg (disagreeAfter s.spu.disagree) stale⟩
  case nocheck =>
    have none := boomCheck_none hnone slots
    exact ⟨hcheck.trans (slotReading_none hnone slots), hdisagree.trans (by rw [none]; rfl),
      congrArg (disagreeAfter s.spu.disagree) none⟩
  case readings =>
    have required : ∀ {r : Role} {i : Nat} {run : SlotRun}, s.settings.spu.slotOfRole r = some i →
        slots[i]? = some run →
        requiredReading s.settings.spu slots r = { value := run.held, state := run.state } := by
      intro r i run hi hrun
      rw [requiredReading, slotReading_of hi hrun]
      rfl
    subst hp
    simp only [List.mem_cons, List.not_mem_nil, or_false]
    rintro x (rfl | rfl | rfl | rfl | rfl) i run hi hrun <;> exact required hi hrun

end Sys2Proof.Machine
end

/-! ## Bucket cycles (O22, O23) -/

section
namespace Sys2Proof.Machine

open Sys2Proof

/-! ### What a record leaves in the tracker (R37 to R42) -/

section
variable (k : CytCfg) (r : PoseRecord) (c : Cyt)

theorem Cyt.onRecord_invalid (h : r.pose.valid = false) :
    c.onRecord k r = { c.abandon with lastFrame := r.pose.frame } := by
  simp only [Cyt.onRecord, h, Bool.not_false, if_true]

theorem Cyt.onRecord_limited (hv : r.pose.valid = true) (hl : r.limited ≠ .no) :
    c.onRecord k r = { Cyt.stay k r { c with swingRun := 0 } with lastFrame := r.pose.frame } := by
  have limited : (r.limited != .no) = true := by simpa using hl
  simp only [Cyt.onRecord, hv, limited, Bool.not_true, Bool.false_eq_true, if_false, if_true]

theorem Cyt.onRecord_usable (hv : r.pose.valid = true) (hl : r.limited = .no) :
    c.onRecord k r = { c.usable k r with lastFrame := r.pose.frame } := by
  simp only [Cyt.onRecord, hv, hl, Bool.not_true, Bool.false_eq_true, if_false, bne_self_eq_false]

/-- The tracker with its swing run broken by a rate-unknown record (R37). -/
def Cyt.broken : Cyt := { c with swingRun := if r.rateUnknown then 0 else c.swingRun }

theorem Cyt.usable_broken (p : Phase) :
    c.phase = p → c.usable k r = match p with
      | .idle => if digCondition k (c.broken r) r then (c.broken r).enterDig r.pose.frame else (c.broken r).stay k r
      | .swingBack =>
        if digCondition k (c.broken r) r then (c.broken r).enterDig r.pose.frame else (c.broken r).stay k r
      | .dig => (c.broken r).inDig k r
      | .swingOut => if k.dumpOpen ≤ r.pose.bucket.value.toNat then (c.broken r).enterDump else (c.broken r).stay k r
      | .dump =>
        if r.pose.bucket.value.toNat ≤ k.dumpOpen - k.dumpHyst then (c.broken r).enterSwingBack
        else (c.broken r).stay k r := by
  have hbroken : (if r.rateUnknown = true then { c with swingRun := 0 } else c) = c.broken r := by
    unfold Cyt.broken
    cases r.rateUnknown <;> rfl
  rintro rfl
  unfold Cyt.usable
  rewrite [hbroken]
  rfl

section
variable {k r c}

theorem Cyt.usable_digs (h : c.phase = .idle ∨ c.phase = .swingBack) :
    c.usable k r =
      if digCondition k (c.broken r) r then (c.broken r).enterDig r.pose.frame else (c.broken r).stay k r := by
  rcases h with h | h
  · exact Cyt.usable_broken k r c _ h
  · exact Cyt.usable_broken k r c _ h

theorem Cyt.usable_dig (h : c.phase = .dig) : c.usable k r = (c.broken r).inDig k r := Cyt.usable_broken k r c _ h

theorem Cyt.usable_swingOut (h : c.phase = .swingOut) :
    c.usable k r =
      if k.dumpOpen ≤ r.pose.bucket.value.toNat then (c.broken r).enterDump else (c.broken r).stay k r :=
  Cyt.usable_broken k r c _ h

theorem Cyt.usable_dump (h : c.phase = .dump) :
    c.usable k r = if r.pose.bucket.value.toNat ≤ k.dumpOpen - k.dumpHyst then (c.broken r).enterSwingBack
      else (c.broken r).stay k r :=
  Cyt.usable_broken k r c _ h

theorem Cyt.broken_known (h : r.rateUnknown = false) : c.broken r = c := by
  unfold Cyt.broken
  rw [h]
  rfl

theorem Cyt.inDig_swings (h : swingCondition k r = true) (hn : c.swingRun + 1 = k.swingFrames) :
    c.inDig k r = c.enterSwingOut :=
  (if_pos h).trans (if_pos hn)

theorem Cyt.inDig_counts (h : swingCondition k r = true) (hn : c.swingRun + 1 ≠ k.swingFrames) :
    c.inDig k r = Cyt.stay k r { c with swingRun := c.swingRun + 1 } :=
  (if_pos h).trans (if_neg hn)

theorem Cyt.inDig_breaks (h : ¬swingCondition k r = true) :
    c.inDig k r = Cyt.stay k r { c with swingRun := 0 } :=
  if_neg h

end

theorem digCondition_iff :
    digCondition k c r = true ↔ r.height < k.digZ ∧ r.rateUnknown = false ∧ r.rate.natAbs ≤ k.digSlewMax
      ∧ (c.phase = .idle → c.pcu = .fresh ∧ c.travel = false) := by
  simp only [digCondition, Bool.and_eq_true, decide_eq_true_eq, Bool.not_eq_true', Bool.or_eq_true, bne_iff_ne,
    beq_iff_eq, and_assoc]
  tauto

theorem swingCondition_iff :
    swingCondition k r = true ↔ k.digZ ≤ r.height ∧ r.rateUnknown = false ∧ k.swingMin ≤ r.rate.natAbs := by
  simp only [swingCondition, Bool.and_eq_true, decide_eq_true_eq, Bool.not_eq_true', and_assoc]

theorem Cyt.stay_idle (h : c.phase = .idle) : c.stay k r = { c with timer := 0 } := if_pos h

theorem Cyt.stay_waits (h : c.phase ≠ .idle) (ht : min 65535 (c.timer + r.pose.periods) ≤ k.phaseMax) :
    c.stay k r = { c with timer := min 65535 (c.timer + r.pose.periods) } :=
  (if_neg h).trans (if_neg (Nat.not_lt.mpr ht))

theorem Cyt.stay_abandons (h : c.phase ≠ .idle) (ht : k.phaseMax < min 65535 (c.timer + r.pose.periods)) :
    c.stay k r = c.abandon :=
  (if_neg h).trans (if_pos ht)

theorem Cyt.stay_phase : (c.stay k r).phase = c.phase ∨ (c.stay k r).phase = .idle := by
  unfold Cyt.stay
  split
  · exact .inl rfl
  · dsimp only
    split
    · exact .inr rfl
    · exact .inl rfl

end

/-! ### The record at the tracker -/

theorem State.cytRecord_eq (r : PoseRecord) (s : State) :
    s.cytRecord r = { s with
      cyt := s.cyt.onRecord s.settings.cyt r
      inFlight := s.inFlight
        ++ (if cycleEnds s.settings.cyt r s.cyt then [.smuCycleEnd, .epcCycleEnd, .gguCycleEnd s.cyt.onGrade] else [])
        ++ [.phaseReport r.pose.frame (s.cyt.onRecord s.settings.cyt r).phase] } := by
  have ended : ∀ (b : Bool) (u : State), (if b then u.deliverCycleEnd s.cyt.onGrade else u)
      = u.send (if b then [.smuCycleEnd, .epcCycleEnd, .gguCycleEnd s.cyt.onGrade] else []) :=
    State.applyIf_send (f := State.deliverCycleEnd s.cyt.onGrade) (State.deliver_thrice _ _ _)
  unfold State.cytRecord
  dsimp only
  rewrite [ended]
  rfl

/-- A record that leaves the tracker as `c` and does not take it from DUMP to SWING_BACK. -/
theorem exec_cytRecord {r : PoseRecord} {s : State} {c : Cyt} (on : s.supply = true)
    (hc : s.cyt.onRecord s.settings.cyt r = { c with lastFrame := r.pose.frame })
    (hend : s.cyt.phase = .dump → c.phase ≠ .swingBack) :
    exec (.cytPoseRecord r) s = .next { s with
      cyt := { c with lastFrame := r.pose.frame }
      inFlight := s.inFlight.erase (.cytPoseRecord r) ++ [.phaseReport r.pose.frame c.phase] } := by
  refine next_of_on on ((State.cytRecord_eq r (s.taken (.cytPoseRecord r))).trans ?_)
  have stays : cycleEnds s.settings.cyt r s.cyt = false := by
    unfold cycleEnds
    rw [hc, Bool.and_eq_false_iff, beq_eq_false_iff_ne, beq_eq_false_iff_ne]
    by_cases hd : s.cyt.phase = .dump
    · exact .inr (hend hd)
    · exact .inl hd
  have quiet : (if cycleEnds s.settings.cyt r s.cyt then
      [.smuCycleEnd, .epcCycleEnd, .gguCycleEnd s.cyt.onGrade] else [] : List Instr) = [] := by rw [stays]; rfl
  rewrite [State.taken_cyt, State.taken_settings, quiet, hc, List.append_nil]
  rfl

/-- Settles O22. -/
theorem recordsAbandonOrEndTheCycle : Obligations.RecordsAbandonOrEndTheCycle := by
  refine ⟨fun r s on hv => exec_cytRecord on (Cyt.onRecord_invalid _ _ _ hv) fun _ => nofun,
    fun r s on hv hl hd hb => ?_⟩
  have hc : s.cyt.onRecord s.settings.cyt r = { (s.cyt.broken r).enterSwingBack with lastFrame := r.pose.frame } := by
    rw [Cyt.onRecord_usable _ _ _ hv hl, Cyt.usable_dump hd]
    exact congrArg (fun c : Cyt => { c with lastFrame := r.pose.frame }) (if_pos hb)
  have ends : cycleEnds s.settings.cyt r s.cyt = true := by
    unfold cycleEnds
    rw [hc, hd]
    rfl
  have sent : (if cycleEnds s.settings.cyt r s.cyt then
      [.smuCycleEnd, .epcCycleEnd, .gguCycleEnd s.cyt.onGrade] else [] : List Instr)
        = [.smuCycleEnd, .epcCycleEnd, .gguCycleEnd s.cyt.onGrade] := by rw [ends]; rfl
  refine next_of_on on ((State.cytRecord_eq r (s.taken (.cytPoseRecord r))).trans ?_)
  rewrite [State.taken_cyt, State.taken_settings, sent, hc, List.append_assoc]
  rfl

/-! ### A record that takes no transition (R42) -/

/-- The swing run a record that takes no transition leaves (R37, R39). -/
def runAfter (k : CytCfg) (r : PoseRecord) (c : Cyt) : Nat :=
  if r.limited ≠ .no then 0
  else if c.phase ≠ .dig then (if r.rateUnknown then 0 else c.swingRun)
  else if k.digZ ≤ r.height ∧ r.rateUnknown = false ∧ k.swingMin ≤ r.rate.natAbs then c.swingRun + 1 else 0

/-- A valid record that takes none of the four transitions stays in its phase, with its swing run. -/
theorem Cyt.onRecord_stays {k : CytCfg} {r : PoseRecord} {c : Cyt} (hv : r.pose.valid = true)
    (hdig : r.limited = .no → c.phase = .idle ∨ c.phase = .swingBack → ¬digCondition k c r = true)
    (hswing : r.limited = .no → c.phase = .dig → swingCondition k r = true → c.swingRun + 1 ≠ k.swingFrames)
    (hdump : r.limited = .no → c.phase = .swingOut → ¬k.dumpOpen ≤ r.pose.bucket.value.toNat)
    (hend : r.limited = .no → c.phase = .dump → ¬r.pose.bucket.value.toNat ≤ k.dumpOpen - k.dumpHyst) :
    c.onRecord k r = { Cyt.stay k r { c with swingRun := runAfter k r c } with lastFrame := r.pose.frame } := by
  by_cases hl : r.limited = .no
  · rw [Cyt.onRecord_usable _ _ _ hv hl]
    refine congrArg (fun c : Cyt => { c with lastFrame := r.pose.frame }) ?_
    have other : c.phase ≠ .dig → Cyt.stay k r { c with swingRun := runAfter k r c } = (c.broken r).stay k r :=
      fun hne => by rw [runAfter, if_neg (not_not.mpr hl), if_pos hne, Cyt.broken]
    have phases : c.phase = .dig ∨ (c.phase = .idle ∨ c.phase = .swingBack) ∨ c.phase = .swingOut
      ∨ c.phase = .dump := by
      cases c.phase <;> simp
    rcases phases with hp | hp | hp | hp
    · have run : runAfter k r c = if swingCondition k r then c.swingRun + 1 else 0 := by
        rw [runAfter, if_neg (not_not.mpr hl), if_neg (not_not.mpr hp)]
        exact if_congr (swingCondition_iff k r).symm rfl rfl
      rw [run, Cyt.usable_dig hp]
      by_cases hs : swingCondition k r = true
      · rw [if_pos hs, Cyt.broken_known ((swingCondition_iff k r).mp hs).2.1, Cyt.inDig_counts hs (hswing hl hp hs)]
      · rw [if_neg hs, Cyt.inDig_breaks hs]
        rfl
    · rw [Cyt.usable_digs hp, other (by rcases hp with hp | hp <;> rw [hp] <;> decide)]
      exact if_neg (hdig hl hp)
    · rw [Cyt.usable_swingOut hp, other (by rw [hp]; decide), if_neg (hdump hl hp)]
    · rw [Cyt.usable_dump hp, other (by rw [hp]; decide), if_neg (hend hl hp)]
  · rw [Cyt.onRecord_limited _ _ _ hv hl, runAfter, if_pos hl]

/-! ### A cue result (R47) -/

theorem Cyt.onCue_none {c : Cyt} (h : c.span = none) (m : FrameNo) (cue : Cue) : c.onCue m cue = c := by
  simp only [Cyt.onCue, h]

theorem Cyt.onCue_span {c : Cyt} {d : DigSpan} (h : c.span = some d) (m : FrameNo) (cue : Cue) :
    c.onCue m cue =
      if cue = .onGrade ∧ d.holds m then { c with onGrade := min 255 (c.onGrade + 1) } else c := by
  unfold Cyt.onCue
  rw [h]
  rfl

theorem Cyt.counted_eq (c : Cyt) (p : Prop) [Decidable p] :
    (if p then { c with onGrade := min 255 (c.onGrade + 1) } else c)
      = { c with onGrade := if decide p then min 255 (c.onGrade + 1) else c.onGrade } := by
  by_cases h : p
  · rw [if_pos h, decide_eq_true h]
    rfl
  · rw [if_neg h, decide_eq_false h]
    rfl

/-- Settles O23: each clause is a branch of the tracker's record, or the one line of its other inputs. -/
theorem cycleTrackerTakesItsInputs : Obligations.CycleTrackerTakesItsInputs := by
  refine ⟨fun r s on hv => ?record, fun travel s on => ?pump, fun s on => next_of_on on rfl,
    fun s on => next_of_on on rfl, fun m cue s on => ?cue⟩
  case record =>
    intro k run digs swings toDig toSwing toDump ends moved time
    have usable := fun hl => Cyt.onRecord_usable k r s.cyt hv hl
    have lasts := fun {c d : Cyt} (h : c = d) => congrArg (fun c : Cyt => { c with lastFrame := r.pose.frame }) h
    refine ⟨fun h => ?dig, fun h => ?swing, fun h => ?dump, fun hdig hswing hdump hend => ⟨runAfter k r s.cyt, rfl, ?_⟩⟩
    case dig =>
      obtain ⟨hl, hp, hd⟩ := h
      have dug := (digCondition_iff k r (s.cyt.broken r)).mpr hd
      exact exec_cytRecord on ((usable hl).trans (lasts ((Cyt.usable_digs hp).trans (if_pos dug)))) fun _ => nofun
    case swing =>
      obtain ⟨hl, hp, hs, hn⟩ := h
      have swung : s.cyt.usable k r = s.cyt.enterSwingOut := by
        rw [Cyt.usable_dig hp, Cyt.broken_known hs.2.1, Cyt.inDig_swings ((swingCondition_iff k r).mpr hs) hn]
      exact exec_cytRecord on ((usable hl).trans (lasts swung)) fun _ => nofun
    case dump =>
      obtain ⟨hl, hp, hb⟩ := h
      exact exec_cytRecord on ((usable hl).trans (lasts ((Cyt.usable_swingOut hp).trans (if_pos hb)))) fun _ => nofun
    have stays := Cyt.onRecord_stays (k := k) (c := s.cyt) hv
      (fun hl hp hd => hdig ⟨hl, hp, (digCondition_iff k r s.cyt).mp hd⟩)
      (fun hl hp hs hn => hswing ⟨hl, hp, (swingCondition_iff k r).mp hs, hn⟩)
      (fun hl hp hb => hdump ⟨hl, hp, hb⟩) (fun hl hp hb => hend ⟨hl, hp, hb⟩)
    refine ⟨fun hp => ?_, fun hp ht => ?_, fun hp ht => ?_⟩
    · exact exec_cytRecord on (stays.trans (lasts (Cyt.stay_idle _ _ _ hp))) fun hd => absurd (hp.symm.trans hd) nofun
    · exact exec_cytRecord on (stays.trans (lasts (Cyt.stay_waits _ _ _ hp ht))) fun hd => by rw [hd]; decide
    · exact exec_cytRecord on (stays.trans (lasts (Cyt.stay_abandons _ _ _ hp ht))) fun _ => nofun
  case pump =>
    refine next_of_on on (congrArg (fun c => { s.taken (.cytPumpStatus travel) with cyt := c }) ?_)
    exact if_congr Iff.rfl rfl rfl
  case cue =>
    intro counted
    have cued : ∀ {c : Cyt}, s.cyt.onCue m cue = c → exec (.cueResult m cue) s
        = .next { s with inFlight := s.inFlight.erase (.cueResult m cue), cyt := c } := fun h =>
      next_of_on on (congrArg (fun c => { s.taken (.cueResult m cue) with cyt := c }) h)
    have spanned : ∀ {d : DigSpan} {b : Bool}, s.cyt.span = some d → b = decide (cue = .onGrade ∧ d.holds m = true) →
        exec (.cueResult m cue) s = .next (counted b) := by
      rintro d b hd rfl
      exact cued ((Cyt.onCue_span hd m cue).trans (Cyt.counted_eq _ _))
    exact ⟨fun h => cued (Cyt.onCue_none h m cue),
      fun first h => spanned h (decide_eq_decide.mpr (and_congr_right' (decide_eq_true_iff.symm))),
      fun first last h => spanned h (decide_eq_decide.mpr (and_congr_right' (decide_eq_true_iff.symm)))⟩

end Sys2Proof.Machine
end

/-! ## The reports of a start (O15) -/

section
namespace Sys2Proof.Machine

open Sys2Proof

/-! ### A notice table after a run of raisings (R181) -/

theorem noticeCount_countsAfter (l : List NoticeKind) (k : NoticeKind) (c : List Nat) :
    c.length = 11 → (∀ j, noticeCount c j ≤ 15) →
      noticeCount (countsAfter l c) k = min 15 (noticeCount c k + l.count k) := by
  induction l generalizing c with
  | nil =>
    intro _ hle
    have := hle k
    rw [countsAfter_nil, List.count_nil]
    omega
  | cons j l ih =>
    intro hlen hle
    have raised : ∀ i, noticeCount (noticeRaised c j) i =
        if i = j then min 15 (noticeCount c i + 1) else noticeCount c i := by
      intro i
      by_cases hij : i = j
      · subst hij
        rw [if_pos rfl, noticeRaised_count c i hlen]
      · rw [if_neg hij, noticeRaised_other c hij]
    rw [countsAfter_cons, ih _ (by rw [noticeRaised_length, hlen]), raised, List.count_cons]
    · by_cases hkj : k = j
      · subst hkj
        simp only [if_true, beq_self_eq_true]
        omega
      · have hjk : ¬(j == k) = true := by simpa using Ne.symm hkj
        rw [if_neg hkj, if_neg hjk, Nat.add_zero]
    · intro i
      rw [raised]
      have := hle i
      split <;> omega

theorem noticeCount_blank (k : NoticeKind) : noticeCount (List.replicate 11 0) k = 0 := by
  cases k <;> rfl

/-- The counts of a table that was clear are those of the run, up to 15. -/
theorem noticeCount_started {l : List NoticeKind} {k : NoticeKind} (h : l.count k ≤ 15) :
    noticeCount (countsAfter l (List.replicate 11 0)) k = l.count k := by
  rw [noticeCount_countsAfter l k _ rfl (fun j => by rw [noticeCount_blank]; decide), noticeCount_blank]
  omega

theorem PortA.raisedAll_frame (l : List NoticeKind) (p : PortA) :
    ∃ n o, p.raisedAll l = { p with counts := countsAfter l p.counts, notice := n, offering := o } := by
  induction l generalizing p with
  | nil => exact ⟨p.notice, p.offering, rfl⟩
  | cons k l ih =>
    obtain ⟨n, o, h⟩ := ih (p.raised k)
    refine ⟨n, o, (PortA.raisedAll_cons k l p).trans (h.trans ?_)⟩
    rw [countsAfter_cons, ← PortA.raised_counts k p]
    exact congrArg (fun q : PortA => { q with counts := countsAfter l (p.raised k).counts, notice := n, offering := o })
      (PortA.raised_eq k p)

/-! ### The fault ring of a start (R155, R166) -/

/-- The ring after the reports `l` of a start, oldest first: numbered from 1, each a record of the start. -/
structure StartRing (a : NvArray) (l : List (FaultCode × Int)) (f : Fhu) : Prop where
  codes : f.ring.map (fun x => (x.code, x.detail)) = l.reverse
  records : ∀ i x, f.ring[i]? = some x → x.seq.toNat + i = f.ring.length ∧ startRecord a x
  seq : f.seq.toNat = f.ring.length + 1

theorem StartRing.length {a : NvArray} {l : List (FaultCode × Int)} {f : Fhu} (h : StartRing a l f) :
    f.ring.length = l.length := by
  rw [← List.length_map (fun x : FaultRecord => (x.code, x.detail)), h.codes, List.length_reverse]

theorem StartRing.congr {a : NvArray} {l : List (FaultCode × Int)} {f g : Fhu} (h : StartRing a l f)
    (hring : g.ring = f.ring) (hseq : g.seq = f.seq) : StartRing a l g := by
  obtain ⟨codes, records, seq⟩ := h
  exact ⟨by rw [hring, codes], by rw [hring]; exact records, by rw [hseq, hring, seq]⟩

theorem StartRing.push {a : NvArray} {l : List (FaultCode × Int)} {f : Fhu} (h : StartRing a l f) (hlen : l.length < 15)
    {r : FaultRecord} (hr : startRecord a r) (hseq : r.seq = f.seq) :
    StartRing a (l ++ [(r.code, r.detail)]) (f.push r) := by
  have ring : (f.push r).ring = r :: f.ring :=
    List.take_of_length_le (by rw [List.length_cons, h.length]; omega)
  have len := h.length
  refine ⟨?_, fun i x hx => ?_, ?_⟩
  · rw [ring, List.map_cons, h.codes, List.reverse_append]
    rfl
  · rw [ring] at hx ⊢
    cases i with
    | zero =>
      obtain rfl : r = x := Option.some.inj hx
      rw [hseq, h.seq, List.length_cons]
      exact ⟨rfl, hr⟩
    | succ i =>
      obtain ⟨hn, hx⟩ := h.records i x hx
      rw [List.length_cons]
      exact ⟨by omega, hx⟩
  · have small : ¬f.seq = 4294967295 := by
      intro hmax
      have := h.seq
      rw [hmax, len] at this
      simp at this
      omega
    have next : (f.push r).seq = f.seq + 1 := if_neg small
    rw [next, ring, List.length_cons, BitVec.toNat_add, h.seq]
    refine Nat.mod_eq_of_lt ?_
    rw [len]
    show l.length + 1 + 1 < 2 ^ 32
    omega

/-- The record of a report at the start: no pose record formed yet, the plan PLAN_NONE. -/
theorem State.recordOf_start {s : State} (hgeu : s.geu.current = none) (hplan : s.epc.plan = .none) (code : FaultCode)
    (detail : Int) (second : Bool) :
    s.recordOf { code := code, clearing := false, detail := detail, frame := none } second
      = { FaultRecord.startUp s.fhu.seq code detail with second := second } := by
  simp only [State.recordOf, hgeu, hplan]
  rfl

theorem startRecord_restoreBad (a : NvArray) (seq : BitVec 32) (detail : Int) :
    startRecord a { FaultRecord.startUp seq .nvRestoreBad detail with second := false } :=
  ⟨rfl, rfl, rfl, rfl, rfl, rfl, nofun, fun h => nomatch h.1⟩

theorem startRecord_cfgInvalid (a : NvArray) (seq : BitVec 32) (detail : Int) :
    startRecord a { FaultRecord.startUp seq .cfgInvalid detail with
      second := ((restoredHold a).getD none).isSome } :=
  ⟨rfl, rfl, rfl, rfl, rfl, rfl, fun h => ⟨rfl, h⟩, fun h => h.2⟩

/-- The state with the FHU and notices given, each notice raised into both tables. -/
def State.reported (f : Fhu) (l : List NoticeKind) (s : State) : State :=
  { s with
    fhu := f, portA := s.portA.raisedAll l
    sli := { s.sli with counts := countsAfter l s.sli.counts } }

theorem State.reported_reported (f g : Fhu) (l m : List NoticeKind) (s : State) :
    (s.reported f l).reported g m = s.reported g (l ++ m) := by
  unfold State.reported
  rw [PortA.raisedAll_append, countsAfter_append]

/-- The restores that failed their check, each recorded in turn (R166). -/
theorem State.restoreBad_foldl {a : NvArray} (l : List RecordId) (s : State) (done : List (FaultCode × Int)) :
    s.geu.current = none → s.epc.plan = .none → StartRing a done s.fhu → done.length + l.length ≤ 15 →
    ∃ f, l.foldl State.restoreBad s = s.reported f (List.replicate l.length .faultRecorded)
      ∧ f = { s.fhu with ring := f.ring, seq := f.seq }
      ∧ StartRing a (done ++ l.map fun r => (.nvRestoreBad, (r.number : Int))) f := by
  induction l generalizing s done with
  | nil => exact fun _ _ h _ => ⟨s.fhu, rfl, rfl, by rw [List.map_nil, List.append_nil]; exact h⟩
  | cons r l ih =>
    intro hgeu hplan hring hlen
    rw [List.length_cons] at hlen
    obtain ⟨u, hu⟩ : ∃ u, s.restoreBad r = u := ⟨_, rfl⟩
    have taken : u = s.reported
      (s.fhu.push { FaultRecord.startUp s.fhu.seq .nvRestoreBad r.number with second := false })
        [.faultRecorded] := by
      rw [← hu, State.restoreBad, State.takeFault_advisory rfl, State.recordFault_eq, State.recordOf_start hgeu hplan]
      rfl
    have pushed := hring.push (by omega) (startRecord_restoreBad a s.fhu.seq r.number) rfl
    obtain ⟨f, hf, hframe, hafter⟩ := ih u (done ++ [(.nvRestoreBad, (r.number : Int))]) (by rw [taken]; exact hgeu)
      (by rw [taken]; exact hplan) (by rw [taken]; exact pushed) (by rw [List.length_append]; simp; omega)
    refine ⟨f, ?_, ?_, ?_⟩
    · rw [List.foldl_cons, hu, hf, taken, State.reported_reported]
      rfl
    · refine hframe.trans ?_
      rw [taken]
      rfl
    · rw [List.append_assoc] at hafter
      exact hafter

end Sys2Proof.Machine
end

/-! ## The start up to KEY-off (O15) -/

section
namespace Sys2Proof.Machine

open Sys2Proof

/-- What the FHU, the notices `l` raised into both tables and the deliveries `q` are after the reports of a start. -/
structure StartReported (a : NvArray) (b : State) (f : Fhu) (l : List NoticeKind) (q : List Instr) : Prop where
  quiet : f.active = [] ∧ f.unstored = false
  ring : StartRing a (startReports a) f
  hold : match (restoredHold a).getD none, configFault a with
    | held, none => f.held = held ∧ f.escalation = 0
    | none, some k => f.held = some { code := .cfgInvalid, detail := k } ∧ f.escalation = 0
    | some c, some _ => f.held = some c ∧ f.escalation = 1
  notices : ∀ k : NoticeKind, l.count k = match k with
    | .faultRecorded => f.ring.length
    | .holdEntered => bit f.held.isSome
    | _ => 0
  entered : f.held.isSome = true → (.levHoldEntry : Instr) ∈ q ∧ (.epcHoldEntry : Instr) ∈ q
  summary : (.consequenceSummary b.smu.summary : Instr) ∈ q

theorem StartReported.mono {a : NvArray} {b : State} {f : Fhu} {l : List NoticeKind} {q r : List Instr}
    (h : StartReported a b f l q) (hq : ∀ c ∈ q, c ∈ r) : StartReported a b f l r :=
  { h with
    entered := fun hheld => ⟨hq _ (h.entered hheld).1, hq _ (h.entered hheld).2⟩
    summary := hq _ h.summary }

theorem StartRing.blank (a : NvArray) {f : Fhu} (hring : f.ring = []) (hseq : f.seq = 1) : StartRing a [] f :=
  ⟨by rw [hring]; rfl, fun i x hx => absurd hx
    (by rw [hring, List.getElem?_nil]; exact nofun), by rw [hring, hseq]; rfl⟩

/-- The notices of a start: the stored hold's, one for each failed restore, those of a CFG_INVALID. -/
def startNotices (held : Bool) (failed : Nat) (more : List NoticeKind) : List NoticeKind :=
  (if held then [.holdEntered] else []) ++ List.replicate failed .faultRecorded ++ more

theorem startNotices_count (held : Bool) (failed : Nat) (more : List NoticeKind) (k : NoticeKind) :
    (startNotices held failed more).count k = match k with
      | .faultRecorded => failed + more.count .faultRecorded
      | .holdEntered => bit held + more.count .holdEntered
      | k => more.count k := by
  have first : (if held then [.holdEntered] else [] : List NoticeKind).count k
      = if k = .holdEntered then bit held else 0 := by
    cases held
    · cases k <;> rfl
    · cases k <;> rfl
  rw [startNotices, List.count_append, List.count_append, List.count_replicate, first]
  cases k <;> simp

theorem failedRecords_length (a : NvArray) : (failedRecords a).length ≤ 5 := by
  unfold failedRecords
  have one : ∀ (b : Bool) (r : RecordId), (if b then [r] else []).length ≤ 1 := by
    intro b r
    cases b
    · exact Nat.zero_le 1
    · exact Nat.le_refl 1
  have h1 := one (restoredZones a .zonesSite).isNone .zonesSite
  have h2 := one (restoredZones a .zonesOper).isNone .zonesOper
  have h3 := one (restoredItems a).isNone .items
  have h4 := one (restoredMeters a).isNone .meters
  have h5 := one (restoredHold a).isNone .hold
  simp only [List.length_append]
  omega

/-- The blocks `b` of a start with what its reports leave: the FHU, the notices, the deliveries and the stores. -/
def State.withReports (f : Fhu) (l : List NoticeKind) (q : List Instr) (n : Nvc) (b : State) : State :=
  { b with
    fhu := f, portA := b.portA.raisedAll l, inFlight := q, nvc := n
    sli := { b.sli with counts := countsAfter l b.sli.counts } }

theorem State.reported_withReports (f g : Fhu) (l m : List NoticeKind) (q : List Instr) (n : Nvc) (b : State) :
    (b.withReports f l q n).reported g m = b.withReports g (l ++ m) q n := by
  rw [State.withReports, State.withReports, State.reported, PortA.raisedAll_append, countsAfter_append]

/-- The deliveries of a start before its reports. -/
def startFlight (held : Bool) (b : State) : List Instr :=
  [.consequenceSummary b.smu.summary] ++ if held then [.levHoldEntry, .epcHoldEntry] else []

theorem State.announced_eq {b : State} (h : b.inFlight = []) :
    b.handSummary.announceHold = b.withReports b.fhu (if b.fhu.held.isSome then [.holdEntered] else [])
      (startFlight b.fhu.held.isSome b) b.nvc := by
  unfold State.announceHold startFlight
  have flight : b.handSummary.inFlight = [.consequenceSummary b.smu.summary] := by
    show b.inFlight ++ _ = _
    rw [h]
    rfl
  by_cases hheld : b.fhu.held.isSome = true
  · have hheld' : b.handSummary.fhu.held.isSome = true := hheld
    rw [if_pos hheld', if_pos hheld, if_pos hheld, ← flight]
    show State.raiseBoth .holdEntered (State.deliverHold b.handSummary) = _
    unfold State.deliverHold
    rewrite [State.deliver_both]
    rfl
  · have hheld' : ¬b.handSummary.fhu.held.isSome = true := hheld
    rw [if_neg hheld', if_neg hheld, if_neg hheld, List.append_nil, ← flight]
    rfl

/-- The store controller of a start: as it starts, with at most a hold just entered to store. -/
structure StartStores (a : NvArray) (n m : Nvc) : Prop where
  frame : m = { n with queue := m.queue }
  legal : queueOk m ∧ writeOk m
  short : m.queue.length ≤ 1
  idle : configFault a = none → m.queue = []

theorem startFlight_summary (held : Bool) (b : State) :
    (.consequenceSummary b.smu.summary : Instr) ∈ startFlight held b := List.mem_append_left _
      (List.mem_singleton.2 rfl)

theorem startFlight_entered (held : Bool) (b : State) (h : held = true) :
    (.levHoldEntry : Instr) ∈ startFlight held b ∧ (.epcHoldEntry : Instr) ∈ startFlight held b := by
  subst h
  unfold startFlight
  simp

theorem Nvc.start_legal (a : NvArray) (image : Option (List Int)) :
    queueOk (Nvc.start a image) ∧ writeOk (Nvc.start a image) :=
  ⟨⟨Nat.zero_le 4, List.nodup_nil⟩, nofun⟩

/-- The hold just entered is all there is to store. -/
theorem Nvc.start_hold (a : NvArray) (image : Option (List Int)) :
    (Nvc.start a image).requested .hold true false
      = { Nvc.start a image with queue := [{ record := .hold, again := false, service := false }] } := rfl

/-- A CFG_INVALID that enters HOLD during a start (R159, R167). -/
theorem State.enterHold_start {b u : State} {f : Fhu} {l : List NoticeKind} {q : List Instr} {a : NvArray}
    {image : Option (List Int)} (hu : u = b.withReports f l q b.nvc) (hnvc : b.nvc = Nvc.start a image)
    (r : FaultReport) :
    u.enterHold r = b.withReports
      { f.push (u.recordOf r false) with held := some { code := r.code, detail := r.detail }, unstored := false }
      (l ++ [.faultRecorded, .holdEntered]) (q ++ [.levHoldEntry] ++ [.epcHoldEntry])
      { b.nvc with queue := [{ record := .hold, again := false, service := false }] } := by
  have unvc : u.nvc = Nvc.start a image := by rw [hu]; exact hnvc
  have takes : u.nvc.takes .hold = true := by rw [unvc]; rfl
  have stored : u.nvc.requested .hold true false
      = { b.nvc with queue := [{ record := .hold, again := false, service := false }] } := by
    rw [unvc, hnvc]
    exact Nvc.start_hold a image
  obtain ⟨rec, hrec⟩ : ∃ rec, u.recordOf r false = rec := ⟨_, rfl⟩
  rewrite [State.enterHold_eq, takes, stored, hrec, hu, State.withReports, State.withReports, PortA.raisedAll_append,
    countsAfter_append]
  rfl

/-- A CFG_INVALID on a restored hold during a start (R161, R167). -/
theorem State.escalate_start {b u : State} {f : Fhu} {l : List NoticeKind} {q : List Instr}
    (hu : u = b.withReports f l q b.nvc) (hf : f.unstored = false) (r : FaultReport) :
    u.escalate r = b.withReports { f.push (u.recordOf r true) with escalation := min 255 (f.escalation + 1) }
      (l ++ [.faultRecorded]) q b.nvc := by
  obtain ⟨rec, hrec⟩ : ∃ rec, u.recordOf r true = rec := ⟨_, rfl⟩
  rewrite [State.escalate_settled (by rw [hu]; exact hf), hrec, hu, State.withReports, State.withReports,
    PortA.raisedAll_append, countsAfter_append]
  rfl

/-- The reports of a start, from the blocks as they start. -/
theorem State.start_reported {a : NvArray} {b : State} (hfhu : b.fhu = Fhu.restored ((restoredHold a).getD none))
    (hflight : b.inFlight = []) (hgeu : b.geu.current = none) (hplan : b.epc.plan = .none)
    (hnvc : b.nvc = Nvc.start a (configImage a)) :
    ∃ f l q n, ((failedRecords a).foldl State.restoreBad b.handSummary.announceHold).configInvalid (configFault a)
        = b.withReports f l q n
      ∧ StartReported a b f l q ∧ StartStores a b.nvc n := by
  obtain ⟨h0, hh0⟩ : ∃ h, (restoredHold a).getD none = h := ⟨_, rfl⟩
  have hheld : b.fhu.held = h0 := by rw [hfhu, hh0]; rfl
  obtain ⟨t, ht⟩ : ∃ t, b.handSummary.announceHold = t := ⟨_, rfl⟩
  have announced := ht.symm.trans (State.announced_eq hflight)
  have tfhu : t.fhu = b.fhu := by rw [announced]; rfl
  have blank : StartRing a [] t.fhu := by
    rw [tfhu, hfhu]
    exact StartRing.blank a rfl rfl
  obtain ⟨f, hfold, hf, hring⟩ := State.restoreBad_foldl (a := a) (failedRecords a) t []
    (by rw [announced]; exact hgeu) (by rw [announced]; exact hplan) blank
    (by have := failedRecords_length a; simp; omega)
  have fheld : f.held = h0 := by rw [hf, tfhu]; exact hheld
  have fquiet : f.active = [] ∧ f.unstored = false ∧ f.escalation = 0 := by
    rw [hf, tfhu, hfhu]
    exact ⟨rfl, rfl, rfl⟩
  obtain ⟨u, hu⟩ : ∃ u, (failedRecords a).foldl State.restoreBad t = u := ⟨_, rfl⟩
  have restored : u = b.withReports f (startNotices h0.isSome (failedRecords a).length []) (startFlight h0.isSome b)
      b.nvc := by
    rw [← hu, hfold, announced, hheld, startNotices, List.append_nil, State.reported_withReports]
  have upush : ∀ k : Nat, u.recordOf { code := .cfgInvalid, clearing := false, detail := k, frame := none } h0.isSome
      = { FaultRecord.startUp f.seq .cfgInvalid k with second := ((restoredHold a).getD none).isSome } := by
    intro k
    rw [State.recordOf_start (by rw [restored]; exact hgeu) (by rw [restored]; exact hplan), restored, hh0]
    rfl
  have ufhu : u.fhu = f := by rw [restored]; rfl
  have unvc : u.nvc = Nvc.start a (configImage a) := by rw [restored]; exact hnvc
  have flight := startFlight_summary h0.isSome b
  have entered := startFlight_entered h0.isSome b
  have hlen := failedRecords_length a
  rw [ht, hu]
  cases hfault : configFault a with
  | none =>
    have reports : startReports a = (failedRecords a).map fun r => (.nvRestoreBad, (r.number : Int)) := by
      rw [startReports, hfault]
      exact List.append_nil _
    have ring : StartRing a (startReports a) f := reports ▸ hring
    refine ⟨f, _, _, b.nvc, restored, ⟨⟨fquiet.1, fquiet.2.1⟩, ring, ?_, fun k => ?_, fun h => entered ?_, flight⟩,
      ⟨rfl, ?_, ?_, fun _ => ?_⟩⟩
    · rw [hh0, hfault]
      exact ⟨fheld, fquiet.2.2⟩
    · rw [startNotices_count, ring.length, reports, List.length_map, fheld]
      cases k <;> rfl
    · rw [← fheld]
      exact h
    · rw [hnvc]
      exact Nvc.start_legal ..
    · rw [hnvc]
      exact Nat.zero_le 1
    · rw [hnvc]
      rfl
  | some k =>
    have reports : startReports a
        = (failedRecords a).map (fun r => (.nvRestoreBad, (r.number : Int))) ++ [(.cfgInvalid, (k : Int))] := by
      rw [startReports, hfault]
      rfl
    have pushed := hring.push (by simp; omega) (startRecord_cfgInvalid a f.seq k) rfl
    have ring : StartRing a (startReports a)
        (f.push { FaultRecord.startUp f.seq .cfgInvalid k with second := ((restoredHold a).getD none).isSome }) :=
      reports ▸ pushed
    have count : (startReports a).length = (failedRecords a).length + 1 := by
      rw [reports, List.length_append, List.length_map]
      rfl
    cases hcase : h0 with
    | none =>
      rw [hcase] at restored upush hh0 entered
      have hheld : u.fhu.held = none := by rw [ufhu, fheld, hcase]
      have taken := (State.takeFault_enters
        (r := { code := .cfgInvalid, clearing := false, detail := k, frame := none })
        rfl hheld).trans (State.enterHold_start restored hnvc _)
      rw [show u.recordOf _ false = _ from upush k] at taken
      refine ⟨_, _, _, _, taken, ⟨⟨fquiet.1, rfl⟩, ring.congr rfl rfl, ?_, fun j => ?_, fun _ => ?_, ?_⟩,
        ⟨rfl, ?_, ?_, fun h => nomatch hfault.symm.trans h⟩⟩
      · rw [hh0, hfault]
        exact ⟨rfl, fquiet.2.2⟩
      · rw [List.count_append, startNotices_count, ring.length, count]
        cases j <;> rfl
      · exact ⟨by simp, by simp⟩
      · rw [List.append_assoc]
        exact List.mem_append_left _ (hcase ▸ flight)
      · exact ⟨⟨by simp, by simp⟩, fun w hw => by rw [hnvc] at hw; exact nomatch hw⟩
      · exact Nat.le_refl 1
    | some c =>
      rw [hcase] at restored upush hh0 entered
      have hheld : u.fhu.held.isSome = true := by rw [ufhu, fheld, hcase]; rfl
      have taken := (State.takeFault_escalates
        (r := { code := .cfgInvalid, clearing := false, detail := k, frame := none }) rfl hheld).trans
        (State.escalate_start restored fquiet.2.1 _)
      rw [show u.recordOf _ true = _ from upush k] at taken
      refine ⟨_, _, _, _, taken, ⟨⟨fquiet.1, fquiet.2.1⟩, ring.congr rfl rfl, ?_, fun j => ?_, fun _ => entered rfl,
        hcase ▸ flight⟩, ⟨rfl, ?_, ?_, fun h => nomatch hfault.symm.trans h⟩⟩
      · rw [hh0, hfault]
        exact ⟨fheld.trans hcase, by rw [fquiet.2.2]; rfl⟩
      · have held : f.held.isSome = true := by rw [fheld, hcase]; rfl
        rw [List.count_append, startNotices_count, ring.length, count]
        cases j with
        | holdEntered => exact (congrArg bit held).symm
        | _ => rfl
      · rw [hnvc]
        exact Nvc.start_legal ..
      · rw [hnvc]
        exact Nat.zero_le 1

end Sys2Proof.Machine
end

/-! ## The start with its KEY line, and every block as it starts (O15) -/

section
namespace Sys2Proof.Machine

open Sys2Proof

theorem Env.unmarked {e : Env} (hsite : e.unstoredSite = false) (hoper : e.unstoredOper = false) (x y : Bool) :
    { e with unstoredSite := e.unstoredSite && x, unstoredOper := e.unstoredOper && y } = e := by
  obtain ⟨entries, site, oper, latest⟩ := e
  obtain rfl : site = false := hsite
  obtain rfl : oper = false := hoper
  rfl

theorem Fhu.unmarked {f : Fhu} (h : f.unstored = false) (x : Bool) : { f with unstored := f.unstored && x } = f := by
  obtain ⟨active, ring, seq, held, escalation, unstored⟩ := f
  obtain rfl : unstored = false := h
  rfl

theorem Smu.unsnapped {m : Smu} (hdue : m.snapDue = false) (hcount : m.snapCount = 0) (p : Prop) [Decidable p] :
    (if p then { m with snapDue := false, snapCount := 0 } else m) = m := by
  by_cases hp : p
  · rw [if_pos hp]
    obtain ⟨meters, residues, travel, count, due, items, summary⟩ := m
    obtain rfl : due = false := hdue
    obtain rfl : count = 0 := hcount
    rfl
  · exact if_neg hp

/-- KEY-off in PLAN_NONE changes neither plan nor lead. -/
theorem planNotices_keyOff {c : EpcCfg} {p : Epc} (hplan : p.plan = .none) (hlead : p.lead = none) :
    planNotices p (p.onKeyOff.reform c) = [] := by
  rw [Epc.onKeyOff_reform, planNotices, hplan, hlead]
  exact if_neg fun h => h.elim (fun g => g rfl) fun g => g rfl

/-- What the store controller is after a start. -/
structure StartSettled (a : NvArray) (key : Bool) (n m : Nvc) : Prop where
  frame : m = { n with queue := m.queue, write := m.write, power := m.power }
  run : m.power = .run ↔ key = true
  idle : key = true → configFault a = none → m.queue = [] ∧ m.write = none

/-- Settling the store controller of a start in RUN. -/
theorem State.start_settled {a : NvArray} {b : State} {f : Fhu} {l : List NoticeKind} {q : List Instr} {n : Nvc}
    (h : StartStores a b.nvc n) (hrun : b.nvc.power = .run) (hwrite : b.nvc.write = none) :
    ∃ q' n', (b.withReports f l q n).settle = b.withReports f l q' n' ∧ (∀ c ∈ q, c ∈ q')
      ∧ StartSettled a true b.nvc n' ∧ n'.queue = n.queue ∧ (queueOk n' ∧ writeOk n') := by
  obtain ⟨t, ht⟩ : ∃ t, (b.withReports f l q n).settle = t := ⟨_, rfl⟩
  obtain ⟨write, power, flight, hsettle⟩ := (b.withReports f l q n).settle_exists
  rw [ht] at hsettle
  have nrun : n.power = .run := by rw [h.frame]; exact hrun
  have nwrite : n.write = none := by rw [h.frame]; exact hwrite
  have hpower : power = .run := by
    have settled := State.settle_power (b.withReports f l q n)
    rw [ht, hsettle] at settled
    refine settled.trans ((if_neg ?_).trans nrun)
    rintro ⟨hshut, -⟩
    exact nomatch nrun.symm.trans hshut
  have hnvc : t.nvc = { n with write := write, power := power } := by rw [hsettle]; rfl
  refine ⟨flight, { n with write := write, power := power }, ht.trans hsettle, fun c hc => ?_,
    ⟨?_, ?_, fun _ hfault => ?_⟩, rfl, ?_⟩
  · have kept := State.mem_settle c (b.withReports f l q n) hc
    rw [ht, hsettle] at kept
    exact kept
  · rw [h.frame]
  · exact ⟨fun _ => rfl, fun _ => hpower⟩
  · have empty := h.idle hfault
    refine ⟨empty, ?_⟩
    have begun := State.settle_write (b.withReports f l q n)
    rw [ht, hnvc, State.beginWrite_idle _ (show (b.withReports f l q n).nvc.write = none from nwrite)] at begun
    refine begun.trans ?_
    show Option.map _ n.queue.head? = none
    rw [empty]
    rfl
  · have legal : storesOk t := by
      rw [← ht]
      exact ((b.withReports f l q n).settle_changes).stands .stores (by decide) h.legal
    rw [← hnvc]
    exact legal

/-- Serving the key-off list of a start, in which nothing is marked unstored, changes the store controller alone. -/
theorem State.withReports_served {b : State} {f : Fhu} {l : List NoticeKind} {q : List Instr} {m : Nvc}
    {P : List RecordId} (hf : f.unstored = false) (hsite : b.env.unstoredSite = false)
    (hoper : b.env.unstoredOper = false) (hdue : b.smu.snapDue = false) (hcount : b.smu.snapCount = 0) :
    (b.withReports f l q m).keyServed P
      = b.withReports f l q { m with queue := m.keyQueue P, keyList := m.keyLeft P } := by
  have env := Env.unmarked hsite hoper (!m.keyTaken P .zonesSite) (!m.keyTaken P .zonesOper)
  have fhu := Fhu.unmarked hf (!m.keyTaken P .hold)
  have smu := Smu.unsnapped hdue hcount (m.keyTaken P .meters = true)
  obtain ⟨n, hn⟩ : ∃ n : Nvc, n = { m with queue := m.keyQueue P, keyList := m.keyLeft P } := ⟨_, rfl⟩
  calc (b.withReports f l q m).keyServed P
      = { b with
          env := { b.env with
            unstoredSite := b.env.unstoredSite && !m.keyTaken P .zonesSite
            unstoredOper := b.env.unstoredOper && !m.keyTaken P .zonesOper }
          smu := if m.keyTaken P .meters = true then { b.smu with snapDue := false, snapCount := 0 }
            else b.smu }.withReports { f with unstored := f.unstored && !m.keyTaken P .hold } l q n := by
        rw [hn]
        rfl
    _ = b.withReports f l q n := by rw [env, fhu, smu]
    _ = _ := by rw [hn]

/-- The KEY line of a start: KEY-off is taken where it reads off (R171). -/
theorem State.start_keyed {a : NvArray} {b : State} {f : Fhu} {l : List NoticeKind} {q : List Instr} {n : Nvc}
    (h : StartStores a b.nvc n) (hnvc : b.nvc = Nvc.start a (configImage a)) (hf : f.unstored = false)
    (hsite : b.env.unstoredSite = false) (hoper : b.env.unstoredOper = false) (hdue : b.smu.snapDue = false)
    (hcount : b.smu.snapCount = 0) (hplan : b.epc.plan = .none) (hlead : b.epc.lead = none) :
    ∃ q' n' e, (b.withReports f l q n).settle.keyAtStart = { b with epc := e }.withReports f l q' n'
      ∧ (e = if b.lines.key then b.epc else b.epc.onKeyOff.reform b.settings.epc)
      ∧ (∀ c ∈ q, c ∈ q') ∧ StartSettled a b.lines.key b.nvc n' := by
  obtain ⟨q', n', hsettle, hq, settled, hqueue, legal⟩ := State.start_settled (f := f) (l := l) (q := q) h
    (by rw [hnvc]; rfl) (by rw [hnvc]; rfl)
  obtain ⟨t, ht⟩ : ∃ t, b.withReports f l q' n' = t := ⟨_, rfl⟩
  rw [hsettle, ht]
  cases hkey : b.lines.key with
  | true =>
    have tkey : t.lines.key = true := by rw [← ht]; exact hkey
    exact ⟨q', n', b.epc, (if_pos tkey).trans ht.symm, rfl, hq, settled⟩
  | false =>
    have tkey : ¬t.lines.key = true := by
      rw [← ht]
      exact Bool.eq_false_iff.mp hkey
    have trun : t.nvc.power = .run := by
      rw [← ht]
      exact settled.run.mpr rfl
    have tstores : storesOk t := by
      rw [← ht]
      exact legal
    have tplan : t.epc.plan = .none := by
      rw [← ht]
      exact hplan
    have tlead : t.epc.lead = none := by
      rw [← ht]
      exact hlead
    obtain ⟨m, hm⟩ : ∃ m : Nvc, m = { n' with power := .shuttingDown, keyList := [] } := ⟨_, rfl⟩
    have listed : keyOffList t.env = [.meters, .items] := by
      rw [← ht]
      show keyOffList b.env = _
      rw [keyOffList, hsite, hoper]
      rfl
    have left : m.keyLeft [.meters, .items] = [] := by
      refine List.drop_of_length_le ?_
      have short : m.queue.length ≤ 1 := by
        rw [hm]
        show n'.queue.length ≤ 1
        rw [hqueue]
        exact h.short
      have two : (m.absentOf [.meters, .items]).length ≤ 2 := List.length_filter_le ..
      omega
    have keyed : t.keyedOff = { b with epc := b.epc.onKeyOff.reform b.settings.epc }.withReports f l q' m := by
      rw [State.keyedOff_eq, State.keyOffNotices, planNotices_keyOff tplan tlead, ← ht, hm]
      rfl
    have served : t.keyedOff.keyServed [.meters, .items]
        = { b with epc := b.epc.onKeyOff.reform b.settings.epc }.withReports f l q'
          { m with queue := m.keyQueue [.meters, .items], keyList := [] } := by
      rw [keyed]
      refine (State.withReports_served (b := { b with epc := b.epc.onKeyOff.reform b.settings.epc }) hf hsite hoper hdue
        hcount).trans ?_
      rw [left]
    have taken := State.keyOffTaken_served tstores trun
    have power := State.keyOffTaken_power tstores trun
    rw [listed, served] at taken
    obtain ⟨write, p, flight, hsettled⟩ := State.settle_exists ({ b with
      epc := b.epc.onKeyOff.reform b.settings.epc }.withReports f l q'
        { m with queue := m.keyQueue [.meters, .items], keyList := [] })
    have final := taken.trans hsettled
    have hp : p = .shuttingDown := ((congrArg (fun v : State => v.nvc.power) final :).symm.trans power)
    refine ⟨flight, { m with queue := m.keyQueue [.meters, .items], keyList := [], write := write, power := p }, _,
      (if_neg tkey).trans final, rfl, fun c hc => ?_, ⟨?_, ?_, nofun⟩⟩
    · have kept := State.mem_settle c ({ b with
        epc := b.epc.onKeyOff.reform b.settings.epc }.withReports f l q'
          { m with queue := m.keyQueue [.meters, .items], keyList := [] }) (hq c hc)
      rw [hsettled] at kept
      exact kept
    · rw [hm, settled.frame, hnvc]
      rfl
    · rw [hp]
      exact ⟨nofun, nofun⟩

end Sys2Proof.Machine
end

/-! ## Every block in its starting state (O15) -/

section
namespace Sys2Proof.Machine

open Sys2Proof

section
variable {a : NvArray} {t : State}

theorem frontStarted_of (hspu : t.spu = Spu.start t.settings.spu) (hgeu : t.geu = Geu.start)
    (hcyt : t.cyt = Cyt.start) : frontStarted t := by
  unfold frontStarted
  rw [hspu, hgeu, hcyt]
  refine ⟨rfl, rfl, rfl, rfl, rfl, List.length_map .., fun i c r hc hr => ?_, rfl, rfl, rfl, rfl, rfl, rfl, rfl, rfl,
    rfl, rfl⟩
  have slot : (t.settings.spu.slots.map (SlotRun.start t.settings.spu))[i]? = some r := hr
  rw [List.getElem?_map, hc, Option.map_some, Option.some_inj] at slot
  subst slot
  refine ⟨fun hunused => ?_, fun hused => if_neg hused⟩
  rw [SlotRun.start, if_pos hunused]

theorem zonesFrom_eq (a : NvArray) (r : RecordId) : zonesFrom a r = (restoredZones a r).getD emptyZones := by
  unfold zonesFrom restoredZones
  cases (a.pair r).restored r with
  | none => rfl
  | some c => cases c <;> rfl

theorem itemsFrom_eq (a : NvArray) : itemsFrom a = (restoredItems a).getD emptyItems := by
  unfold itemsFrom restoredItems
  cases h : a.items.restored .items with
  | none => simp [NvArray.pair, h, emptyItems]
  | some c => cases c <;> simp [NvArray.pair, h, emptyItems]

theorem metersFrom_eq (a : NvArray) : metersFrom a = (restoredMeters a).getD (List.replicate 8 0) := by
  unfold metersFrom restoredMeters
  cases h : a.meters.restored .meters with
  | none => simp [NvArray.pair, h]
  | some c => cases c <;> simp [NvArray.pair, h]

theorem aidsStarted_of (hggu : t.ggu = Ggu.start t.settings.ggu)
    (henv : t.env = Env.start (zonesFrom a .zonesSite ++ zonesFrom a .zonesOper)) (hlev : t.lev = Lev.start) :
    aidsStarted a t := by
  unfold aidsStarted
  rw [hggu, henv, hlev]
  refine ⟨rfl, rfl, rfl, rfl, rfl, rfl, ?_, fun e he => ?_, rfl, rfl, rfl, rfl, rfl, rfl, rfl, rfl, fun z hz => ?_, rfl⟩
  · show (List.map ZoneEntry.start _).map ZoneEntry.effective = _
    rw [List.map_map]
    exact List.map_id _
  · obtain ⟨d, -, rfl⟩ := List.mem_map.mp he
    exact ⟨rfl, rfl, rfl, rfl⟩
  · obtain rfl := List.eq_of_mem_replicate hz
    exact ⟨rfl, rfl, rfl, rfl, rfl⟩

theorem planStarted_of (hepc : t.epc = if t.lines.key then Epc.start t.settings.epc
    else (Epc.start t.settings.epc).onKeyOff.reform t.settings.epc) : planStarted t := by
  unfold planStarted engineStarted
  cases hkey : t.lines.key with
  | true =>
    rw [hkey, if_pos rfl] at hepc
    rw [hepc]
    refine ⟨?_, ?_, ?_⟩
    · exact ⟨rfl, rfl, rfl, rfl, rfl, rfl, rfl, rfl, rfl⟩
    · exact ⟨rfl, rfl, rfl, rfl, rfl, rfl, rfl, rfl, rfl⟩
    · simp [Epc.start]
  | false =>
    rw [hkey, if_neg Bool.false_ne_true, Epc.onKeyOff_reform] at hepc
    rw [hepc]
    refine ⟨?_, ?_, ?_⟩
    · exact ⟨rfl, rfl, rfl, rfl, rfl, rfl, rfl, rfl, rfl⟩
    · exact ⟨rfl, rfl, rfl, rfl, rfl, rfl, rfl, rfl, rfl⟩
    · simp [Epc.start]

theorem metersStarted_of {meters : List Nat} (hsmu : t.smu = Smu.restored meters (itemsFrom a))
    (hq : (.consequenceSummary t.smu.summary : Instr) ∈ t.inFlight) : metersStarted a t := by
  unfold metersStarted
  refine ⟨?_, ?_, ?_, ?_, ?_, fun n x i hx hi => ?_, ?_, hq⟩
  · rw [hsmu]
    exact fun r hr => List.eq_of_mem_replicate hr
  · rw [hsmu]; rfl
  · rw [hsmu]; rfl
  · rw [hsmu]; rfl
  · rw [hsmu]
    exact List.length_map ..
  · have item : ((itemsFrom a).map (restoredItem meters))[n]? = some i := by
      rw [hsmu] at hi
      exact hi
    rw [List.getElem?_map, hx, Option.map_some, Option.some_inj] at item
    subst item
    rw [hsmu]
    exact ⟨rfl, rfl, rfl, rfl⟩
  · rw [hsmu]; rfl

theorem noticesStarted_of {l : List NoticeKind} (hlen : t.fhu.ring.length ≤ 15)
    (h : ∀ k : NoticeKind, l.count k = match k with
      | .faultRecorded => t.fhu.ring.length
      | .holdEntered => bit t.fhu.held.isSome
      | _ => 0) : noticesStarted t (countsAfter l (List.replicate 11 0)) := by
  intro k
  have hbit : bit t.fhu.held.isSome ≤ 1 := by cases t.fhu.held.isSome <;> decide
  have small : l.count k ≤ 15 := by
    rw [h k]
    cases k with
    | faultRecorded => exact hlen
    | holdEntered => exact Nat.le_trans hbit (by decide)
    | _ => exact Nat.zero_le _
  rewrite [noticeCount_started small, h k]
  cases k <;> rfl

theorem linksStarted_of {l : List NoticeKind} {fields : List Int} (hA : t.portA = PortA.start.raisedAll l)
    (hB : t.portB = PortB.start)
    (hsli : t.sli = { Sli.start fields with counts := countsAfter l (List.replicate 11 0) })
    (hnotices : noticesStarted t (countsAfter l (List.replicate 11 0))) : linksStarted t := by
  obtain ⟨n, o, hframe⟩ := PortA.raisedAll_frame l PortA.start
  unfold linksStarted
  rw [hA, hframe, hB, hsli]
  exact ⟨rfl, rfl, rfl, rfl, rfl, rfl, rfl, hnotices, rfl, rfl, rfl, rfl, rfl, rfl, hnotices⟩

/-! ### The configuration (R167) -/

theorem restoredConfig_ok {f : List Int} : restoredConfig a = .ok f ↔ usableConfig a f := by
  unfold restoredConfig usableConfig
  show _ ↔ a.config.restored .config = _ ∧ _
  split
  next v fields hr =>
    rw [hr, Option.some_inj, Content.config.injEq]
    by_cases hv : v = Config.layoutVersion
    · rw [if_pos hv]
      cases hk : firstFailingField fields with
      | some k =>
        refine ⟨nofun, ?_⟩
        rintro ⟨⟨-, rfl⟩, hnone⟩
        exact nomatch hk.symm.trans hnone
      | none =>
        refine ⟨fun h => ?_, ?_⟩
        · obtain rfl := Except.ok.inj h
          exact ⟨⟨hv, rfl⟩, hk⟩
        · rintro ⟨⟨-, rfl⟩, -⟩
          rfl
    · rw [if_neg hv]
      exact ⟨nofun, fun h => absurd h.1.1 hv⟩
  next hr => exact ⟨nofun, fun h => absurd h.1 (hr _ _)⟩

theorem configImage_usable {f : List Int} (h : usableConfig a f) : configImage a = some f := by
  unfold configImage
  rw [restoredConfig_ok.mpr h]

theorem configFault_usable {f : List Int} (h : usableConfig a f) : configFault a = none := by
  unfold configFault
  rw [restoredConfig_ok.mpr h]

/-- With no usable record there is a fault to report, and no image. -/
theorem config_unusable (h : ∀ f, ¬usableConfig a f) : configImage a = none ∧ (configFault a).isSome = true := by
  unfold configImage configFault
  cases hc : restoredConfig a with
  | ok f => exact absurd (restoredConfig_ok.mp hc) (h f)
  | error k => exact ⟨rfl, rfl⟩

theorem configFault_image (a : NvArray) : (configImage a).isNone = (configFault a).isSome := by
  unfold configImage configFault
  cases restoredConfig a <;> rfl

theorem configStarted_of (hset : t.settings = Settings.ofFields (runningFields a))
    (hsli : t.sli.config = runningFields a) (himage : t.nvc.image = configImage a)
    (hbuilt : t.nvc.builtIn = (configImage a).isNone)
    (hheld : (configFault a).isSome = true → t.fhu.held.isSome = true) : configStarted a t := by
  refine ⟨fun f hf => ?_, fun hnone => ?_⟩
  · have image := configImage_usable hf
    have running : runningFields a = f := by rw [runningFields, image]; rfl
    rw [hset, hsli, himage, hbuilt, running, image]
    exact ⟨rfl, rfl, rfl, rfl⟩
  · obtain ⟨image, fault⟩ := config_unusable hnone
    have running : runningFields a = builtInFields := by rw [runningFields, image]; rfl
    rw [hset, hsli, himage, hbuilt, running, image]
    exact ⟨rfl, rfl, rfl, rfl, hheld fault⟩

/-! ### The FHU and the NVC (R163, R171, R173) -/

theorem StartReported.held {b : State} {f : Fhu} {l : List NoticeKind} {q : List Instr} (h : StartReported a b f l q)
    (hfault : (configFault a).isSome = true) : f.held.isSome = true := by
  have hold := h.hold
  cases hk : configFault a with
  | none => exact nomatch hk ▸ hfault
  | some k =>
    rw [hk] at hold
    cases hh : (restoredHold a).getD none with
    | none =>
      rw [hh] at hold
      exact congrArg Option.isSome hold.1
    | some c =>
      rw [hh] at hold
      exact congrArg Option.isSome hold.1

theorem startReports_length (a : NvArray) : (startReports a).length ≤ 6 := by
  have failed := failedRecords_length a
  rw [startReports, List.length_append, List.length_map]
  cases configFault a with
  | none => exact Nat.le_succ_of_le failed
  | some k => exact Nat.succ_le_succ failed

theorem faultsStarted_of {b : State} {l : List NoticeKind} (h : StartReported a b t.fhu l t.inFlight) :
    faultsStarted a t :=
  ⟨h.quiet.1, h.quiet.2, h.ring.codes, h.ring.records, h.ring.seq, h.hold, h.entered⟩

theorem storesStarted_of (h : StartSettled a t.lines.key (Nvc.start a (configImage a)) t.nvc) : storesStarted a t := by
  obtain ⟨frame, run, idle⟩ := h
  refine ⟨?_, ?_, ?_, ?_, ?_, run, idle⟩
  · rw [frame]; rfl
  · rw [frame]; rfl
  · rw [frame]; rfl
  · rw [frame]
    exact configFault_image a
  · rw [frame]; rfl

end

/-! ### The start -/

theorem State.blocksStarted_env (meters : List Nat) (s : State) : (s.blocksStarted meters).env
    = Env.start (zonesFrom s.nvc.array .zonesSite ++ zonesFrom s.nvc.array .zonesOper) := by
  rw [zonesFrom_eq, zonesFrom_eq]
  rfl

theorem State.blocksStarted_smu (meters : List Nat) (s : State) :
    (s.blocksStarted meters).smu = Smu.restored meters (itemsFrom s.nvc.array) := by
  rw [itemsFrom_eq]
  rfl

/-- A start from the array leaves every block in its starting state, the meters and the lines as given. -/
theorem State.started_ok (meters : List Nat) (s : State) :
    ∃ t, s.started meters = t ∧ startedOk s.nvc.array t ∧ t.smu.meters = meters ∧ t.lines = s.lines := by
  obtain ⟨b, hb⟩ : ∃ b, s.blocksStarted meters = b := ⟨_, rfl⟩
  have hnvc : b.nvc = Nvc.start s.nvc.array (configImage s.nvc.array) := by rw [← hb]; rfl
  obtain ⟨f, l, q, n, hreported, reported, stores⟩ := State.start_reported (a := s.nvc.array) (b := b)
    (by rw [← hb]; rfl) (by rw [← hb]; rfl) (by rw [← hb]; rfl) (by rw [← hb]; rfl) hnvc
  obtain ⟨q', n', e, hkeyed, he, hq, settled⟩ := State.start_keyed (f := f) (l := l) (q := q) stores hnvc
    reported.quiet.2 (by rw [← hb]; rfl) (by rw [← hb]; rfl) (by rw [← hb]; rfl) (by rw [← hb]; rfl) (by rw [← hb]; rfl)
    (by rw [← hb]; rfl)
  obtain ⟨t, ht⟩ : ∃ t, { b with epc := e }.withReports f l q' n' = t := ⟨_, rfl⟩
  have after := reported.mono hq
  have hfhu : t.fhu = f := by rw [← ht]; rfl
  have hring : t.fhu.ring.length ≤ 15 := by
    have six := startReports_length s.nvc.array
    rw [hfhu, reported.ring.length]
    omega
  have notices : noticesStarted t (countsAfter l (List.replicate 11 0)) := by
    refine noticesStarted_of hring fun k => ?_
    rw [hfhu]
    exact reported.notices k
  refine ⟨t, ?_, ⟨?supply, ?front, ?aids, ?plan, ?meters, ?links, ?config, ?faults, ?stores⟩, ?kept, ?lines⟩
  case supply => rw [← ht, ← hb]; rfl
  case front => exact frontStarted_of (by rw [← ht, ← hb]; rfl) (by rw [← ht, ← hb]; rfl) (by rw [← ht, ← hb]; rfl)
  case aids =>
    refine aidsStarted_of (by rw [← ht, ← hb]; rfl) ?_ (by rw [← ht, ← hb]; rfl)
    rw [← ht, ← State.blocksStarted_env meters, hb]
    rfl
  case plan => exact planStarted_of (by rw [← ht, ← hb]; rw [← hb] at he; exact he)
  case meters =>
    have smu : t.smu = Smu.restored meters (itemsFrom s.nvc.array) := by
      rw [← ht, ← State.blocksStarted_smu meters, hb]
      rfl
    refine metersStarted_of smu ?_
    rw [← ht]
    exact after.summary
  case links =>
    refine linksStarted_of (l := l) (fields := runningFields s.nvc.array) ?_ ?_ ?_ notices
    · rw [← ht, ← hb]; rfl
    · rw [← ht, ← hb]; rfl
    · rw [← ht, ← hb]; rfl
  case config =>
    refine configStarted_of ?_ ?_ ?_ ?_ fun hfault => ?_
    · rw [← ht, ← hb]; rfl
    · rw [← ht, ← hb]; rfl
    · rw [← ht]
      show n'.image = _
      rw [settled.frame, hnvc]
      rfl
    · rw [← ht]
      show n'.builtIn = _
      rw [settled.frame, hnvc]
      rfl
    · rw [hfhu]
      exact reported.held hfault
  case faults =>
    refine faultsStarted_of (b := b) (l := l) ?_
    rw [← ht]
    exact after
  case stores =>
    refine storesStarted_of ?_
    rw [← ht, ← hnvc]
    exact settled
  case kept => rw [← ht, ← hb]; rfl
  case lines => rw [← ht, ← hb]; rfl
  unfold State.started
  dsimp only
  rw [hb, hreported, hkeyed, ht]

/-- Settles O15: both starts are the start from the array, with their meter values. -/
theorem startPutsEveryBlockInItsStartingState : Obligations.StartPutsEveryBlockInItsStartingState := by
  refine ⟨fun s off => ?powerOn, fun s on due => ?restart⟩
  case powerOn =>
    obtain ⟨t, ht, started, meters, lines⟩ :=
      s.started_ok ((restoredMeters s.nvc.array).getD (List.replicate 8 0))
    have powered : s.poweredOn = t := by
      rw [State.poweredOn, off, if_neg Bool.false_ne_true]
      exact ht
    exact ⟨t, by rw [← powered]; rfl, started, meters.trans (metersFrom_eq _).symm, lines⟩
  case restart =>
    obtain ⟨t, ht, started, meters, lines⟩ := (s.taken .supervisorRestart).started_ok s.smu.meters
    exact ⟨t, next_of_on on ((if_pos due).trans ht), started, meters, lines⟩

end Sys2Proof.Machine
end

/-! ## The entries of the service tables (O59) -/

section
namespace Sys2Proof.Machine

open Sys2Proof

/-! ### The numbers an entry holds -/

section
variable {b : List Byte} {pos : Nat}

theorem holdsNat_one {v : Nat} (h : b[pos]? = some (BitVec.ofNat 8 v)) : holdsNat b pos 1 v := by
  intro j hj
  obtain rfl : j = 0 := by omega
  simpa using h

theorem holdsNat_two {v : Nat} (h0 : b[pos]? = some (BitVec.ofNat 8 v))
    (h1 : b[pos + 1]? = some (BitVec.ofNat 8 (v / 256))) : holdsNat b pos 2 v := by
  intro j hj
  match j, hj with
  | 0, _ => simpa using h0
  | 1, _ => simpa using h1

theorem holdsNat_four {v : Nat} (h0 : b[pos]? = some (BitVec.ofNat 8 v))
    (h1 : b[pos + 1]? = some (BitVec.ofNat 8 (v / 256))) (h2 : b[pos + 2]? = some (BitVec.ofNat 8 (v / 256 / 256)))
    (h3 : b[pos + 3]? = some (BitVec.ofNat 8 (v / 256 / 256 / 256))) : holdsNat b pos 4 v := by
  intro j hj
  match j, hj with
  | 0, _ => simpa using h0
  | 1, _ => simpa using h1
  | 2, _ => simpa [Nat.div_div_eq_div_mul] using h2
  | 3, _ => simpa [Nat.div_div_eq_div_mul] using h3

/-- Two bytes of a signed number. -/
theorem holdsInt_two {v : Int} (h0 : b[pos]? = some (BitVec.ofNat 8 (BitVec.ofInt 16 v).toNat))
    (h1 : b[pos + 1]? = some (BitVec.ofNat 8 ((BitVec.ofInt 16 v).toNat / 256))) : holdsInt b pos 2 v := by
  rw [BitVec.toNat_ofInt] at h0 h1
  exact holdsNat_two h0 h1

theorem holdsInt_four {v : Int} (h0 : b[pos]? = some (BitVec.ofNat 8 (BitVec.ofInt 32 v).toNat))
    (h1 : b[pos + 1]? = some (BitVec.ofNat 8 ((BitVec.ofInt 32 v).toNat / 256)))
    (h2 : b[pos + 2]? = some (BitVec.ofNat 8 ((BitVec.ofInt 32 v).toNat / 256 / 256)))
    (h3 : b[pos + 3]? = some (BitVec.ofNat 8 ((BitVec.ofInt 32 v).toNat / 256 / 256 / 256))) : holdsInt b pos 4 v := by
  rw [BitVec.toNat_ofInt] at h0 h1 h2 h3
  exact holdsNat_four h0 h1 h2 h3

theorem holdsInt_one {v : Int} (h : b[pos]? = some (BitVec.ofInt 8 v)) : holdsInt b pos 1 v := by
  refine holdsNat_one (h.trans (congrArg some ?_))
  refine BitVec.eq_of_toNat_eq ?_
  rw [BitVec.toNat_ofInt, BitVec.toNat_ofNat]
  show (v % 256).toNat = (v % 256).toNat % 256
  omega

/-- Six zero bytes. -/
theorem holdsNat_zeros (h : (b.drop pos).take 6 = List.replicate 6 0) : holdsNat b pos 6 0 := by
  intro j hj
  have read : ((b.drop pos).take 6)[j]? = (List.replicate 6 (0 : Byte))[j]? := by rw [h]
  rw [List.getElem?_take_of_lt hj, List.getElem?_drop, List.getElem?_replicate_of_lt hj] at read
  rw [read, Nat.zero_div]
  rfl

end

/-- A byte whose low bits are stated holds them. -/
theorem State.lowBits_mod {k v : Nat} (hk : k ≤ 8) (hv : v < 2 ^ k) (i pos : Nat) (s : State) :
    (s.lowBits k v i pos).toNat % 2 ^ k = v := by
  unfold State.lowBits
  rw [BitVec.toNat_ofNat, Nat.mod_mod_of_dvd _ (Nat.pow_dvd_pow 2 hk), Nat.add_mul_mod_self_right, Nat.mod_mod,
    Nat.mod_eq_of_lt hv]

theorem holdsBits_lowBits {b : List Byte} {pos k v i p : Nat} {s : State} (hk : k ≤ 8) (hv : v < 2 ^ k)
    (h : b[pos]? = some (s.lowBits k v i p)) : holdsBits b pos k v :=
  ⟨_, h, State.lowBits_mod hk hv i p s⟩

/-! ### The entries (R74, R147, R149, R157, R191) -/

section
variable (s : State)

theorem bit_lt (b : Bool) : bit b < 2 := by
  cases b <;> decide

theorem State.identEntry_shown : entryShown .ident 0 s s.identEntry :=
  ⟨rfl, holdsNat_two rfl rfl, holdsNat_one rfl, holdsNat_one rfl, holdsNat_one rfl,
    holdsBits_lowBits (by decide) (bit_lt _) rfl, holdsNat_two rfl rfl⟩

theorem State.configEntry_shown (i : Nat) : entryShown .config i s (s.configEntry i) := by
  by_cases hi : i = 0
  · subst hi
    exact ⟨rfl, fun _ => holdsNat_four rfl rfl rfl rfl, fun h => absurd h (by decide)⟩
  · have entry : s.configEntry i = leInt32 (fieldAt s.sli.config i) := if_neg hi
    rw [entry]
    exact ⟨rfl, fun h => absurd h hi, fun _ => holdsInt_four rfl rfl rfl rfl⟩

theorem State.zonesEntry_shown (i : Nat) : entryShown .zones i s (s.zonesEntry i) := by
  have side : (if i < 8 then 0 else 1 : Byte) = BitVec.ofNat 8 (if i < 8 then 0 else 1) := by
    split <;> rfl
  refine ⟨rfl, fun e he => ?_⟩
  have entry : s.env.entry i = e := by
    rw [Env.entry, List.getD_eq_getElem?_getD, he]
    rfl
  unfold State.zonesEntry
  rw [side, entry]
  simp only [zoneBytes, leBytes, leInt16, List.cons_append, List.nil_append]
  exact ⟨holdsNat_one rfl, holdsNat_one rfl, holdsNat_two rfl rfl, holdsNat_two rfl rfl, holdsNat_two rfl rfl,
    holdsNat_two rfl rfl, holdsInt_two rfl rfl, holdsNat_two rfl rfl, holdsNat_two rfl rfl, holdsNat_one rfl,
    holdsNat_one rfl, holdsNat_two rfl rfl, holdsNat_one rfl, holdsNat_one rfl, holdsNat_two rfl rfl⟩

/-- The bytes of an item, its first byte as R147 has it, hold the item. -/
theorem itemShown_bytes {x : Item} {first : Nat}
    (h : first = bit x.defn.inUse + 2 * bit x.defn.operatorReset + 4 * bit x.acked + 16 * itemStateCode x.state) :
    itemShown x (ItemDef.bytes first x.defn x.mark) := by
  refine ⟨holdsNat_one ?_, holdsNat_one rfl, holdsNat_one rfl, rfl, holdsNat_four rfl rfl rfl rfl,
    holdsNat_four rfl rfl rfl rfl, holdsNat_four rfl rfl rfl rfl, holdsNat_four rfl rfl rfl rfl⟩
  rw [h]
  obtain ⟨d, mark, st, acked⟩ := x
  cases st with
  | none => rfl
  | some c => cases c <;> rfl

theorem State.itemsEntry_shown (i : Nat) : entryShown .items i s (s.itemsEntry i) :=
  ⟨rfl, itemShown_bytes rfl⟩

theorem State.metersEntry_shown (i : Nat) : entryShown .meters i s (s.metersEntry i) := by
  unfold State.metersEntry State.residueBytes
  by_cases hi : i = 6
  · rw [if_pos hi]
    exact ⟨rfl, holdsNat_one rfl, holdsNat_one rfl, fun h => absurd hi h, holdsNat_four rfl rfl rfl rfl⟩
  · rw [if_neg hi]
    exact ⟨rfl, holdsNat_one rfl, holdsNat_one rfl, fun _ => holdsNat_two rfl rfl, holdsNat_four rfl rfl rfl rfl⟩

theorem holdsCode_number {b : List Byte} {pos : Nat} {c : FaultCode}
    (h : b[pos]? = some (BitVec.ofNat 8 (faultNumber c))) : holdsCode b pos c := by
  refine ⟨faultNumber c - 1, by cases c <;> rfl, holdsNat_one (h.trans ?_)⟩
  cases c <;> rfl

theorem FaultRecord.bytes_shown (r : FaultRecord) : faultShown r r.bytes := by
  unfold FaultRecord.bytes
  simp only [leBytes, leInt16, List.cons_append, List.nil_append]
  exact ⟨holdsNat_four rfl rfl rfl rfl, holdsCode_number rfl, holdsNat_one rfl, holdsNat_one rfl, holdsNat_one rfl,
    holdsInt_two rfl rfl, holdsNat_four rfl rfl rfl rfl, holdsNat_two rfl rfl, holdsInt_two rfl rfl,
    holdsInt_two rfl rfl, holdsNat_four rfl rfl rfl rfl⟩

theorem State.faultsEntry_shown (i : Nat) : entryShown .faults i s (s.faultsEntry i) := by
  unfold State.faultsEntry entryShown
  cases s.fhu.ring[i]? with
  | none =>
    exact ⟨rfl, fun r hr => absurd hr.symm (Option.some_ne_none r), fun _ x hx => List.eq_of_mem_replicate hx⟩
  | some r =>
    refine ⟨rfl, fun q hq => ?_, fun h => absurd h (Option.some_ne_none r)⟩
    obtain rfl := Option.some.inj hq
    exact r.bytes_shown

theorem State.targetsEntry_shown (i : Nat) : entryShown .targets i s (s.targetsEntry i) := by
  have pass : i = 0 → s.passByte i = BitVec.ofNat 8 s.ggu.passes := fun hi => if_pos hi
  unfold State.targetsEntry entryShown
  cases s.ggu.targets[i]? with
  | none =>
    exact ⟨rfl, fun x hx => absurd hx.symm (Option.some_ne_none x),
      fun _ => ⟨holdsNat_one rfl, holdsNat_zeros rfl⟩, fun hi => holdsNat_one (congrArg some (pass hi))⟩
  | some x =>
    simp only [leInt16, leBytes, List.cons_append, List.nil_append]
    refine ⟨rfl, fun y hy => ?_, fun h => absurd h (Option.some_ne_none x), fun hi =>
      holdsNat_one (congrArg some (pass hi))⟩
    obtain rfl := Option.some.inj hy
    exact ⟨holdsNat_one rfl, holdsInt_one rfl, holdsInt_two rfl rfl, holdsInt_two rfl rfl, holdsInt_two rfl rfl,
      holdsInt_two rfl rfl, holdsInt_two rfl rfl, holdsInt_two rfl rfl, holdsInt_one rfl, holdsInt_one rfl,
      holdsInt_one rfl, holdsNat_zeros rfl⟩

/-! ### The STATUS entry -/

/-- Bytes 0 to 3: the hold state and its cause. -/
theorem State.holdBytes_eq :
    ∃ b0 b1 b2 b3, s.holdBytes = [b0, b1, b2, b3] ∧ b0 = BitVec.ofNat 8 (bit s.fhu.held.isSome)
      ∧ (∀ c, s.fhu.held = some c → [b1, b2, b3] = BitVec.ofNat 8 (faultNumber c.code) :: leInt16 c.detail)
      ∧ (s.fhu.held = none → b1 = 0) := by
  unfold State.holdBytes
  cases s.fhu.held with
  | none => exact ⟨_, _, _, _, rfl, rfl, nofun, fun _ => rfl⟩
  | some c =>
    refine ⟨_, _, _, _, rfl, rfl, fun x hx => ?_, nofun⟩
    obtain rfl := Option.some.inj hx
    rfl

/-- Bytes 18 and 19: the attention label and its presence. -/
theorem State.labelBytes_eq :
    ∃ b0, s.labelBytes = [b0, s.lowBits 1 (bit (attentionLabel s.smu.items).isSome) 0 19]
      ∧ ∀ l, attentionLabel s.smu.items = some l → b0 = l := by
  unfold State.labelBytes
  cases attentionLabel s.smu.items with
  | none => exact ⟨_, rfl, nofun⟩
  | some l => exact ⟨_, rfl, fun x hx => Option.some.inj hx⟩

/-- Bytes 20 to 23: the frame number of the latest pose record. -/
theorem State.poseBytes_eq :
    ∃ b0 b1 b2 b3, s.poseBytes = [b0, b1, b2, b3]
      ∧ ∀ r, s.geu.current = some r → [b0, b1, b2, b3] = leBytes 4 r.pose.frame.toNat := by
  unfold State.poseBytes
  cases s.geu.current with
  | none => exact ⟨_, _, _, _, rfl, fun r hr => absurd hr.symm (Option.some_ne_none r)⟩
  | some r =>
    refine ⟨_, _, _, _, rfl, fun x hx => ?_⟩
    obtain rfl := Option.some.inj hx
    rfl

/-- The attention label, from the items that ask for attention in each state. -/
theorem attentionLabel_asks (items : List Item) :
    attentionLabel items = ((items.find? fun i => i.state == some .overdue && !i.acked).or
      ((items.find? fun i => i.state == some .due && !i.acked).or
        (items.find? fun i => i.state == some .dueSoon && !i.acked))).map fun i => i.defn.label := by
  rw [attentionLabel_eq, firstIn_eq (by decide), firstIn_eq (by decide), firstIn_eq (by decide)]

theorem State.statusMarks_lt : s.statusMarks < 2 ^ 4 := by
  have h1 := bit_lt s.fhu.unstored
  have h2 := bit_lt s.env.unstoredSite
  have h3 := bit_lt s.env.unstoredOper
  have h4 := bit_lt s.nvc.restartPending
  unfold State.statusMarks
  omega

theorem State.statusEntry_shown : entryShown .status 0 s s.statusEntry := by
  obtain ⟨h0, h1, h2, h3, hold, held, cause, clear⟩ := s.holdBytes_eq
  obtain ⟨l0, label, shown⟩ := s.labelBytes_eq
  obtain ⟨p0, p1, p2, p3, pose, frame⟩ := s.poseBytes_eq
  have attention : BitVec.ofNat 8 (attentionCount s.smu.items) = BitVec.ofNat 8 (s.smu.items.countP fun i =>
      i.state == some .dueSoon && !i.acked || i.state == some .due && !i.acked
        || i.state == some .overdue && !i.acked) :=
    congrArg (fun f => BitVec.ofNat 8 (s.smu.items.countP f)) (funext Item.wantsAttention_eq)
  unfold entryShown statusShown
  dsimp only
  rw [← attentionLabel_asks]
  unfold State.statusEntry
  rw [hold, label, pose, attention, held]
  simp only [leBytes, List.cons_append, List.nil_append]
  refine ⟨rfl, holdsNat_one rfl, fun c hc => ?_, fun hn => holdsNat_one (congrArg some (clear hn)), holdsNat_one rfl,
    holdsBits_lowBits (by decide) s.statusMarks_lt rfl, holdsNat_one rfl, holdsNat_one rfl, holdsNat_one ?_,
    holdsNat_one rfl, holdsNat_one rfl, holdsNat_one rfl, holdsNat_one rfl, holdsNat_one rfl, holdsNat_one rfl,
    holdsNat_one rfl, holdsNat_one rfl, holdsNat_one rfl, fun l hl => congrArg some (shown l hl),
    holdsBits_lowBits (by decide) (bit_lt _) rfl, fun r hr => ?_, holdsNat_two rfl rfl, holdsNat_two rfl rfl,
    holdsNat_two rfl rfl, holdsNat_one rfl, holdsNat_one rfl⟩
  · have bytes := cause c hc
    injection bytes with c1 rest
    injection rest with c2 rest
    injection rest with c3
    exact ⟨holdsCode_number (congrArg some c1), holdsInt_two (congrArg some c2) (congrArg some c3)⟩
  · cases s.epc.lead with
    | none => rfl
    | some e => cases e <;> rfl
  · have bytes := frame r hr
    injection bytes with f0 rest
    injection rest with f1 rest
    injection rest with f2 rest
    injection rest with f3
    exact holdsNat_four (congrArg some f0) (congrArg some f1) (congrArg some f2) (congrArg some f3)

/-- Every entry within its table is shown as its owner holds it. -/
theorem State.tableEntry_shown {t : Table} {i : Nat} (h : i < tableEntries t) :
    entryShown t i s (s.tableEntry t i) := by
  cases t with
  | ident => exact s.identEntry_shown
  | config => exact s.configEntry_shown i
  | zones => exact s.zonesEntry_shown i
  | items => exact s.itemsEntry_shown i
  | meters => exact s.metersEntry_shown i
  | faults => exact s.faultsEntry_shown i
  | targets => exact s.targetsEntry_shown i
  | status => exact s.statusEntry_shown

end

end Sys2Proof.Machine
end

/-! ## The cursor: select, read, and a write that is refused (O59) -/

section
namespace Sys2Proof.Machine

open Sys2Proof

/-! ### The numbers of the bytes of a written entry -/

section
variable (l : List Byte)

theorem natAt_getD (pos k : Nat) : natAt l pos (k + 1) = (l.getD pos 0).toNat + 256 * natAt l (pos + 1) k := by
  unfold natAt bytesAt
  by_cases h : pos < l.length
  · rw [List.drop_eq_getElem_cons h, List.take_succ_cons, List.getD_eq_getElem _ _ h]
    rfl
  · have rest : l.length ≤ pos := Nat.le_of_not_lt h
    rw [List.drop_eq_nil_of_le rest, List.drop_eq_nil_of_le (Nat.le_succ_of_le rest), List.getD_eq_default _ _ rest,
      List.take_nil, List.take_nil]
    rfl

theorem natAt_byte (pos : Nat) : natAt l pos 1 = (l.getD pos 0).toNat := natAt_getD l pos 0

theorem natAt_pair (pos : Nat) : natAt l pos 2 = (l.getD pos 0).toNat + 256 * (l.getD (pos + 1) 0).toNat := by
  rw [natAt_getD, natAt_byte]

theorem natAt_quad (pos : Nat) : natAt l pos 4 = natAt l pos 2 + 65536 * natAt l (pos + 2) 2 := by
  rw [natAt_getD, natAt_getD, natAt_pair l pos, Nat.add_assoc pos 1 1]
  omega

theorem natAt_pair_lt (pos : Nat) : natAt l pos 2 < 65536 := by
  rw [natAt_pair]
  have low := (l.getD pos 0).isLt
  have high := (l.getD (pos + 1) 0).isLt
  omega

theorem int32At_eq (pos : Nat) : int32At l pos =
    if natAt l pos 4 < 2147483648 then (natAt l pos 4 : Int) else (natAt l pos 4 : Int) - 4294967296 := by
  have small : natAt l pos 4 < 4294967296 := by
    have low := natAt_pair_lt l pos
    have high := natAt_pair_lt l (pos + 2)
    rw [natAt_quad]
    omega
  unfold int32At
  rw [BitVec.toInt_eq_toNat_cond, BitVec.toNat_ofNat, Nat.mod_eq_of_lt small]
  by_cases h : natAt l pos 4 < 2147483648
  · rw [if_pos h, if_pos (by omega)]
  · rw [if_neg h, if_neg (by omega)]
    rfl

theorem int16At_eq (pos : Nat) : int16At l pos =
    if natAt l pos 2 < 32768 then (natAt l pos 2 : Int) else (natAt l pos 2 : Int) - 65536 := by
  have small := natAt_pair_lt l pos
  unfold int16At
  rw [BitVec.toInt_eq_toNat_cond, BitVec.toNat_ofNat, Nat.mod_eq_of_lt small]
  by_cases h : natAt l pos 2 < 32768
  · rw [if_pos h, if_pos (by omega)]
  · rw [if_neg h, if_neg (by omega)]
    rfl

/-- The fields of a ZONES entry, from its bytes (R74). -/
theorem zoneFieldsAt_eq : zoneFieldsAt l =
    { kind := natAt l 0 1, mode := natAt l 1 1, s := BitVec.ofNat 16 (natAt l 2 2), e := BitVec.ofNat 16 (natAt l 4 2)
      reachMin := natAt l 6 2, reachMax := natAt l 8 2
      limit := if natAt l 10 2 < 32768 then (natAt l 10 2 : Int) else (natAt l 10 2 : Int) - 65536
      stop := natAt l 12 2, band := natAt l 14 2 } := by
  rw [← int16At_eq]
  rfl

end

/-! ### Select (R191) -/

theorem tableOf_none {n : Nat} (h : 7 < n) : tableOf n = none := by
  obtain ⟨m, rfl⟩ := Nat.exists_eq_add_of_le' h
  rfl

section
variable {u : State}

theorem State.select_within {n i : Nat} {tb : Table} (htb : tableOf n = some tb) (hi : i < tableEntries tb) :
    u.select n i = State.answerPlain .accepted { u with sli := { u.sli with table := tb, index := i } } := by
  unfold State.select
  rw [htb]
  exact if_pos hi

theorem State.select_outside {n i : Nat} (h : ∀ tb, tableOf n = some tb → tableEntries tb ≤ i) :
    u.select n i = u.answerPlain .refusedRange := by
  unfold State.select
  cases htb : tableOf n with
  | none => rfl
  | some tb => exact if_neg (Nat.not_lt.mpr (h tb htb))

end

/-- A select within the tables moves the cursor, any other leaves it. -/
theorem exec_selectTable {n i : Nat} {s : State} {tag bt : Byte} {busy : Bool} (on : s.supply = true)
    (h : s.sli.buffer = .pending tag busy bt) :
    ∃ t a, exec (.selectTable n i) s = .next t ∧ t.sli.buffer = .ready a ∧ a.tag = tag ∧ a.returned = 0
      ∧ t = { s with sli := t.sli, freeCount := t.freeCount, inFlight := s.inFlight.erase (.selectTable n i) }
      ∧ (∀ tb, tableOf n = some tb → i < tableEntries tb →
          a.result = .accepted ∧ t.sli.table = tb ∧ t.sli.index = i)
      ∧ (∀ tb, tableOf n = some tb → tableEntries tb ≤ i → a.result = .refusedRange
          ∧ t.sli.table = s.sli.table ∧ t.sli.index = s.sli.index)
      ∧ (7 < n → a.result = .refusedRange ∧ t.sli.table = s.sli.table ∧ t.sli.index = s.sli.index) := by
  by_cases hin : ∃ tb, tableOf n = some tb ∧ i < tableEntries tb
  · obtain ⟨tb, htb, hi⟩ := hin
    let moved := { s.taken (.selectTable n i) with sli := { s.sli with table := tb, index := i } }
    obtain ⟨a, hans, htag, hres, -, -, hret, -⟩ := State.answerLink_ready (s := moved) h .accepted none none 0 []
    refine ⟨_, a, next_of_on on ((State.select_within htb hi).trans hans), rfl, htag, hret, rfl, ?_, ?_, ?_⟩
    · rintro tb' htb' -
      rw [htb] at htb'
      exact ⟨hres, Option.some.inj htb', rfl⟩
    · intro tb' htb' hout
      rw [htb] at htb'
      obtain rfl := Option.some.inj htb'
      exact absurd hi (Nat.not_lt.mpr hout)
    · intro hn
      rw [tableOf_none hn] at htb
      cases htb
  · have outside : ∀ tb, tableOf n = some tb → tableEntries tb ≤ i :=
      fun tb htb => Nat.le_of_not_lt fun hi => hin ⟨tb, htb, hi⟩
    obtain ⟨a, hans, htag, hres, -, -, hret, -⟩ := State.answerLink_ready
      (s := s.taken (.selectTable n i)) h .refusedRange none none 0 []
    exact ⟨_, a, next_of_on on ((State.select_outside outside).trans hans), rfl, htag, hret, rfl,
      fun tb htb hi => absurd hi (Nat.not_lt.mpr (outside tb htb)), fun _ _ _ => ⟨hres, rfl, rfl⟩,
      fun _ => ⟨hres, rfl, rfl⟩⟩

/-! ### Read (R191) -/

section
variable {size : Nat} {f : Nat → List Byte}

theorem flatMap_length {k : Nat} (h : ∀ j, j < k → (f j).length = size) :
    ((List.range k).flatMap f).length = k * size := by
  induction k with
  | zero => simp
  | succ k ih =>
    rw [List.range_succ, List.flatMap_append, List.length_append, ih fun j hj => h j (Nat.lt_succ_of_lt hj),
      Nat.succ_mul]
    simpa using h k k.lt_succ_self

/-- Entries of one size, laid end to end, are the pieces of the whole. -/
theorem pieceOf_flatMap {k : Nat} (h : ∀ j, j < k → (f j).length = size) {j : Nat} (hj : j < k) :
    pieceOf size j ((List.range k).flatMap f) = f j := by
  induction k with
  | zero => exact absurd hj (Nat.not_lt_zero j)
  | succ k ih =>
    have before : ∀ j, j < k → (f j).length = size := fun j hj => h j (Nat.lt_succ_of_lt hj)
    have whole : (List.range (k + 1)).flatMap f = (List.range k).flatMap f ++ f k := by
      rw [List.range_succ, List.flatMap_append, List.flatMap_singleton]
    have len := flatMap_length before
    unfold pieceOf at *
    rw [whole]
    rcases Nat.lt_succ_iff_lt_or_eq.mp hj with hlt | rfl
    · have room : j * size + size ≤ k * size := by
        rw [← Nat.succ_mul]
        exact Nat.mul_le_mul_right size hlt
      rw [List.drop_append_of_le_length (by omega), List.take_append_of_le_length (by rw [List.length_drop]; omega),
        ih before hlt]
    · rw [List.drop_left' len, List.take_of_length_le (Nat.le_of_eq (h j j.lt_succ_self))]

end

theorem entryShown_taken {t : Table} {i : Nat} {c : Instr} {s : State} {b : List Byte}
    (h : entryShown t i (s.taken c) b) : entryShown t i s b := by
  cases t <;> exact h

theorem entrySize_pos (t : Table) : 0 < entrySize t := by
  cases t <;> decide

theorem byte_toNat {n : Nat} (h : n ≤ 255) : (BitVec.ofNat 8 n).toNat = n := by
  rw [BitVec.toNat_ofNat]
  omega

/-- A read copies the entries of the cursor table and moves the cursor past them. -/
theorem exec_readEntries {n : Nat} {s : State} {tag bt : Byte} {busy : Bool} (on : s.supply = true)
    (h : s.sli.buffer = .pending tag busy bt) (hn : 1 ≤ n) (hn' : n ≤ 255)
    (hin : s.sli.index ≤ tableEntries s.sli.table) :
    ∃ t a k, exec (.readEntries n) s = .next t ∧ t.sli.buffer = .ready a ∧ a.result = .accepted
      ∧ k = min (min n (tableEntries s.sli.table - s.sli.index)) (384 / entrySize s.sli.table)
      ∧ a.returned.toNat = k ∧ a.residue.toNat = n - k ∧ t.sli.index = s.sli.index + k
      ∧ a.data.length = k * entrySize s.sli.table ∧ t.sli.table = s.sli.table
      ∧ (∀ j, j < k →
          entryShown s.sli.table (s.sli.index + j) s (pieceOf (entrySize s.sli.table) j a.data))
      ∧ t = { s with sli := t.sli, freeCount := t.freeCount
                     inFlight := s.inFlight.erase (.readEntries n) } := by
  let u := s.taken (.readEntries n)
  have few : readCount s.sli n ≤ n ∧ readCount s.sli n ≤ tableEntries s.sli.table - s.sli.index := by
    unfold readCount
    omega
  have shown : ∀ j, j < readCount s.sli n →
      entryShown s.sli.table (s.sli.index + j) u (u.tableEntry s.sli.table (s.sli.index + j)) :=
    fun j hj => u.tableEntry_shown (by omega)
  obtain ⟨a, hans, htag, hres, hresidue, -, hret, hdata⟩ := State.answerLink_ready
    (s := u.moveCursor (readCount s.sli n)) h .accepted
    (some (BitVec.ofNat 8 (n - readCount s.sli n))) none (BitVec.ofNat 8 (readCount s.sli n))
    (u.readData (readCount s.sli n))
  have run : u.readTable n = _ := (if_neg (by omega)).trans hans
  refine ⟨_, a, _, next_of_on on run, rfl, hres, rfl, ?_, ?_, rfl, ?_, rfl,
    fun j hj => entryShown_taken (c := .readEntries n) ?_, rfl⟩
  · rw [hret]
    exact byte_toNat (by omega)
  · rw [hresidue _ rfl]
    exact byte_toNat (by omega)
  · rw [hdata]
    exact flatMap_length fun j hj => (shown j hj).1
  · have piece : pieceOf (entrySize s.sli.table) j (u.readData (readCount s.sli n)) = _ :=
      pieceOf_flatMap (fun j hj => (shown j hj).1) hj
    rw [hdata, piece]
    exact shown j hj

theorem exec_readEntries_none {s : State} {tag bt : Byte} {busy : Bool} (on : s.supply = true)
    (h : s.sli.buffer = .pending tag busy bt) :
    ∃ t a, exec (.readEntries 0) s = .next t ∧ t.sli.buffer = .ready a ∧ a.result = .refusedRange
      ∧ t.sli.index = s.sli.index ∧ t.sli.table = s.sli.table := by
  obtain ⟨a, hans, htag, hres, -⟩ :=
    State.answerLink_ready (s := s.taken (.readEntries 0)) h .refusedRange none none 0 []
  exact ⟨_, a, next_of_on on ((if_pos rfl).trans hans), rfl, hres, rfl, rfl⟩

/-! ### A write that is refused whole (R192) -/

section
variable {n : Nat} {data : List Byte} {s : State} {tag bt : Byte} {busy : Bool}

/-- A write of one answer for the whole: the answer, and the cursor where it stood. -/
theorem exec_writeEntries_refused (on : s.supply = true) (h : s.sli.buffer = .pending tag busy bt) (hn : n ≤ 255)
    {r : ResultCode}
    (hw : (s.taken (.writeEntries n data)).writeTable n data
      = (s.taken (.writeEntries n data)).answerLink r (writeResidue n 0) none 0 []) :
    ∃ t a, exec (.writeEntries n data) s = .next t ∧ t.sli.buffer = .ready a ∧ a.result = r
      ∧ a.residue.toNat = n ∧ t.sli.index = s.sli.index := by
  obtain ⟨a, hans, -, hres, hresidue, -⟩ := State.answerLink_ready (s := s.taken (.writeEntries n data)) h r
    (writeResidue n 0) none 0 []
  refine ⟨_, a, next_of_on on (congrArg State.settle (hw.trans hans)), ?_, hres, ?_, ?_⟩
  · rw [State.settle_sli]
  · rw [hresidue _ rfl]
    exact byte_toNat hn
  · rw [State.settle_sli]
    rfl

theorem State.writeTable_length {u : State} (h : data.length ≠ n * entrySize u.sli.table) :
    u.writeTable n data = u.answerLink .refusedRange (writeResidue n 0) none 0 [] :=
  if_pos (Or.inr h)

theorem State.writeTable_owner {u : State} (hn : 1 ≤ n) (h : data.length = n * entrySize u.sli.table)
    (hw : tableWritable u.sli.table = false) :
    u.writeTable n data = u.answerLink .refusedNotOwner (writeResidue n 0) none 0 [] := by
  unfold State.writeTable
  rw [if_neg (by omega), hw]
  rfl

end

end Sys2Proof.Machine
end

/-! ## Writes through the cursor, entry by entry; ZONES and CONFIG (O59) -/

section
namespace Sys2Proof.Machine

open Sys2Proof

/-! ### The entries taken in turn (R192) -/

/-- A property `P` of the number of entries taken and the state then, which each entry that is taken keeps: it fixes the
cursor, and what the owner of the table answers to the next entry. -/
structure WriteKeeps (tb : Table) (start : Nat) (piece : Nat → List Byte) (said : Nat → ResultCode)
    (P : Nat → State → Prop) : Prop where
  table : ∀ {j u}, P j u → u.sli.table = tb
  index : ∀ {j u}, P j u → u.sli.index = start + j
  result : ∀ {j u}, P j u → start + j < tableEntries tb → entryResult tb (start + j) (piece j) u = said j
  next : ∀ {j u}, P j u → start + j < tableEntries tb → said j = .accepted →
    P (j + 1) ((u.entryWritten tb (start + j) (piece j)).moveCursor 1)

/-- `k` of `n` entries were taken and the write is answered `r`: the first refused entry, the end of the table or the
last entry stops it. -/
def writeStopped (tb : Table) (start n : Nat) (said : Nat → ResultCode) (k : Nat) (r : ResultCode) : Prop :=
  k ≤ n ∧ start + k ≤ tableEntries tb ∧ (∀ j, j < k → said j = .accepted)
    ∧ (k = n ∨ start + k = tableEntries tb → r = .accepted)
    ∧ (k < n → start + k < tableEntries tb → said k ≠ .accepted ∧ r = said k)

section
variable {tb : Table} {start n : Nat} {said : Nat → ResultCode} {P : Nat → State → Prop} {data : List Byte}

theorem drop_entry (size j : Nat) : (data.drop (j * size)).drop size = data.drop ((j + 1) * size) := by
  rw [List.drop_drop, Nat.succ_mul]

theorem WriteKeeps.loop (h : WriteKeeps tb start (fun j => pieceOf (entrySize tb) j data) said P) (m : Nat) :
    ∀ j u, P j u → start + j ≤ tableEntries tb → (∀ i, i < j → said i = .accepted) →
      ∃ k r t, State.writeLoop (entriesOf (entrySize tb) m (data.drop (j * entrySize tb))) j u = (r, k, t) ∧ P k t
        ∧ writeStopped tb start (j + m) said k r := by
  induction m with
  | zero =>
    exact fun j u hp hin taken => ⟨j, .accepted, u, rfl, hp, Nat.le_refl j, hin, taken, fun _ => rfl,
      fun hlt => absurd hlt (Nat.lt_irrefl j)⟩
  | succ m ih =>
    intro j u hp hin taken
    unfold entriesOf State.writeLoop
    rw [h.table hp, h.index hp]
    by_cases hend : tableEntries tb ≤ start + j
    · have full : start + j = tableEntries tb := Nat.le_antisymm hin hend
      exact ⟨j, .accepted, u, if_pos hend, hp, Nat.le_add_right j _, hin, taken, fun _ => rfl,
        fun _ hlt => absurd hlt (Nat.not_lt.mpr hend)⟩
    · have room : start + j < tableEntries tb := Nat.lt_of_not_le hend
      have result : entryResult tb (start + j) ((data.drop (j * entrySize tb)).take (entrySize tb)) u = said j :=
        h.result hp room
      rw [if_neg hend]
      dsimp only
      rw [result, drop_entry]
      by_cases hok : said j = .accepted
      · rw [if_pos hok]
        obtain ⟨k, r, t, loop, hpk, stopped⟩ := ih (j + 1) _ (h.next hp room hok) room fun i hi => by
          rcases Nat.lt_succ_iff_lt_or_eq.mp hi with hlt | rfl
          · exact taken i hlt
          · exact hok
        exact ⟨k, r, t, loop, hpk, by rwa [Nat.add_right_comm] at stopped⟩
      · rw [if_neg hok]
        refine ⟨j, said j, u, rfl, hp, Nat.le_add_right j _, hin, taken, fun hstop => ?_, fun _ _ => ⟨hok, rfl⟩⟩
        omega

theorem State.writeTable_answer {u t : State} {k : Nat} {r : ResultCode} (hn : 1 ≤ n)
    (hlen : data.length = n * entrySize u.sli.table) (hw : tableWritable u.sli.table = true)
    (loop : State.writeLoop (entriesOf (entrySize u.sli.table) n data) 0 u = (r, k, t)) :
    ∃ d, u.writeTable n data = t.answerLink r (writeResidue n k) d 0 []
      ∧ (r ≠ .accepted → d = some (BitVec.ofNat 16 t.sli.index)) := by
  unfold State.writeTable
  rw [if_neg (by omega), hw, loop]
  by_cases hr : r = .accepted
  · subst hr
    exact ⟨none, rfl, fun h => absurd rfl h⟩
  · refine ⟨some (BitVec.ofNat 16 t.sli.index), ?_, fun _ => rfl⟩
    cases r with
    | accepted => exact absurd rfl hr
    | _ => rfl

/-- A write whose length and owner suit, run to the entry that stops it, answered and settled. -/
theorem WriteKeeps.run {s : State} {tag bt : Byte} {busy : Bool}
    (h : WriteKeeps s.sli.table s.sli.index (fun j => pieceOf (entrySize s.sli.table) j data) said P)
    (start_holds : P 0 (s.taken (.writeEntries n data)))
    (waiting : ∀ {k u}, P k u → u.sli.buffer = .pending tag busy bt) (on : s.supply = true) (hn : 1 ≤ n)
    (hlen : data.length = n * entrySize s.sli.table) (hw : tableWritable s.sli.table = true)
    (hin : s.sli.index ≤ tableEntries s.sli.table) :
    ∃ k u a nvc flight, exec (.writeEntries n data) s = .next { u with
        sli := { u.sli with request := none, buffer := .ready a }, freeCount := u.freeCount + 1, nvc := nvc
        inFlight := flight }
      ∧ nvc.queue = u.nvc.queue ∧ P k u ∧ writeStopped s.sli.table s.sli.index n said k a.result ∧ a.tag = tag
      ∧ a.residue = BitVec.ofNat 8 (n - k)
      ∧ (a.result ≠ .accepted → a.detail = BitVec.ofNat 16 (s.sli.index + k)) := by
  obtain ⟨k, r, t, loop, hp, stopped⟩ := h.loop n 0 _ start_holds hin fun i hi => absurd hi (Nat.not_lt_zero i)
  rw [Nat.zero_mul, List.drop_zero] at loop
  rw [Nat.zero_add] at stopped
  obtain ⟨d, answered, hd⟩ := State.writeTable_answer (u := s.taken (.writeEntries n data)) hn hlen hw loop
  obtain ⟨a, hans, htag, hres, hresidue, hdetail, -⟩ := State.answerLink_ready (waiting hp) r (writeResidue n k) d 0 []
  obtain ⟨write, power, flight, hsettle⟩ := State.settle_exists { t with
    freeCount := t.freeCount + 1, sli := { t.sli with request := none, buffer := .ready a } }
  refine ⟨k, t, a, _, flight,
    next_of_on on ((congrArg State.settle (answered.trans hans)).trans hsettle), rfl, hp, hres ▸ stopped, htag,
    hresidue _ rfl, fun hr => hdetail _ ?_⟩
  rw [hd (hres ▸ hr), h.index hp]

end

/-! ### ZONES (R74) -/

/-- The state after `k` entries of ZONES were taken: each is the pending copy of its index. -/
def zonesTaken (s : State) (start : Nat) (piece : Nat → List Byte) (k : Nat) (u : State) : Prop :=
  ∃ entries, u = { s with
      env := { s.env with entries := entries }, sli := { s.sli with index := start + k } }
    ∧ (∀ m, m < start ∨ start + k ≤ m → entries[m]? = s.env.entries[m]?)
    ∧ ∀ j, j < k → entries[start + j]? =
        s.env.entries[start + j]?.map (fun e => { e with pending := zoneDefOf (zoneFieldsAt (piece j)) })

/-- What the ENV answers to the service link for an index of its table. -/
theorem editResult_service {i : Nat} (hi : i < 16) (f : ZoneFields) : editResult 0 7 i f =
    if 8 ≤ i then .refusedNotOwner else if (zoneDefOf f).isSome then .accepted else .refusedRange := by
  have index : within 0 15 i = true := (within_iff ..).2 (by omega)
  unfold editResult
  rw [index]
  by_cases h8 : 8 ≤ i
  · have outside : within 0 7 i = false := Bool.eq_false_iff.2 fun h => by
      have := (within_iff ..).1 h
      omega
    rw [outside, if_pos h8]
    rfl
  · have inside : within 0 7 i = true := (within_iff ..).2 (by omega)
    rw [inside, if_neg h8]
    cases zoneDefOf f <;> rfl

/-- An edit that the ENV accepts becomes the pending copy of its entry. -/
theorem Env.edited_pending {i : Nat} {f : ZoneFields} (v : Env) (h : editResult 0 7 i f = .accepted) :
    v.edited 0 7 i f = { v with entries := v.entries.modify i fun e => { e with pending := zoneDefOf f } } := by
  obtain ⟨d, hd⟩ : ∃ d, zoneDefOf f = some d := by
    refine Option.isSome_iff_exists.1 (Bool.of_not_eq_false fun hnone => ?_)
    unfold editResult at h
    rw [Option.not_isSome_iff_eq_none.1 (Bool.eq_false_iff.1 hnone)] at h
    revert h
    cases within 0 15 i <;> cases within 0 7 i <;> exact fun h => nomatch h
  rw [Env.edited_accepted v h hd, hd]
  rfl

theorem zonesTaken_keeps {s : State} {start : Nat} {piece : Nat → List Byte} {takes : Bool}
    (hs : s.sli.table = .zones) :
    WriteKeeps .zones start piece (fun j => writeResult .zones takes (start + j) (piece j))
      (zonesTaken s start piece) where
  table := by
    rintro j u ⟨entries, rfl, -⟩
    exact hs
  index := by
    rintro j u ⟨entries, rfl, -⟩
    rfl
  result := fun _ hroom => editResult_service hroom _
  next := by
    rintro j u ⟨entries, rfl, others, taken⟩ hroom hok
    have accepted : editResult 0 7 ↑(start + j) (zoneFieldsAt (piece j)) = .accepted :=
      (editResult_service hroom _).trans hok
    refine ⟨entries.modify (start + j) fun e => { e with pending := zoneDefOf (zoneFieldsAt (piece j)) }, ?_,
      fun m hm => ?_, fun i hi => ?_⟩
    · unfold State.entryWritten State.moveCursor
      dsimp only
      rw [Env.edited_pending _ accepted]
      rfl
    · have other : start + j ≠ m := by omega
      rw [List.getElem?_modify_ne _ _ other, others m (by omega)]
    · rcases Nat.lt_succ_iff_lt_or_eq.mp hi with hlt | rfl
      · have other : start + j ≠ start + i := by omega
        rw [List.getElem?_modify_ne _ _ other, taken i hlt]
      · rewrite [List.getElem?_modify_eq, others _ (by omega)]
        rfl

/-! ### CONFIG (R194) -/

/-- The state after `k` entries of CONFIG were taken: each is the value of its field. -/
def configTaken (s : State) (start : Nat) (piece : Nat → List Byte) (k : Nat) (u : State) : Prop :=
  ∃ config, u = { s with sli := { s.sli with index := start + k, config := config } }
    ∧ config.length = s.sli.config.length
    ∧ (∀ f, f + 1 < start ∨ start + k ≤ f + 1 → config[f]? = s.sli.config[f]?)
    ∧ ∀ j f, j < k → f + 1 = start + j → f < s.sli.config.length → config[f]? = some (int32At (piece j) 0)

theorem configTaken_keeps {s : State} {start : Nat} {piece : Nat → List Byte} {takes : Bool}
    (hs : s.sli.table = .config) :
    WriteKeeps .config start piece (fun j => writeResult .config takes (start + j) (piece j))
      (configTaken s start piece) where
  table := by
    rintro j u ⟨config, rfl, -⟩
    exact hs
  index := by
    rintro j u ⟨config, rfl, -⟩
    rfl
  result := fun _ _ => rfl
  next := by
    rintro j u ⟨config, rfl, len, others, taken⟩ hroom hok
    have field : start + j ≠ 0 := fun h0 => by
      have refused : writeResult .config takes (start + j) (piece j) = .refusedRange := if_pos h0
      rw [refused] at hok
      cases hok
    refine ⟨config.set (start + j - 1) (int32At (piece j) 0), ?_, by rw [List.length_set, len], fun f hf => ?_,
      fun i f hi hf hlt => ?_⟩
    · unfold State.entryWritten State.moveCursor
      dsimp only
      rw [if_neg field]
      rfl
    · rw [List.getElem?_set_ne (by omega), others f (by omega)]
    · rcases Nat.lt_succ_iff_lt_or_eq.mp hi with hbefore | rfl
      · rw [List.getElem?_set_ne (by omega), taken i f hbefore hf hlt]
      · obtain rfl : f = start + i - 1 := by omega
        exact List.getElem?_set_self (len ▸ hlt)

end Sys2Proof.Machine
end

/-! ## ITEMS written through the cursor; all of the cursor's operations (O59) -/

section
namespace Sys2Proof.Machine

open Sys2Proof

/-! ### A second service request (R168) -/

section
variable {r : RecordId} {n m : Nvc}

theorem StoreEntry.absorbed_done {e : StoreEntry} {again : Bool} (hs : e.service = true)
    (ha : again = true → e.again = true) : e.absorbed again true = e := by
  obtain ⟨record, a, service⟩ := e
  obtain rfl : service = true := hs
  cases again with
  | false => cases a <;> rfl
  | true =>
    obtain rfl : a = true := ha rfl
    rfl

/-- A service request for a record whose entry has its marks already leaves the queue as it is. -/
theorem Nvc.queueAfter_done (hq : n.queued r = true)
    (h : ∀ e ∈ n.queue, e.record = r → e.service = true ∧ (n.writing r = true → e.again = true)) :
    n.queueAfter r false true = n.queue := by
  have unchanged : ∀ again : Bool, (again = true → n.writing r = true) →
      n.queue.map (fun e => if e.record = r then e.absorbed again true else e) = n.queue := fun again hagain =>
    (List.map_congr_left fun e he => by
      split
      next hr => exact StoreEntry.absorbed_done (h e he hr).1 fun ha => (h e he hr).2 (hagain ha)
      next => rfl).trans (List.map_id _)
  unfold Nvc.queueAfter
  split
  next hw => exact unchanged true fun _ => hw
  next hw =>
    split
    next => exact unchanged false nofun
    next hfind =>
      obtain ⟨e, he, hr⟩ := List.any_eq_true.1 hq
      exact absurd hr (List.find?_eq_none.1 hfind e he)

/-- The entry of a record after a service request for it that was taken has the marks of that request. -/
theorem Nvc.queueAfter_marks (e : StoreEntry) (he : e ∈ n.queueAfter r false true) (hr : e.record = r) :
    e.service = true ∧ (n.writing r = true → e.again = true) := by
  have marked : ∀ again : Bool, e ∈ n.queue.map (fun e => if e.record = r then e.absorbed again true else e) →
      e.service = true ∧ (again = true → e.again = true) := fun again hmem => by
    obtain ⟨x, -, rfl⟩ := List.mem_map.1 hmem
    split at hr
    next hx =>
      rw [if_pos hx]
      exact ⟨Bool.or_true _, fun ha => by rw [StoreEntry.absorbed, ha, Bool.or_true]⟩
    next hx => exact absurd hr hx
  unfold Nvc.queueAfter at he
  split at he
  next hw =>
    obtain ⟨service, again⟩ := marked true he
    exact ⟨service, fun _ => again rfl⟩
  next hw =>
    refine ⟨?_, fun h => absurd h hw⟩
    split at he
    next => exact (marked false he).1
    next hfind =>
      rcases List.mem_append.1 he with hold | hnew
      · exact absurd (decide_eq_true hr) (List.find?_eq_none.1 hfind e hold)
      · rw [List.mem_singleton.1 hnew]

theorem Nvc.requested_write (head service : Bool) : (n.requested r head service).write = n.write := by
  unfold Nvc.requested
  split <;> rfl

/-- A second service request is taken too, and changes nothing more. -/
theorem Nvc.requested_again (ht : n.takes r = true) (hw : n.writing r = true → n.queued r = true)
    (hqueue : m.queue = (n.requested r false true).queue) (hwrite : m.write = n.write) :
    m.takes r = true ∧ (m.requested r false true).queue = m.queue := by
  obtain ⟨e, he, hr, -⟩ := Nvc.requested_service false ht hw
  have queued : m.queued r = true := List.any_eq_true.2 ⟨e, hqueue ▸ he, decide_eq_true hr⟩
  have taken : m.takes r = true := by rw [Nvc.takes, queued, Bool.true_or]
  have writing : m.writing r = n.writing r := by rw [Nvc.writing, Nvc.writing, hwrite]
  refine ⟨taken, ?_⟩
  rw [Nvc.requested_queue r false true m taken]
  refine Nvc.queueAfter_done queued fun x hx hxr => ?_
  rw [hqueue, Nvc.requested_queue r false true n ht] at hx
  rw [writing]
  exact Nvc.queueAfter_marks x hx hxr

end

/-! ### One item defined (R147) -/

section
variable {b : List Byte}

theorem itemDefAt_isSome (b : List Byte) : (itemDefAt b).isSome = itemFits b := by
  unfold itemDefAt itemFits
  dsimp only
  rw [natAt_byte, natAt_byte]
  split
  next h => simpa [and_assoc] using h
  next h => exact (Bool.eq_false_iff.2 fun fits => h (by simpa [and_assoc] using fits)).symm

/-- What the SMU answers to a written entry. -/
theorem itemWriteResult_eq (i : Nat) (u : State) :
    itemWriteResult b u = writeResult .items (u.nvc.takes .items) i b := by
  unfold itemWriteResult writeResult
  rw [← itemDefAt_isSome]
  cases itemDefAt b <;> rfl

theorem writeResult_items_accepted {takes : Bool} {i : Nat} :
    writeResult .items takes i b = .accepted ↔ itemFits b = true ∧ takes = true := by
  unfold writeResult
  cases itemFits b <;> cases takes <;> simp

theorem consequenceOf_eq {n : Nat} (h : n ≤ 3) : consequenceOf n =
    if n = 0 then .none else if n = 1 then .capEconomy else if n = 2 then .excludeE1 else .excludeE2 := by
  interval_cases n <;> rfl

/-- An item given the definition of an entry is as R147 has it. -/
theorem itemWrittenAs_redefined {d : ItemDef} (h : itemDefAt b = some d) (meter : Nat → Nat) (old : Item) :
    itemWrittenAs meter old b (old.redefined d (meter d.basis)) := by
  unfold itemDefAt at h
  dsimp only at h
  split at h
  next fits =>
    obtain rfl := Option.some.inj h
    obtain ⟨-, hcons, -⟩ := fits
    refine ⟨?_, ?_, rfl, ?_⟩
    · rw [← natAt_byte, ← natAt_byte, ← consequenceOf_eq hcons]
      rfl
    · rw [← natAt_byte]
      refine if_congr ?_ rfl rfl
      simp [Item.redefined, Item.reclassified]
    · rw [← natAt_byte]
      rfl
  next => exact nomatch h

/-- The notices of a definition. -/
theorem replicate_defMoved (i j : Item) :
    List.replicate (bit (defMoved i j)) NoticeKind.reminderChanged = reminderOf i j := by
  have moved : defMoved i j = true
      ↔ i.state ≠ j.state ∨ (i.defn.inUse = true ∧ j.defn.inUse = true ∧ i.defn.basis ≠ j.defn.basis) := by
    simp [defMoved, and_assoc]
  unfold reminderOf
  by_cases h : defMoved i j = true
  · rw [if_pos (moved.1 h), h]
    rfl
  · rw [if_neg fun hp => h (moved.2 hp), Bool.eq_false_iff.2 h]
    rfl

end

/-- The SMU with an item replaced. -/
def Smu.withItem (m : Smu) (n : Nat) (x : Item) : Smu :=
  { m with items := m.items.set n x, summary := summaryOf (m.items.set n x) }

/-- The item that a definition makes of item `n`. -/
def Smu.itemDefined (m : Smu) (n : Nat) (d : ItemDef) : Item := (m.item n).redefined d (m.meter d.basis)

theorem State.defineItem_eq (n : Nat) (d : ItemDef) (s : State) : ∃ flight, s.defineItem n d = { s with
    smu := s.smu.withItem n (s.smu.itemDefined n d)
    portA := s.portA.raisedAll (reminderOf (s.smu.item n) (s.smu.itemDefined n d))
    sli := { s.sli with counts := countsAfter (reminderOf (s.smu.item n) (s.smu.itemDefined n d)) s.sli.counts }
    inFlight := flight } := by
  let x := s.smu.itemDefined n d
  have hframe := State.itemsChanged_frame (s.smu.items.set n x) (bit (defMoved (s.smu.item n) x)) s
  obtain ⟨hportA, hsli⟩ := State.itemsChanged_notices (s.smu.items.set n x) (bit (defMoved (s.smu.item n) x)) s
  rw [replicate_defMoved] at hportA hsli
  rw [hportA, hsli] at hframe
  exact ⟨_, hframe⟩

/-- A written entry that is accepted: its store is requested, and its item defined. -/
theorem State.itemWritten_defined {n : Nat} {b : List Byte} {d : ItemDef} {u : State} (hd : itemDefAt b = some d)
    (h : itemWriteResult b u = .accepted) : ∃ flight, u.itemWritten n b = { u with
      smu := u.smu.withItem n (u.smu.itemDefined n d), nvc := u.nvc.requested .items false true
      portA := u.portA.raisedAll (reminderOf (u.smu.item n) (u.smu.itemDefined n d))
      sli := { u.sli with counts := countsAfter (reminderOf (u.smu.item n) (u.smu.itemDefined n d)) u.sli.counts }
      inFlight := flight } := by
  unfold State.itemWritten
  rw [hd]
  dsimp only
  rw [State.storeAnd_accepted h]
  exact State.defineItem_eq n d (u.requestStore .items false true)

/-! ### ITEMS (R147) -/

/-- The SMU `m` and the store controller `q` after `k` entries of ITEMS were taken. -/
structure ItemsTaken (s : State) (start : Nat) (piece : Nat → List Byte) (k : Nat) (m : Smu) (q : Nvc) : Prop where
  frame : m = { s.smu with items := m.items, summary := m.summary }
  length : m.items.length = 32
  others : ∀ i, i < start ∨ start + k ≤ i → m.item i = s.smu.item i
  written : ∀ j, j < k → itemWrittenAs s.smu.meter (s.smu.item (start + j)) (piece j) (m.item (start + j))
  untouched : k = 0 → m = s.smu ∧ q = s.nvc
  stored : 1 ≤ k → s.nvc.takes .items = true ∧ m.summary = summaryOf m.items
    ∧ q.queue = (s.nvc.requested .items false true).queue ∧ q.write = s.nvc.write

/-- The notices of `k` items from `start` on that have become those of `m`. -/
def remindersOf (s : State) (start k : Nat) (m : Smu) : List NoticeKind :=
  (List.range k).flatMap fun j => reminderOf (s.smu.item (start + j)) (m.item (start + j))

/-- The state after `k` entries of ITEMS were taken. -/
def itemsTaken (s : State) (start : Nat) (piece : Nat → List Byte) (k : Nat) (u : State) : Prop :=
  ∃ m q flight, u = { s with
      smu := m, nvc := q, inFlight := flight, portA := s.portA.raisedAll (remindersOf s start k m)
      sli := { s.sli with index := start + k, counts := countsAfter (remindersOf s start k m) s.sli.counts } }
    ∧ ItemsTaken s start piece k m q

section
variable {s : State} {start j : Nat} {piece : Nat → List Byte} {m : Smu} {q : Nvc}

theorem ItemsTaken.takes (h : ItemsTaken s start piece j m q)
    (hw : s.nvc.writing .items = true → s.nvc.queued .items = true) : q.takes .items = s.nvc.takes .items := by
  rcases Nat.eq_zero_or_pos j with hj | hj
  · rw [(h.untouched hj).2]
  · obtain ⟨taken, -, hqueue, hwrite⟩ := h.stored hj
    rw [taken, (Nvc.requested_again taken hw hqueue hwrite).1]

/-- The next entry taken. -/
theorem ItemsTaken.next (h : ItemsTaken s start piece j m q)
    (hw : s.nvc.writing .items = true → s.nvc.queued .items = true) (ht : s.nvc.takes .items = true)
    (hroom : start + j < 32) {d : ItemDef} (hd : itemDefAt (piece j) = some d) :
    ItemsTaken s start piece (j + 1) (m.withItem (start + j) (m.itemDefined (start + j) d))
      (q.requested .items false true) where
  frame := by
    rw [h.frame]
    rfl
  length := (List.length_set ..).trans h.length
  others := fun i hi => (Smu.item_set (by rw [h.length]; exact hroom) _ _ i).trans <| by
    rw [if_neg (by omega), h.others i (by omega)]
  written := fun i hi => by
    have item := Smu.item_set (m := m) (by rw [h.length]; exact hroom) (m.itemDefined (start + j) d)
      (summaryOf (m.items.set (start + j) (m.itemDefined (start + j) d))) (start + i)
    rw [Smu.withItem, item]
    rcases Nat.lt_succ_iff_lt_or_eq.mp hi with hlt | rfl
    · rw [if_neg (by omega)]
      exact h.written i hlt
    · have meters : m.meter = s.smu.meter := by
        rw [h.frame]
        rfl
      rw [if_pos rfl, Smu.itemDefined, h.others _ (by omega), meters]
      exact itemWrittenAs_redefined hd _ _
  untouched := nofun
  stored := fun _ => by
    rcases Nat.eq_zero_or_pos j with hj | hj
    · rw [(h.untouched hj).2]
      exact ⟨ht, rfl, rfl, Nvc.requested_write ..⟩
    · obtain ⟨-, -, hqueue, hwrite⟩ := h.stored hj
      exact ⟨ht, rfl, (Nvc.requested_again ht hw hqueue hwrite).2.trans hqueue, (Nvc.requested_write ..).trans hwrite⟩

/-- The notices with one more item defined. -/
theorem remindersOf_succ (hroom : start + j < m.items.length) (x : Item) :
    remindersOf s start (j + 1) (m.withItem (start + j) x)
      = remindersOf s start j m ++ reminderOf (s.smu.item (start + j)) x := by
  have item := fun i => Smu.item_set (m := m) hroom x (summaryOf (m.items.set (start + j) x)) (start + i)
  unfold remindersOf Smu.withItem
  rw [List.range_succ, List.flatMap_append, List.flatMap_singleton, item, if_pos rfl]
  refine congrArg (· ++ _) (List.flatMap_congr fun i hi => ?_)
  have hlt := List.mem_range.1 hi
  rw [item, if_neg (by omega)]

end

theorem itemsTaken_keeps {s : State} {start : Nat} {piece : Nat → List Byte} (hs : s.sli.table = .items)
    (hw : s.nvc.writing .items = true → s.nvc.queued .items = true) :
    WriteKeeps .items start piece (fun j => writeResult .items (s.nvc.takes .items) (start + j) (piece j))
      (itemsTaken s start piece) where
  table := by
    rintro j u ⟨m, q, flight, rfl, -⟩
    exact hs
  index := by
    rintro j u ⟨m, q, flight, rfl, -⟩
    rfl
  result := by
    rintro j u ⟨m, q, flight, rfl, taken⟩ -
    exact (itemWriteResult_eq (start + j) _).trans (congrArg (writeResult .items · _ _) (taken.takes hw))
  next := by
    rintro j u ⟨m, q, flight, hu, taken⟩ hroom hok
    obtain ⟨fits, takes⟩ := writeResult_items_accepted.1 hok
    obtain ⟨d, hd⟩ := Option.isSome_iff_exists.1 ((itemDefAt_isSome (piece j)).trans fits)
    have room : start + j < m.items.length := by
      rw [taken.length]
      exact hroom
    have accepted : itemWriteResult (piece j) u = .accepted := by
      rw [itemWriteResult_eq (start + j), hu, taken.takes hw, hok]
    obtain ⟨flight', defined⟩ := State.itemWritten_defined (n := start + j) hd accepted
    subst hu
    refine ⟨_, _, flight', (congrArg (State.moveCursor 1) defined).trans ?_, taken.next hw takes hroom hd⟩
    rw [remindersOf_succ room, PortA.raisedAll_append, countsAfter_append, ← taken.others _ (Or.inr (Nat.le_refl _))]
    rfl

/-! ### The write answered -/

/-- The answer of a write of which `k` entries were taken, and the cursor behind them (R192). -/
def writeAnswered (s : State) (tag : Byte) (n : Nat) (said : Nat → ResultCode) (t : State) (a : Answer) (k : Nat) :
    Prop :=
  t.sli.buffer = .ready a ∧ a.tag = tag ∧ k ≤ n ∧ s.sli.index + k ≤ tableEntries s.sli.table
    ∧ (∀ j, j < k → said j = .accepted) ∧ a.residue.toNat = n - k ∧ t.sli.index = s.sli.index + k
    ∧ t.sli.table = s.sli.table ∧ (k = n ∨ s.sli.index + k = tableEntries s.sli.table → a.result = .accepted)
    ∧ (k < n → s.sli.index + k < tableEntries s.sli.table →
        said k ≠ .accepted ∧ a.result = said k ∧ a.detail.toNat = s.sli.index + k)

/-- The state after an answer to the service link and the settling of the store. -/
def State.finished (a : Answer) (nvc : Nvc) (flight : List Instr) (u : State) : State :=
  { u with
    sli := { u.sli with request := none, buffer := .ready a }, freeCount := u.freeCount + 1, nvc := nvc
    inFlight := flight }

theorem tableEntries_le (t : Table) : tableEntries t ≤ 137 := by
  cases t <;> decide

section
variable {n k : Nat} {data : List Byte} {s u : State} {tag bt : Byte} {busy : Bool} {said : Nat → ResultCode}
  {P : Nat → State → Prop}

theorem WriteKeeps.answered
    (h : WriteKeeps s.sli.table s.sli.index (fun j => pieceOf (entrySize s.sli.table) j data) said P)
    (start_holds : P 0 (s.taken (.writeEntries n data)))
    (waiting : ∀ {k u}, P k u → u.sli.buffer = .pending tag busy bt) (on : s.supply = true)
    (hn : 1 ≤ n) (hn' : n ≤ 255)
    (hlen : data.length = n * entrySize s.sli.table) (hw : tableWritable s.sli.table = true)
    (hin : s.sli.index ≤ tableEntries s.sli.table) :
    ∃ k u a nvc flight, exec (.writeEntries n data) s = .next (u.finished a nvc flight)
      ∧ writeAnswered s tag n said (u.finished a nvc flight) a k ∧ nvc.queue = u.nvc.queue ∧ P k u := by
  obtain ⟨k, u, a, nvc, flight, run, hqueue, hp, ⟨few, inside, taken, whole, stopped⟩, htag, hresidue, hdetail⟩ :=
    h.run start_holds waiting on hn hlen hw hin
  refine ⟨k, u, a, nvc, flight, run,
    ⟨rfl, htag, few, inside, taken, ?_, (h.index hp :), (h.table hp :), whole, ?_⟩, hqueue, hp⟩
  · rw [hresidue]
    exact byte_toNat (by omega)
  · intro hk hend
    obtain ⟨refused, result⟩ := stopped hk hend
    have small := tableEntries_le s.sli.table
    refine ⟨refused, result, ?_⟩
    rw [hdetail (result ▸ refused), BitVec.toNat_ofNat]
    omega

/-- What a write to ZONES leaves. -/
theorem exec_writeEntries_zones (on : s.supply = true) (h : s.sli.buffer = .pending tag busy bt)
    (hn : 1 ≤ n) (hn' : n ≤ 255) (hlen : data.length = n * entrySize s.sli.table) (htb : s.sli.table = .zones)
    (hin : s.sli.index ≤ tableEntries s.sli.table) :
    let piece (j : Nat) : List Byte := pieceOf (entrySize s.sli.table) j data
    ∃ t a k, exec (.writeEntries n data) s = .next t
      ∧ writeAnswered s tag n (fun j => writeResult s.sli.table (s.nvc.takes .items) (s.sli.index + j) (piece j)) t a k
      ∧ t = { s with env := t.env, sli := t.sli, nvc := t.nvc, inFlight := t.inFlight, freeCount := t.freeCount }
      ∧ t.nvc.queue = s.nvc.queue ∧ t.sli.config = s.sli.config
      ∧ t.env = { s.env with entries := t.env.entries }
      ∧ (∀ m, m < s.sli.index ∨ s.sli.index + k ≤ m → t.env.entries[m]? = s.env.entries[m]?)
      ∧ ∀ j, j < k → t.env.entries[s.sli.index + j]? =
          s.env.entries[s.sli.index + j]?.map (fun e => { e with pending := zoneDefOf (zoneFieldsAt (piece j)) }) := by
  have keeps : WriteKeeps s.sli.table s.sli.index (fun j => pieceOf (entrySize s.sli.table) j data)
      (fun j => writeResult s.sli.table (s.nvc.takes .items) (s.sli.index + j) (pieceOf (entrySize s.sli.table) j data))
      (zonesTaken (s.taken (.writeEntries n data)) s.sli.index fun j => pieceOf (entrySize s.sli.table) j data) := by
    rw [htb]
    exact zonesTaken_keeps htb
  obtain ⟨k, u, a, nvc, flight, run, answered, hqueue, entries, rfl, others, taken⟩ :=
    WriteKeeps.answered (tag := tag) (busy := busy) (bt := bt) keeps
      ⟨s.env.entries, rfl, fun _ _ => rfl, fun j hj => absurd hj (Nat.not_lt_zero j)⟩
      (by rintro k u ⟨entries, rfl, -⟩; exact h) on hn hn' hlen (htb ▸ rfl) hin
  exact ⟨_, a, k, run, answered, rfl, hqueue, rfl, rfl, others, taken⟩

/-- What a write to CONFIG leaves. -/
theorem exec_writeEntries_config (on : s.supply = true) (h : s.sli.buffer = .pending tag busy bt)
    (hn : 1 ≤ n) (hn' : n ≤ 255) (hlen : data.length = n * entrySize s.sli.table) (htb : s.sli.table = .config)
    (hin : s.sli.index ≤ tableEntries s.sli.table) :
    let piece (j : Nat) : List Byte := pieceOf (entrySize s.sli.table) j data
    ∃ t a k, exec (.writeEntries n data) s = .next t
      ∧ writeAnswered s tag n (fun j => writeResult s.sli.table (s.nvc.takes .items) (s.sli.index + j) (piece j)) t a k
      ∧ t = { s with sli := t.sli, nvc := t.nvc, inFlight := t.inFlight, freeCount := t.freeCount }
      ∧ t.nvc.queue = s.nvc.queue ∧ t.sli.config.length = s.sli.config.length
      ∧ (∀ f, f + 1 < s.sli.index ∨ s.sli.index + k ≤ f + 1 → t.sli.config[f]? = s.sli.config[f]?)
      ∧ ∀ j f, j < k → f + 1 = s.sli.index + j → f < s.sli.config.length →
          t.sli.config[f]? = some (int32At (piece j) 0) := by
  have keeps : WriteKeeps s.sli.table s.sli.index (fun j => pieceOf (entrySize s.sli.table) j data)
      (fun j => writeResult s.sli.table (s.nvc.takes .items) (s.sli.index + j) (pieceOf (entrySize s.sli.table) j data))
      (configTaken (s.taken (.writeEntries n data)) s.sli.index fun j => pieceOf (entrySize s.sli.table) j data) := by
    rw [htb]
    exact configTaken_keeps htb
  obtain ⟨k, u, a, nvc, flight, run, answered, hqueue, config, rfl, taken⟩ :=
    WriteKeeps.answered (tag := tag) (busy := busy) (bt := bt) keeps
      ⟨s.sli.config, rfl, rfl, fun _ _ => rfl, fun j f hj => absurd hj (Nat.not_lt_zero j)⟩
      (by rintro k u ⟨config, rfl, -⟩; exact h) on hn hn' hlen (htb ▸ rfl) hin
  exact ⟨_, a, k, run, answered, rfl, hqueue, taken⟩

/-- What a write to ITEMS leaves. -/
theorem exec_writeEntries_items (on : s.supply = true) (h : s.sli.buffer = .pending tag busy bt)
    (hn : 1 ≤ n) (hn' : n ≤ 255) (hlen : data.length = n * entrySize s.sli.table) (htb : s.sli.table = .items)
    (hin : s.sli.index ≤ tableEntries s.sli.table) (hitems : s.smu.items.length = 32) (hs : storesOk s) :
    let piece (j : Nat) : List Byte := pieceOf (entrySize s.sli.table) j data
    ∃ t a k, exec (.writeEntries n data) s = .next t
      ∧ writeAnswered s tag n (fun j => writeResult s.sli.table (s.nvc.takes .items) (s.sli.index + j) (piece j)) t a k
      ∧ t = { s with smu := t.smu, sli := t.sli, nvc := t.nvc, portA := t.portA, inFlight := t.inFlight
                     freeCount := t.freeCount }
      ∧ t.smu = { s.smu with items := t.smu.items, summary := t.smu.summary } ∧ t.smu.items.length = 32
      ∧ t.sli.config = s.sli.config
      ∧ (∀ m, m < s.sli.index ∨ s.sli.index + k ≤ m → t.smu.item m = s.smu.item m)
      ∧ (∀ j, j < k → itemWrittenAs s.smu.meter (s.smu.item (s.sli.index + j)) (piece j)
          (t.smu.item (s.sli.index + j)))
      ∧ (k = 0 → t.smu = s.smu ∧ t.nvc.queue = s.nvc.queue)
      ∧ (1 ≤ k → t.smu.summary = summaryOf t.smu.items
          ∧ t.nvc.queue = (s.nvc.requested .items false true).queue
          ∧ ∃ e ∈ t.nvc.queue, e.record = .items ∧ e.service = true)
      ∧ ∃ l, l = (List.range k).flatMap
            (fun j => reminderOf (s.smu.item (s.sli.index + j)) (t.smu.item (s.sli.index + j)))
        ∧ t.portA = s.portA.raisedAll l ∧ t.sli.counts = countsAfter l s.sli.counts := by
  have queued : s.nvc.writing .items = true → s.nvc.queued .items = true := hs.2.queued
  have keeps : WriteKeeps s.sli.table s.sli.index (fun j => pieceOf (entrySize s.sli.table) j data)
      (fun j => writeResult s.sli.table (s.nvc.takes .items) (s.sli.index + j) (pieceOf (entrySize s.sli.table) j data))
      (itemsTaken (s.taken (.writeEntries n data)) s.sli.index fun j => pieceOf (entrySize s.sli.table) j data) := by
    rw [htb]
    exact itemsTaken_keeps (s := s.taken (.writeEntries n data)) htb queued
  obtain ⟨k, u, a, nvc, flight, run, answered, hqueue, m, q, flight', rfl, taken⟩ :=
    WriteKeeps.answered (tag := tag) (busy := busy) (bt := bt) keeps
      ⟨s.smu, s.nvc, _, rfl, rfl, hitems, fun _ _ => rfl, fun j hj => absurd hj (Nat.not_lt_zero j),
        fun _ => ⟨rfl, rfl⟩, fun h1 => absurd h1 (Nat.not_succ_le_zero 0)⟩
      (by rintro k u ⟨m, q, flight, rfl, -⟩; exact h) on hn hn' hlen (htb ▸ rfl) hin
  refine ⟨_, a, k, run, answered, rfl, taken.frame, taken.length, rfl, taken.others, taken.written,
    fun hk => ?_, fun hk => ?_, _, rfl, rfl, rfl⟩
  · obtain ⟨rfl, rfl⟩ := taken.untouched hk
    exact ⟨rfl, hqueue⟩
  · obtain ⟨takes, summary, queue, -⟩ := taken.stored hk
    have after : nvc.queue = (s.nvc.requested .items false true).queue := hqueue.trans queue
    exact ⟨summary, after, after ▸ Nvc.requested_service false takes queued⟩

end

theorem tableWritable_iff (t : Table) : tableWritable t = true ↔ t = .zones ∨ t = .config ∨ t = .items := by
  cases t <;> decide

/-- Settles O59: the bytes of an entry, then each operation on the cursor; a write by its table. -/
theorem cursorSelectsReadsAndWrites : Obligations.CursorSelectsReadsAndWrites := by
  refine ⟨fun b => ⟨fun k => ?_, ?_, ?_⟩, fun n i data s tag bt busy on h => ⟨exec_selectTable on h,
    fun hn hn' hin => exec_readEntries on h hn hn' hin, ?_, ?_, ?_, ?_⟩⟩
  · rw [natAt_quad, natAt_pair, natAt_pair]
  · rw [int32At_eq, natAt_quad, natAt_pair, natAt_pair]
  · rw [zoneFieldsAt_eq]
    simp only [natAt_byte, natAt_pair]
  · rintro rfl
    exact exec_readEntries_none on h
  · exact fun _ hn' hlen => exec_writeEntries_refused on h hn' (State.writeTable_length hlen)
  · exact fun hn hn' hlen hw => exec_writeEntries_refused on h hn' (State.writeTable_owner hn hlen hw)
  · intro hn hn' hlen hw hin hitems hs
    rcases (tableWritable_iff _).1 hw with htb | htb | htb
    · obtain ⟨t, a, k, run, ⟨buffer, htag, few, inside, taken, residue, index, table, whole, stopped⟩, zones⟩ :=
        exec_writeEntries_zones on h hn hn' hlen htb hin
      exact ⟨t, a, k, run, buffer, htag, few, inside, taken, residue, index, table, whole, stopped, fun _ => zones,
        fun other => absurd (htb.symm.trans other) (by decide), fun other => absurd (htb.symm.trans other) (by decide)⟩
    · obtain ⟨t, a, k, run, ⟨buffer, htag, few, inside, taken, residue, index, table, whole, stopped⟩, config⟩ :=
        exec_writeEntries_config on h hn hn' hlen htb hin
      exact ⟨t, a, k, run, buffer, htag, few, inside, taken, residue, index, table, whole, stopped,
        fun other => absurd (htb.symm.trans other) (by decide), fun _ => config,
        fun other => absurd (htb.symm.trans other) (by decide)⟩
    · obtain ⟨t, a, k, run, ⟨buffer, htag, few, inside, taken, residue, index, table, whole, stopped⟩, items⟩ :=
        exec_writeEntries_items on h hn hn' hlen htb hin hitems hs
      exact ⟨t, a, k, run, buffer, htag, few, inside, taken, residue, index, table, whole, stopped,
        fun other => absurd (htb.symm.trans other) (by decide), fun other => absurd (htb.symm.trans other) (by decide),
        fun _ => items⟩

end Sys2Proof.Machine
end
